-- ==== Sys2Proof/Word.lean ====
section
/-! DEFINITION. The word types of the HL7264 (R4, R59, R353) and nothing else. -/
namespace Sys2Proof

/-- A register or half of a 64-bit word. -/
abbrev W32 := BitVec 32
/-- A record, reply or parameter word (R353, R421). -/
abbrev W64 := BitVec 64
/-- The 48-bit tick counter and every stamp of it (R59). -/
abbrev Tick := BitVec 48
/-- The fine part of a stamp, 1,024 to a tick (R59). -/
abbrev Fine := BitVec 10
/-- A register address (R438). -/
abbrev Addr := BitVec 24

end Sys2Proof
end

