-- ==== Sys2Proof/Syntax.lean ====
section
/-! DEFINITION. The commands of the block: one constructor of `Instr` for each row of
spec/opcode_table.json, in the table's order, with the data its happening brings from outside. -/
namespace Sys2Proof

/-- An Atesque command as its target sees it: the fields of C0 (R421) but OPCODE, and the
parameter words of all its packets (R423). -/
structure Cmd where
  cver : BitVec 4 := 4
  noReply : Bool := false
  order : Bool := false
  group : Bool := false
  unit : BitVec 6 := 0
  tag : BitVec 16 := 0
  p : List W64 := []
  deriving DecidableEq, Repr

/-- A record (R353): header fields and payload words. -/
structure Rec where
  type : BitVec 4
  fver : BitVec 4 := 3
  unit : BitVec 6
  source : BitVec 8
  seq : W32
  tick : Tick
  fine : Fine := 0
  trial : Bool := false
  holdover : Bool := false
  fault : Bool := false
  ovf : Bool := false
  late : Bool := false
  cont : Bool := false
  payload : List W64 := []
  deriving DecidableEq, Repr

/-- One unit that ENUMERATE finds below the head, in the depth-first order of R23. -/
structure TreeUnit where
  depth : BitVec 6
  port : BitVec 2
  role : BitVec 2
  ver : BitVec 2
  state : BitVec 4
  rev : BitVec 8
  prev : Option (BitVec 6)
  /-- it is the unit that the step is given to -/
  own : Bool := false
  deriving DecidableEq, Repr

/-- The voltages of a port's checked pins, sample by sample (R242). -/
structure PinSamples where
  port : BitVec 4
  samples : List (List Int)
  deriving DecidableEq, Repr

/-- A time-transfer marker (R397). -/
structure TimeMark where
  depTick : Tick
  depFine : Fine
  trace : Bool
  step : Bool
  align : BitVec 4
  arrTick : Tick
  arrFine : Fine
  stepK : W32
  stepHi : BitVec 25
  seq : BitVec 8
  arrSeq : BitVec 8
  deriving DecidableEq, Repr

/-- A trigger marker (R398): KIND 1h ARM, 2h FIRE, 3h DISARM (R156). -/
structure TrigMark where
  kind : BitVec 4
  origin : BitVec 6
  root : BitVec 6
  tick : Tick
  members : W64 := 0
  srcMask : W32 := 0
  trigId : BitVec 5 := 0
  once : Bool := false
  hold : BitVec 16 := 0
  settle : BitVec 14 := 0
  fine : Fine := 0
  deriving DecidableEq, Repr

/-- One end's words of a negotiation round (R407). -/
structure Round where
  vmax : BitVec 2
  vmin : BitVec 2
  lanes : BitVec 4
  init : Bool
  resume : Bool
  next : BitVec 12
  trstat : BitVec 2
  round : BitVec 3
  /-- DEP of C1, and the arrival of that C1 here -/
  depTick : Tick := 0
  depFine : Fine := 0
  hereTick : Tick := 0
  hereFine : Fine := 0
  /-- ARR of C2: arrival there of this end's C1 of the round before -/
  arrTick : Tick := 0
  arrFine : Fine := 0
  deriving DecidableEq, Repr

/-- A frame (R395) as the receiver's codewords deliver it. -/
structure Frame where
  fsn : BitVec 12
  ack : BitVec 12
  nak : Bool := false
  cred0 : BitVec 16 := 0
  cred1 : BitVec 16 := 0
  /-- the header block's own CRC checks -/
  headerOk : Bool := true
  /-- all 4 codewords decode and the next frame's PCRC matches -/
  ok : Bool := true
  corrected : BitVec 8 := 0
  symbols : BitVec 8 := 0
  recs : List Rec := []
  cmds : List (List W64) := []
  marks : List TrigMark := []
  time : List TimeMark := []
  deriving DecidableEq, Repr

/-- What a trigger condition is shown (R139). -/
inductive CondInput where
  /-- label of the sample, the sample word before it and its own (R131) -/
  | sample (label : Tick) (prev cur : BitVec 16)
  /-- the completing hit's tick and the stamped hits, as channel and tick -/
  | hits (t : Tick) (stamps : List (BitVec 6 × Tick))
  /-- TICK of a result, the calibrated result before it and its own, and its FAULT flag -/
  | precision (t : Tick) (prev cur : BitVec 24) (fault : Bool)
  | trigin (t : Tick) (rising : Bool)
  /-- a FIRE marker of another arming set: its unit and tick -/
  | remoteFire (unit : BitVec 6) (t : Tick)
  | periodic (t : Tick)
  /-- a FIRE command, or an event raise routed to TRG (R456) -/
  | command (t : Tick)
  deriving DecidableEq, Repr

/-- An arrival-kind branch input (R183). -/
inductive BranchInput where
  | line (n : BitVec 3)
  | hit (c : BitVec 6)
  | decision (k : BitVec 5) (value : Bool)
  deriving DecidableEq, Repr

/-- The boundary-scan instructions (R502). -/
inductive TapInstr where
  | bypass | idcode | sample | extest | clamp | highz
  deriving DecidableEq, Repr

/-- Where a record that reaches Sewing comes from (R363). -/
inductive SewFrom where
  | own
  | child (port : Fin 3) (r : Rec)
  deriving DecidableEq, Repr

/-- Acknowledgement of an ARM marker (R146). -/
inductive ArmAck where
  | onTime | late | notArmed
  deriving DecidableEq, Repr

/-- A self-diagnosis cause with its REASON code (R472, R482). -/
inductive Cause where
  | eccCtrl | watchdog | rail | domain | pace | reference | otherCus
  deriving DecidableEq, Repr

/-- The condition behind a capture's or run's overflow (R157, R361). -/
inductive OvfCause where
  | fullQueue | ringOverrun
  deriving DecidableEq, Repr

/-- One loop in a mirror copy (R310). -/
structure LoopCopy where
  state : BitVec 3
  cgen : BitVec 16
  integ : Int
  e1 : W32
  out : W32
  /-- x1, x2, y1, y2 of each section, then of each feed-forward section -/
  sections : List W32
  /-- slot, shift and value of each write, with its sample start (R310) -/
  slots : List ((BitVec 7 × BitVec 5 × W32) × Tick)
  deriving DecidableEq, Repr

/-- A mirror copy (R471). -/
structure MirrorCopy where
  boundary : Tick
  ok : Bool := true
  /-- the partner's CUS_STAT as the block carries it (R479) -/
  stat : W32 := 0
  mask : BitVec 6 := 0
  loops : List (BitVec 4 × LoopCopy) := []
  ao : List (BitVec 5 × BitVec 16) := []
  patState : BitVec 3 := 0
  patSeg : BitVec 10 := 0
  patPass : BitVec 16 := 0
  patVec : BitVec 16 := 0
  patRep : BitVec 16 := 0
  patAcc : W32 := 0
  patReq : Option (BitVec 10) := none
  patLoop : BitVec 16 := 0
  /-- segments of the streamed passes that the active has completed since the last complete copy -/
  passesDone : List (BitVec 10) := []
  armState : BitVec 2 := 0
  armRoot : BitVec 6 := 0
  armTick : Tick := 0
  members : W64 := 0
  armOnce : Bool := false
  hold : BitVec 16 := 0
  settle : BitVec 14 := 0
  seqs : List (BitVec 12 × W32) := []
  tbStatus : W32 := 0
  deriving DecidableEq, Repr

/-- The commands: rows of spec/opcode_table.json. -/
inductive Instr where
  | ident (c : Cmd)
  | negotiate (c : Cmd)
  | enumerate (c : Cmd) (found : List TreeUnit)
  | ping (c : Cmd)
  | regRead (c : Cmd)
  | regWrite (c : Cmd)
  | regModify (c : Cmd)
  | readBlock (c : Cmd)
  | writeBlock (c : Cmd)
  | modeSet (c : Cmd)
  | modeQuery (c : Cmd)
  | domain (c : Cmd)
  | resetUnit (c : Cmd)
  | qRead (c : Cmd)
  | qWrite (c : Cmd)
  | qConfig (c : Cmd)
  | qFlush (c : Cmd)
  | arm (c : Cmd)
  | fire (c : Cmd)
  | disarm (c : Cmd)
  | grade (c : Cmd)
  | calZero (c : Cmd)
  | calFull (c : Cmd)
  | linkAlign (c : Cmd)
  | coeffWrite (c : Cmd)
  | loopFreeze (c : Cmd)
  | loopRelease (c : Cmd)
  | vecLoad (c : Cmd)
  | seqStart (c : Cmd)
  | seqStop (c : Cmd)
  | seqBranch (c : Cmd)
  | pair (c : Cmd)
  | yield (c : Cmd)
  | reclaim (c : Cmd)
  | markerFrame (c : Cmd)
  | trialLink (c : Cmd)
  | trialEvent (c : Cmd)
  | trialEcc (c : Cmd)
  | trialCause (c : Cmd)
  | trialClear (c : Cmd)
  | trialCauseEnd
  | registerWrite (a : Addr) (v : W32)
  | tsyncArm (v : W32)
  | spineRefWrite (v : W32)
  | strb (c : BitVec 5) (v : W32)
  | faFrontEndWrite (a : Addr) (v : W32)
  | claimWrite (a : Addr) (v : W32)
  | patCalStart (v : W32)
  | portSettingsWrite (a : Addr) (v : W32)
  | psFaultClear (p : BitVec 4) (v : W32)
  | pcUrg (v : W32)
  | pcLcommit (v : W32)
  | pcIlvWrite (k : BitVec 3) (v : W32)
  | aoCfgWrite (n : BitVec 5) (v : W32)
  | aoDataWrite (n : BitVec 5) (v : W32)
  | lsFaultClear (n : BitVec 3) (v : W32)
  | bstRestart (v : W32)
  | lpRetest (v : W32)
  | patchEnable (v : W32)
  | gxRetrain (n : Fin 5) (v : W32)
  | mflGo (v : W32)
  | flashCommandDone (data : List (BitVec 8))
  | maintWrite (a : Addr) (v : W32)
  | maintRead (a : Addr)
  | tapInstruction (i : TapInstr)
  | commandPacket (words : List W64) (found : List TreeUnit)
  | packetTimeout
  | groupReplyArrival (r : Rec)
  | groupMergeTimeout (tag : BitVec 16)
  | pendingReply (tag : BitVec 16)
  | watchdogTimeout
  | modeApplyTick
  | modeDrainEnd (modes : BitVec 6)
  | paceWindowEnd (c0 c1 c2 c3 : BitVec 16)
  | pllLock
  | pllLockLoss
  | tickWrap
  | periodicMarker
  | exchangeSend (n : Fin 5)
  | timeTransferMarker (n : Fin 5) (m : TimeMark) (arrTick : Tick) (arrFine : Fine)
  | stepApply
  | referenceLost
  | referenceQualified
  | tsyncEdge (t : Tick) (f : Fine) (rising : Bool)
  | lrefLost
  | lrefQualified
  | leadingEdge (c : BitVec 6) (t : Tick) (bin : BitVec 7) (falling : Bool)
  | intervalOverflow (u : BitVec 4)
  | releaseCrossing (c : BitVec 6) (t : Tick) (bin : BitVec 7)
  | hitRelease (c : BitVec 6)
  | hitAssemble (c : BitVec 6)
  | hitBlockClose (c : BitVec 6)
  | injectionAttempt (c : BitVec 6) (t : Tick) (bin : BitVec 7)
  | gradeSample (c : BitVec 6)
  | tableSwap (c : BitVec 6)
  | gradeStale (c : BitVec 6)
  | periodicResetDue (c : BitVec 5)
  | nearRailResetDue (c : BitVec 5)
  | deferredResetFire (c : BitVec 5)
  | deferLimit (c : BitVec 5)
  | resetStart (c : BitVec 5)
  | resetEnd (c : BitVec 5)
  | clipSample (c : BitVec 5)
  | matchOkChange (k : BitVec 4) (ok : Bool) (est : W32)
  | conditionMet (n : BitVec 5) (input : CondInput)
  | armMarker (m : TrigMark) (port : Fin 5)
  | armAck (unit : BitVec 6) (a : ArmAck)
  | armTickReached
  | armReply
  | fireMarker (m : TrigMark) (port : Fin 5)
  | fireDecide
  | disarmMarker (m : TrigMark) (port : Fin 5)
  | disarmEffect
  | cutComplete (c : BitVec 5)
  | captureOverflow (c : BitVec 5) (cause : OvfCause) (delivered : BitVec 17)
  | triginEdge (t : Tick) (rising : Bool)
  | trigoutStart
  | trigoutEnd
  | sequenceStart
  | vectorIssue
  | vectorStart
  | pulseFall
  | compareStrobe (levels : W32)
  | branchRequest (i : BranchInput)
  | starveResume
  | stoppingExit
  | calibrationEnd (meas : List (BitVec 5 × List (List Int)))
  | gateClose (d : BitVec 4) (g : BitVec 3)
  | scanTurn (k : BitVec 3)
  | settlingEnd (k : BitVec 3)
  | conversionComplete (k : BitVec 3) (helper : Bool) (raw : Int)
  | windowFault (p : BitVec 4) (samples : List (List Int)) (t : Tick)
  | windowGlitch (g : PinSamples)
  | impedanceSlot (k : BitVec 3) (port : Bool)
  | impedanceResult (k : BitVec 3) (loop lead : BitVec 16)
  | calResultsDone (p : BitVec 4)
  | calTimeout (p : BitVec 4)
  | pwfPeriodStart (n : BitVec 3)
  | loopSampleStart (m : BitVec 4)
  | loopOutputLatch (m : BitVec 4)
  | rangeChangeEnd (n : BitVec 5)
  | clrnFall
  | clrnRise
  | hirngLoss
  | hirngReturn
  | aoCurrentLimit (n : BitVec 5)
  | dimmingPeriodStart
  | probeW1End (n : BitVec 3) (sink : BitVec 18) (nearLower nearUpper : Bool)
  | probeW2End (n : BitVec 3) (pinLow : Bool)
  | boostRegulate (vout : BitVec 8)
  | boostOvervoltage
  | boostRetryEnd
  | boostTargetAdapt (reports : List (BitVec 3 × BitVec 8)) (vout : BitVec 8)
  | ltmpRead (code : BitVec 10)
  | markerLatchEnd (c : Bool)
  | markerRefresh (c : Bool)
  | sewingArrival (src : SewFrom)
  | sewingSend
  | sieveDecide (c : BitVec 5)
  | sieveOverflow (c : BitVec 5) (cause : OvfCause)
  | itemAppend (q : BitVec 8) (words : List W64)
  | producerUnblock (q : BitVec 8)
  | itemRemove (q : BitVec 8)
  | stallExpiry (q : BitVec 8)
  | streamStallExpiry
  | retestComplete (passed : BitVec 16)
  | partnerPatternLock (n : Fin 5) (half : Bool)
  | trainComplete (n : Fin 5) (lanes : BitVec 4)
  | trainTimeout (n : Fin 5)
  | negotiationRound (n : Fin 5) (r : Round)
  | roundTimeout (n : Fin 5)
  | frameReceived (n : Fin 5) (f : Frame)
  | nakReceived (n : Fin 5) (ack : BitVec 12)
  | frameSend (n : Fin 5)
  | linkMarkerReceived (n : Fin 5) (m : TrigMark) (crcOk replayed : Bool)
  | recoverComplete (n : Fin 5) (r : Round)
  | recoverTimeout (n : Fin 5)
  | idleEntry (n : Fin 5)
  | idleExit (n : Fin 5)
  | sourceRaise (s : Fin 704)
  | mirrorBoundary
  | copyComplete (c : MirrorCopy)
  | selfDiagnosisCause (c : Cause)
  | handoverNotice (hb : Tick) (reclaim : Bool) (stat : W32)
  | handoverBoundary
  | guardSilent (asserted : Bool)
  | guardConflict
  | outgoingGuardTimeout
  | seekTimeout
  | partnerJoin (stat : W32)
  | vsupRise (tenMv : BitVec 16)
  | vsupFall (tenMv : BitVec 16)
  | vsupWarn (tenMv : BitVec 16)
  | vsupHigh (tenMv : BitVec 16)
  | railOut (k : Fin 7)
  | railFault (k : Fin 7)
  | railReturn (k : Fin 7)
  | tempRead (tcore tfield : BitVec 16)
  | domainUp (d : Fin 27)
  | domainFail (d : Fin 27)
  | resetnLow (ns : BitVec 16)
  | resetnRise
  | romCheckDone (ok : Bool)
  | memoryTestDone (failing : BitVec 16)
  | flashImageRead (image : List W32)
  | samplingInstant (t : Tick) (codes : List (BitVec 14))
  | slewComplete
  | measurementAged
  | unitReset
  | domainOff (d : Fin 27)
  | guardEdgesReturn
  | trainingWindowEnd (n : Fin 5)
  | groupDiscardEnd (tag : BitVec 16)
  deriving DecidableEq, Repr

end Sys2Proof
end

