-- ==== Sys2Proof/Config.lean ====
section
/-! DEFINITION. Values the spec leaves open, as constants with no body: nothing evaluates them and
every claim holds whatever they are. -/
namespace Sys2Proof.Config

/-- A fresh open value: `fresh n` is the n-th one a run takes (log entry 4). -/
opaque fresh : Nat → Nat

/-- Registers whose reset value is set at test: by address (log entry 7). -/
opaque testWord : Nat → W32

/-- D of R88: a timekeeper channel's input-path delay in fine units, measured at test. -/
opaque pathDelay : Nat → Int

/-- R236: EMF of a thermocouple type at a cold-junction temperature, in units of the calibrated
value at a gain code. -/
opaque emf : Nat → Nat → Int → Int

/-- R269: how far the test GAIN of a port and gain code is trimmed from the nominal one, as a code of
18 bits (log entry 21). -/
opaque testTrim : Nat → Nat → Nat

/-- R277: temperature in 0.001 degrees of an EMF of a thermocouple type at a gain code. -/
opaque tcTemp : Nat → Nat → Int → Int

/-- R277: whether a temperature lies in a thermocouple type's range. -/
opaque tcInRange : Nat → Int → Bool

/-- Whether a unit of a lower ID is an ancestor of this one: a fact of the tree that the unit does
not hold (R163). -/
opaque isAncestor : Nat → Nat → Bool

/-- The pair partner's ID, which R147 uses and no message of the spec carries. -/
opaque partnerId : Nat

/-- R415: the next state of a port's injection LFSR. -/
opaque lfsr : BitVec 16 → BitVec 16

/-- R415: whether a draw from an LFSR state acts at a rate. -/
opaque injectHit : BitVec 16 → BitVec 16 → Bool

/-- R414: the payload bit that a corruption inverts, drawn from an LFSR state. -/
opaque injectBit : BitVec 16 → Nat

end Sys2Proof.Config
end

