-- ==== Sys2Proof/Machine/Regs.lean ====
section
/-! DEFINITION. The register map of R462 and R463: every register and table of the spec's register
tables, with each field's bits, type (R4) and reset value. A field is named REGISTER_FIELD as the
spec writes REGISTER.FIELD; an indexed register takes its index or indices as arguments. -/
namespace Sys2Proof.Machine

/-- A field of a register: its register's address and its bits. -/
structure RF where
  addr : Nat
  hi : Nat
  lo : Nat
  deriving DecidableEq, Repr

/-- The field types of R4. -/
inductive FieldType where
  | ro | rw | w1c | rc | ws
  deriving DecidableEq, Repr

/-- One field of a register table. -/
structure FieldRow where
  hi : Nat
  lo : Nat
  type : FieldType
  rst : Nat
  deriving DecidableEq, Repr

/-- A register or a repeated set of one register: base address, count and spacing in two indices. -/
structure RegRow where
  base : Nat
  n1 : Nat
  s1 : Nat
  n2 : Nat
  s2 : Nat
  fields : List FieldRow
  deriving DecidableEq, Repr

/-- Register rows of the block at 000000h (R462). -/
def rowsIdentity : List RegRow := [
  ⟨0x0, 1, 0x4, 1, 0x4, [⟨31, 16, .ro, 0x7264⟩, ⟨15, 8, .ro, 0x5a⟩, ⟨7, 0, .ro, 0xa1⟩]⟩, -- IDENT
  ⟨0x200, 1, 0x4, 1, 0x4, [⟨15, 8, .rw, 0x0⟩, ⟨0, 0, .rw, 0x1⟩]⟩, -- PACE_CTRL
  ⟨0x210, 4, 0x4, 1, 0x4, [⟨31, 16, .ro, 0x0⟩, ⟨15, 0, .ro, 0x0⟩]⟩, -- PACE
  ⟨0x220, 1, 0x4, 1, 0x4, [⟨3, 0, .w1c, 0x0⟩]⟩, -- PACE_LOW
  ⟨0x230, 4, 0x4, 1, 0x4, [⟨15, 0, .rc, 0xffff⟩]⟩, -- PACE_MIN
  ⟨0x10, 1, 0x4, 1, 0x4, [⟨27, 27, .ro, 0x0⟩, ⟨26, 24, .ro, 0x1⟩, ⟨21, 16, .ro, 0x0⟩, ⟨13, 8, .ro, 0x0⟩, ⟨5, 0, .ro, 0x0⟩]⟩, -- MODE_STATUS
  ⟨0x14, 1, 0x4, 1, 0x4, [⟨2, 2, .rw, 0x0⟩, ⟨1, 1, .rw, 0x1⟩, ⟨0, 0, .rw, 0x0⟩]⟩, -- MODE_CFG
  ⟨0x18, 1, 0x4, 1, 0x4, [⟨4, 4, .w1c, 0x0⟩, ⟨3, 3, .w1c, 0x0⟩, ⟨2, 2, .w1c, 0x0⟩, ⟨1, 1, .w1c, 0x0⟩, ⟨0, 0, .w1c, 0x0⟩]⟩, -- FAULT_CAUSE
  ⟨0x20, 1, 0x4, 1, 0x4, [⟨31, 0, .rw, 0x0⟩]⟩, -- CLAIM_FA
  ⟨0x24, 1, 0x4, 1, 0x4, [⟨31, 0, .rw, 0x0⟩]⟩, -- CLAIM_HIT
  ⟨0x28, 1, 0x4, 1, 0x4, [⟨31, 0, .rw, 0x0⟩]⟩, -- CLAIM_SHARE
  ⟨0x2c, 1, 0x4, 1, 0x4, [⟨15, 0, .rw, 0x0⟩]⟩, -- CLAIM_BLANK
  ⟨0x100, 1, 0x4, 1, 0x4, [⟨31, 24, .rw, 0x14⟩, ⟨15, 0, .rw, 0x64⟩]⟩, -- CMD_CFG
  ⟨0x104, 1, 0x4, 1, 0x4, [⟨20, 16, .ro, 0x0⟩, ⟨15, 8, .rc, 0x0⟩, ⟨7, 0, .rc, 0x0⟩]⟩, -- CMD_STAT
  ⟨0x108, 1, 0x4, 1, 0x4, [⟨31, 0, .rc, 0x0⟩]⟩, -- CMD_CNT
  ⟨0x110, 1, 0x4, 1, 0x4, [⟨31, 31, .ro, 0x0⟩, ⟨29, 24, .ro, 0x0⟩, ⟨23, 16, .ro, 0x0⟩, ⟨13, 8, .ro, 0x0⟩]⟩, -- ENUM_STAT
  ⟨0x114, 3, 0x4, 1, 0x4, [⟨31, 31, .ro, 0x0⟩, ⟨29, 24, .ro, 0x0⟩, ⟨21, 16, .ro, 0x0⟩]⟩, -- ENUM_F
  ⟨0x120, 1, 0x4, 1, 0x4, [⟨31, 16, .ro, 0x0⟩, ⟨15, 0, .ro, 0x0⟩]⟩, -- FW_VER
  ⟨0x124, 1, 0x4, 1, 0x4, [⟨31, 31, .rw, 0x0⟩, ⟨30, 30, .w1c, 0x0⟩, ⟨12, 0, .rw, 0x0⟩]⟩, -- PATCH_CTL
  ⟨0x128, 1, 0x4, 1, 0x4, [⟨31, 0, .rw, 0x0⟩]⟩, -- PATCH_CRC
  ⟨0x340, 1, 0x4, 1, 0x4, [⟨31, 31, .ws, 0x0⟩, ⟨30, 30, .ro, 0x0⟩, ⟨29, 29, .rw, 0x0⟩, ⟨28, 28, .rw, 0x0⟩, ⟨24, 16, .rw, 0x0⟩, ⟨7, 0, .rw, 0x0⟩]⟩, -- MFL_CMD
  ⟨0x344, 1, 0x4, 1, 0x4, [⟨23, 0, .rw, 0x0⟩]⟩, -- MFL_ADDR
  ⟨0x400, 64, 0x4, 1, 0x4, [⟨31, 0, .rw, 0x0⟩]⟩, -- MFL_BUF
  ⟨0x300, 1, 0x4, 1, 0x4, [⟨25, 0, .ro, 0x1⟩]⟩, -- DOM_STAT
  ⟨0x304, 1, 0x4, 1, 0x4, [⟨25, 0, .ro, 0x0⟩]⟩, -- DOM_CMD
  ⟨0x308, 1, 0x4, 1, 0x4, [⟨25, 0, .w1c, 0x0⟩]⟩, -- DOM_FAIL
  ⟨0x30c, 1, 0x4, 1, 0x4, [⟨3, 2, .ro, 0x0⟩, ⟨1, 1, .ro, 0x0⟩, ⟨0, 0, .ro, 0x0⟩]⟩, -- STRAP
  ⟨0x310, 1, 0x4, 1, 0x4, [⟨22, 16, .w1c, 0x0⟩, ⟨6, 0, .ro, 0x0⟩]⟩, -- RAIL_STAT
  ⟨0x314, 1, 0x4, 1, 0x4, [⟨15, 0, .ro, 0x0⟩]⟩, -- VSUP_MON
  ⟨0x318, 1, 0x4, 1, 0x4, [⟨31, 16, .ro, 0x0⟩, ⟨15, 0, .ro, 0x0⟩]⟩, -- TEMP_MON
  ⟨0x31c, 1, 0x4, 1, 0x4, [⟨7, 0, .rw, 0x69⟩]⟩, -- TEMP_WARN
  ⟨0x320, 1, 0x4, 1, 0x4, [⟨31, 28, .ro, 0x0⟩, ⟨23, 23, .w1c, 0x0⟩, ⟨22, 22, .ro, 0x0⟩, ⟨15, 0, .ro, 0x0⟩]⟩ -- BOOT_STAT
  ]

/-- Register rows of the block at 010000h (R462). -/
def rowsTimeBase : List RegRow := [
  ⟨0x10000, 1, 0x4, 1, 0x4, [⟨23, 16, .rw, 0xd⟩, ⟨13, 8, .rw, 0x1e⟩, ⟨2, 2, .rw, 0x0⟩, ⟨1, 1, .rw, 0x0⟩, ⟨0, 0, .rw, 0x0⟩]⟩, -- TB_CFG
  ⟨0x10004, 1, 0x4, 1, 0x4, [⟨12, 12, .ro, 0x0⟩, ⟨11, 11, .ro, 0x0⟩, ⟨10, 10, .ro, 0x0⟩, ⟨9, 9, .ro, 0x0⟩, ⟨8, 8, .ro, 0x0⟩, ⟨5, 4, .ro, 0x3⟩, ⟨3, 0, .ro, 0x1⟩]⟩, -- TB_STATUS
  ⟨0x10008, 1, 0x4, 1, 0x4, [⟨31, 0, .ro, 0x0⟩]⟩, -- TB_NOW_LO
  ⟨0x1000c, 1, 0x4, 1, 0x4, [⟨31, 16, .ro, 0x0⟩, ⟨15, 0, .ro, 0x0⟩]⟩, -- TB_NOW_HI
  ⟨0x10020, 1, 0x4, 1, 0x4, [⟨3, 3, .ws, 0x0⟩, ⟨2, 2, .rw, 0x0⟩, ⟨1, 0, .rw, 0x0⟩]⟩, -- TSYNC_CFG
  ⟨0x10024, 1, 0x4, 1, 0x4, [⟨31, 0, .rw, 0x4a817c80⟩]⟩, -- TSYNC_PER
  ⟨0x10028, 1, 0x4, 1, 0x4, [⟨31, 0, .rw, 0x0⟩]⟩, -- TSYNC_LOAD_LO
  ⟨0x1002c, 1, 0x4, 1, 0x4, [⟨31, 16, .rw, 0x0⟩, ⟨15, 0, .rw, 0x0⟩]⟩, -- TSYNC_LOAD_HI
  ⟨0x10030, 1, 0x4, 1, 0x4, [⟨31, 0, .ro, 0x0⟩]⟩, -- TSYNC_LAST_LO
  ⟨0x10034, 1, 0x4, 1, 0x4, [⟨25, 16, .ro, 0x0⟩, ⟨15, 0, .ro, 0x0⟩]⟩, -- TSYNC_LAST_HI
  ⟨0x10038, 1, 0x4, 1, 0x4, [⟨31, 0, .ro, 0x0⟩]⟩, -- TSYNC_ERR
  ⟨0x10100, 5, 0x20, 1, 0x4, [⟨31, 16, .rw, 0x0⟩, ⟨15, 0, .rw, 0x0⟩]⟩, -- PORT_CFG
  ⟨0x10104, 5, 0x20, 1, 0x4, [⟨31, 0, .ro, 0x0⟩]⟩, -- PORT_OFFSET
  ⟨0x10108, 5, 0x20, 1, 0x4, [⟨31, 0, .ro, 0x0⟩]⟩, -- PORT_DELAY
  ⟨0x1010c, 5, 0x20, 1, 0x4, [⟨31, 16, .ro, 0x0⟩, ⟨9, 8, .ro, 0x0⟩, ⟨0, 0, .ro, 0x0⟩]⟩, -- PORT_STAT
  ⟨0x10110, 5, 0x20, 1, 0x4, [⟨31, 0, .ro, 0x0⟩]⟩ -- PORT_OFFH
  ]

/-- Register rows of the block at 020000h (R462). -/
def rowsGrenyx : List RegRow := [
  ⟨0x20000, 1, 0x4, 1, 0x4, [⟨0, 0, .rw, 0x1⟩]⟩, -- GX_CFG
  ⟨0x20004, 1, 0x4, 1, 0x4, [⟨4, 0, .ro, 0x0⟩]⟩, -- GX_STAT
  ⟨0x21000, 5, 0x100, 1, 0x4, [⟨31, 31, .rw, 0x1⟩, ⟨30, 30, .ws, 0x0⟩, ⟨29, 29, .rw, 0x0⟩, ⟨28, 28, .rw, 0x1⟩, ⟨25, 24, .rw, 0x3⟩, ⟨21, 20, .rw, 0x1⟩, ⟨15, 0, .rw, 0x100⟩]⟩, -- GX_PCFG
  ⟨0x21004, 5, 0x100, 1, 0x4, [⟨31, 28, .ro, 0x0⟩, ⟨27, 26, .ro, 0x0⟩, ⟨25, 24, .ro, 0x0⟩, ⟨23, 22, .ro, 0x0⟩, ⟨21, 21, .ro, 0x0⟩, ⟨20, 20, .ro, 0x0⟩, ⟨19, 19, .ro, 0x0⟩, ⟨18, 18, .ro, 0x0⟩, ⟨17, 17, .ro, 0x0⟩, ⟨15, 0, .rc, 0x0⟩]⟩, -- GX_PSTAT
  ⟨0x21008, 5, 0x100, 1, 0x4, [⟨31, 0, .rc, 0x0⟩]⟩, -- GX_CWCORR
  ⟨0x2100c, 5, 0x100, 1, 0x4, [⟨31, 16, .rc, 0x0⟩, ⟨15, 0, .rc, 0x0⟩]⟩, -- GX_CWUNC
  ⟨0x21010, 5, 0x100, 1, 0x4, [⟨31, 0, .rc, 0x0⟩]⟩, -- GX_SYM
  ⟨0x21014, 5, 0x100, 1, 0x4, [⟨31, 16, .ro, 0x0⟩, ⟨15, 0, .ro, 0x0⟩]⟩, -- GX_CRED
  ⟨0x21018, 5, 0x100, 1, 0x4, [⟨31, 16, .rc, 0x0⟩, ⟨15, 0, .rc, 0x0⟩]⟩, -- GX_LINK
  ⟨0x21020, 5, 0x100, 1, 0x4, [⟨31, 31, .rw, 0x0⟩, ⟨30, 30, .rw, 0x0⟩, ⟨26, 22, .rw, 0x10⟩, ⟨15, 0, .rw, 0x1⟩]⟩, -- GX_INJ
  ⟨0x21024, 5, 0x100, 1, 0x4, [⟨31, 16, .rw, 0x0⟩, ⟨15, 0, .rw, 0x0⟩]⟩, -- GX_INJR1
  ⟨0x21028, 5, 0x100, 1, 0x4, [⟨31, 16, .rw, 0x0⟩]⟩, -- GX_INJR2
  ⟨0x2102c, 5, 0x100, 1, 0x4, [⟨31, 16, .rc, 0x0⟩, ⟨15, 0, .rc, 0x0⟩]⟩, -- GX_INJCNT
  ⟨0x21030, 5, 0x100, 1, 0x4, [⟨31, 16, .rc, 0x0⟩]⟩ -- GX_INJCNT2
  ]

/-- Register rows of the block at 030000h (R462). -/
def rowsCustody : List RegRow := [
  ⟨0x30000, 1, 0x4, 1, 0x4, [⟨31, 24, .rw, 0x10⟩, ⟨23, 23, .rw, 0x0⟩, ⟨15, 0, .rw, 0x64⟩]⟩, -- CUS_CFG
  ⟨0x30004, 1, 0x4, 1, 0x4, [⟨23, 0, .rw, 0x0⟩]⟩, -- MIR_CFG
  ⟨0x30008, 1, 0x4, 1, 0x4, [⟨31, 28, .ro, 0x0⟩, ⟨27, 26, .ro, 0x0⟩, ⟨25, 25, .ro, 0x0⟩, ⟨24, 24, .ro, 0x1⟩, ⟨23, 23, .ro, 0x0⟩, ⟨22, 22, .ro, 0x0⟩, ⟨21, 21, .ro, 0x0⟩, ⟨20, 20, .ro, 0x0⟩, ⟨19, 16, .ro, 0x0⟩, ⟨15, 0, .ro, 0x0⟩]⟩, -- CUS_STAT
  ⟨0x3000c, 1, 0x4, 1, 0x4, [⟨31, 0, .ro, 0x0⟩]⟩, -- CUS_HB_LO
  ⟨0x30010, 1, 0x4, 1, 0x4, [⟨15, 0, .ro, 0x0⟩]⟩, -- CUS_HB_HI
  ⟨0x30014, 1, 0x4, 1, 0x4, [⟨31, 16, .rc, 0x0⟩, ⟨15, 0, .ro, 0xffff⟩]⟩, -- MIR_STAT
  ⟨0x30018, 1, 0x4, 1, 0x4, [⟨31, 0, .rc, 0x0⟩]⟩, -- MIR_CNT
  ⟨0x3001c, 1, 0x4, 1, 0x4, [⟨31, 16, .rc, 0x0⟩, ⟨15, 0, .rc, 0x0⟩]⟩ -- CUS_CNT
  ]

/-- Register rows of the block at 040000h (R462). -/
def rowsEvents : List RegRow := [
  ⟨0x40000, 1, 0x4, 1, 0x4, [⟨0, 0, .rw, 0x1⟩]⟩, -- EV_CFG
  ⟨0x40004, 1, 0x4, 1, 0x4, [⟨21, 0, .ro, 0x0⟩]⟩, -- EV_SUM
  ⟨0x40100, 22, 0x4, 1, 0x4, [⟨31, 0, .w1c, 0x0⟩]⟩, -- EV_LATCH
  ⟨0x44000, 704, 0x4, 1, 0x4, [⟨31, 31, .rw, 0x1⟩, ⟨30, 30, .rw, 0x0⟩, ⟨29, 29, .rw, 0x0⟩, ⟨28, 28, .rw, 0x0⟩, ⟨27, 27, .rw, 0x0⟩, ⟨26, 22, .rw, 0x0⟩, ⟨21, 21, .rw, 0x0⟩, ⟨20, 18, .rw, 0x0⟩]⟩ -- EV_SRC
  ]

/-- Register rows of the block at 050000h (R462). -/
def rowsTrial : List RegRow := [
  ⟨0x50000, 1, 0x4, 1, 0x4, [⟨31, 31, .rw, 0x0⟩]⟩, -- TR_CFG
  ⟨0x50004, 1, 0x4, 1, 0x4, [⟨31, 31, .ro, 0x0⟩, ⟨30, 30, .ro, 0x0⟩, ⟨27, 24, .ro, 0x0⟩, ⟨15, 0, .rc, 0x0⟩]⟩ -- TR_STAT
  ]

/-- Register rows of the block at 080000h (R462). -/
def rowsTimekeeper : List RegRow := [
  ⟨0x80000, 1, 0x4, 1, 0x4, [⟨31, 24, .rw, 0xa⟩, ⟨1, 1, .rw, 0x0⟩, ⟨0, 0, .rw, 0x1⟩]⟩, -- TK_CFG
  ⟨0x80004, 1, 0x4, 1, 0x4, [⟨31, 16, .rw, 0x100⟩, ⟨9, 0, .rw, 0xff⟩]⟩, -- HB_CFG
  ⟨0x81000, 64, 0x20, 1, 0x4, [⟨31, 31, .rw, 0x0⟩, ⟨30, 30, .rw, 0x0⟩, ⟨29, 28, .rw, 0x0⟩, ⟨27, 27, .rw, 0x1⟩, ⟨23, 22, .rw, 0x0⟩, ⟨21, 20, .rw, 0x1⟩]⟩, -- CH_CFG
  ⟨0x81004, 64, 0x20, 1, 0x4, [⟨25, 16, .rw, 0x0⟩, ⟨9, 0, .rw, 0x200⟩]⟩, -- CH_LEVEL
  ⟨0x81008, 64, 0x20, 1, 0x4, [⟨15, 0, .rw, 0x0⟩]⟩, -- CH_TRIM
  ⟨0x8100c, 64, 0x20, 1, 0x4, [⟨31, 31, .ro, 0x0⟩, ⟨30, 30, .w1c, 0x0⟩, ⟨29, 29, .w1c, 0x0⟩, ⟨28, 28, .ro, 0x0⟩, ⟨27, 20, .ro, 0x0⟩, ⟨16, 0, .ro, 0x0⟩]⟩, -- GRADE_STAT
  ⟨0x81010, 64, 0x20, 1, 0x4, [⟨31, 0, .ro, 0x0⟩]⟩, -- GRADE_LAST
  ⟨0x81014, 64, 0x20, 1, 0x4, [⟨31, 0, .rc, 0x0⟩]⟩, -- HIT_CNT
  ⟨0x81018, 64, 0x20, 1, 0x4, [⟨31, 16, .rc, 0x0⟩, ⟨15, 0, .rc, 0x0⟩]⟩, -- LOSS_CNT
  ⟨0x8101c, 64, 0x20, 1, 0x4, [⟨31, 0, .rc, 0x0⟩]⟩, -- HOLD_CNT
  ⟨0x82000, 16, 0x10, 1, 0x4, [⟨31, 31, .rw, 0x0⟩, ⟨30, 30, .rw, 0x0⟩, ⟨29, 24, .rw, 0x0⟩, ⟨21, 16, .rw, 0x0⟩]⟩, -- IV_CFG
  ⟨0x82004, 16, 0x10, 1, 0x4, [⟨31, 0, .rc, 0x0⟩]⟩, -- IV_COUNT
  ⟨0x88000, 64, 0x200, 128, 0x4, [⟨25, 16, .ro, 0x0⟩, ⟨9, 0, .ro, 0x0⟩]⟩ -- GRADE_TAB
  ]

/-- Register rows of the block at 090000h (R462). -/
def rowsFast : List RegRow := [
  ⟨0x90000, 1, 0x4, 1, 0x4, [⟨15, 0, .rw, 0x0⟩]⟩, -- FA_GCFG
  ⟨0x91000, 32, 0x20, 1, 0x4, [⟨31, 31, .rw, 0x0⟩, ⟨30, 30, .rw, 0x0⟩, ⟨29, 28, .rw, 0x0⟩, ⟨27, 26, .rw, 0x1⟩, ⟨25, 25, .rw, 0x1⟩, ⟨22, 16, .rw, 0xa⟩]⟩, -- FA_CFG
  ⟨0x91004, 32, 0x20, 1, 0x4, [⟨31, 30, .rw, 0x3⟩, ⟨29, 29, .rw, 0x1⟩, ⟨28, 28, .rw, 0x0⟩, ⟨27, 27, .ws, 0x0⟩, ⟨26, 24, .rw, 0x5⟩, ⟨23, 0, .rw, 0x3b9b⟩]⟩, -- FA_RST
  ⟨0x91008, 32, 0x20, 1, 0x4, [⟨25, 16, .rw, 0x100⟩, ⟨9, 0, .rw, 0x40⟩]⟩, -- FA_RSTT
  ⟨0x9100c, 32, 0x20, 1, 0x4, [⟨31, 31, .ro, 0x0⟩, ⟨30, 30, .ro, 0x0⟩, ⟨29, 29, .ro, 0x0⟩, ⟨15, 0, .rc, 0x0⟩]⟩, -- FA_STAT
  ⟨0x91010, 32, 0x20, 1, 0x4, [⟨31, 0, .rc, 0x0⟩]⟩, -- FA_CLIP
  ⟨0x91014, 32, 0x20, 1, 0x4, [⟨31, 16, .ro, 0x0⟩, ⟨15, 8, .ro, 0x0⟩, ⟨7, 0, .ro, 0x0⟩]⟩ -- FA_MATCH
  ]

/-- Register rows of the block at 0A0000h (R462). -/
def rowsTrigger : List RegRow := [
  ⟨0xa0000, 1, 0x4, 1, 0x4, [⟨31, 24, .rw, 0x20⟩]⟩, -- TRG_CFG
  ⟨0xa0004, 1, 0x4, 1, 0x4, [⟨31, 16, .rw, 0x400⟩, ⟨15, 0, .rw, 0x1000⟩]⟩, -- TRG_WIN
  ⟨0xa0008, 1, 0x4, 1, 0x4, [⟨31, 0, .rw, 0x0⟩]⟩, -- TRG_CAP
  ⟨0xa000c, 1, 0x4, 1, 0x4, [⟨11, 0, .rw, 0x0⟩]⟩, -- TRG_AVG
  ⟨0xa0010, 1, 0x4, 1, 0x4, [⟨31, 31, .rw, 0x0⟩, ⟨23, 16, .rw, 0x8⟩, ⟨15, 0, .rw, 0x400⟩]⟩, -- TRG_IO
  ⟨0xa0014, 1, 0x4, 1, 0x4, [⟨31, 30, .ro, 0x0⟩, ⟨29, 24, .ro, 0x0⟩, ⟨23, 23, .ro, 0x0⟩, ⟨22, 22, .ro, 0x0⟩, ⟨21, 21, .ro, 0x0⟩, ⟨19, 16, .ro, 0x0⟩, ⟨15, 0, .rc, 0x0⟩]⟩, -- TRG_STAT
  ⟨0xa0018, 1, 0x4, 1, 0x4, [⟨31, 16, .ro, 0x0⟩, ⟨13, 0, .ro, 0x0⟩]⟩, -- TRG_SET
  ⟨0xa001c, 1, 0x4, 1, 0x4, [⟨31, 0, .ro, 0x0⟩]⟩, -- TRG_ARMT_LO
  ⟨0xa0020, 1, 0x4, 1, 0x4, [⟨15, 0, .ro, 0x0⟩]⟩, -- TRG_ARMT_HI
  ⟨0xa0024, 1, 0x4, 1, 0x4, [⟨31, 0, .ro, 0x0⟩]⟩, -- TRG_MEM_LO
  ⟨0xa0028, 1, 0x4, 1, 0x4, [⟨31, 0, .ro, 0x0⟩]⟩, -- TRG_MEM_HI
  ⟨0xa002c, 1, 0x4, 1, 0x4, [⟨31, 16, .rc, 0x0⟩, ⟨15, 0, .rc, 0x0⟩]⟩, -- TRG_OVF
  ⟨0xa1000, 32, 0x20, 1, 0x4, [⟨31, 31, .rw, 0x0⟩, ⟨30, 30, .rw, 0x1⟩, ⟨29, 27, .rw, 0x0⟩, ⟨23, 22, .rw, 0x0⟩, ⟨21, 16, .rw, 0x0⟩]⟩, -- TC_CFG
  ⟨0xa1004, 32, 0x20, 1, 0x4, [⟨23, 0, .rw, 0x0⟩]⟩, -- TC_LEVEL
  ⟨0xa1008, 32, 0x20, 1, 0x4, [⟨22, 16, .rw, 0x2⟩, ⟨15, 0, .rw, 0x0⟩]⟩, -- TC_WIN
  ⟨0xa100c, 32, 0x20, 1, 0x4, [⟨31, 0, .rw, 0x0⟩]⟩, -- TC_MASK_LO
  ⟨0xa1010, 32, 0x20, 1, 0x4, [⟨31, 0, .rw, 0x0⟩]⟩, -- TC_MASK_HI
  ⟨0xa1014, 32, 0x20, 1, 0x4, [⟨31, 0, .rw, 0x0⟩]⟩, -- TC_PERIOD
  ⟨0xa1018, 32, 0x20, 1, 0x4, [⟨31, 0, .rc, 0x0⟩]⟩ -- TC_CNT
  ]

/-- Register rows of the block at 0B0000h (R462). -/
def rowsSewing : List RegRow := [
  ⟨0xb0000, 1, 0x4, 1, 0x4, [⟨31, 16, .rw, 0x8000⟩, ⟨15, 0, .rw, 0x18⟩]⟩, -- SEW_CFG
  ⟨0xb0004, 1, 0x4, 1, 0x4, [⟨31, 16, .ro, 0x0⟩]⟩, -- SEW_STAT
  ⟨0xb0008, 1, 0x4, 1, 0x4, [⟨15, 0, .rw, 0x2000⟩]⟩, -- SEW_LIM
  ⟨0xb000c, 1, 0x4, 1, 0x4, [⟨31, 16, .rc, 0x0⟩, ⟨15, 0, .rc, 0x0⟩]⟩, -- SEW_CNT
  ⟨0xb0020, 1, 0x4, 1, 0x4, [⟨31, 24, .rw, 0x28⟩]⟩, -- SV_GCFG
  ⟨0xb1000, 32, 0x10, 1, 0x4, [⟨31, 31, .rw, 0x0⟩, ⟨30, 24, .rw, 0x10⟩, ⟨23, 20, .rw, 0x8⟩, ⟨19, 10, .rw, 0x40⟩, ⟨9, 0, .rw, 0x100⟩]⟩, -- SV_CFG
  ⟨0xb1004, 32, 0x10, 1, 0x4, [⟨13, 0, .rw, 0x100⟩]⟩, -- SV_THR
  ⟨0xb1008, 32, 0x10, 1, 0x4, [⟨31, 18, .ro, 0x0⟩, ⟨17, 17, .w1c, 0x0⟩, ⟨16, 16, .ro, 0x0⟩, ⟨15, 0, .rc, 0x0⟩]⟩, -- SV_STAT
  ⟨0xb100c, 32, 0x10, 1, 0x4, [⟨31, 0, .rc, 0x0⟩]⟩, -- SV_CNT
  ⟨0xb2000, 16, 0x10, 1, 0x4, [⟨31, 31, .rw, 0x0⟩, ⟨23, 0, .rw, 0x0⟩]⟩, -- DB_CFG
  ⟨0xb2004, 16, 0x10, 1, 0x4, [⟨15, 0, .rw, 0x0⟩]⟩, -- DB_HB
  ⟨0xb2008, 16, 0x10, 1, 0x4, [⟨31, 16, .rc, 0x0⟩, ⟨15, 0, .rc, 0x0⟩]⟩ -- DB_CNT
  ]

/-- Register rows of the block at 0C0000h (R462). -/
def rowsLoam : List RegRow := [
  ⟨0xc0000, 1, 0x4, 1, 0x4, [⟨15, 0, .rw, 0x100⟩]⟩, -- LP_CFG
  ⟨0xc0004, 1, 0x4, 1, 0x4, [⟨31, 16, .ro, 0x8000⟩, ⟨15, 0, .ro, 0x0⟩]⟩, -- LP_STAT
  ⟨0xc0008, 1, 0x4, 1, 0x4, [⟨31, 16, .rc, 0x0⟩, ⟨15, 0, .rc, 0x0⟩]⟩, -- LP_ECC
  ⟨0xc000c, 1, 0x4, 1, 0x4, [⟨31, 31, .ws, 0x0⟩, ⟨30, 30, .ro, 0x0⟩]⟩, -- LP_QUAR
  ⟨0xc0010, 1, 0x4, 1, 0x4, [⟨15, 0, .ro, 0x28⟩]⟩, -- LP_RSV
  ⟨0xc0040, 8, 0x4, 1, 0x4, [⟨31, 0, .ro, 0x0⟩]⟩, -- LP_EVQ
  ⟨0xc1000, 256, 0x20, 1, 0x4, [⟨31, 31, .rw, 0x0⟩, ⟨30, 30, .rw, 0x0⟩, ⟨29, 28, .rw, 0x0⟩]⟩, -- Q_CFG
  ⟨0xc1004, 256, 0x20, 1, 0x4, [⟨31, 16, .rw, 0x0⟩, ⟨15, 0, .rw, 0x0⟩]⟩, -- Q_LIM
  ⟨0xc1008, 256, 0x20, 1, 0x4, [⟨15, 0, .rw, 0x0⟩]⟩, -- Q_RSV
  ⟨0xc100c, 256, 0x20, 1, 0x4, [⟨23, 0, .rw, 0x0⟩]⟩, -- Q_STALL
  ⟨0xc1010, 256, 0x20, 1, 0x4, [⟨31, 16, .ro, 0x0⟩, ⟨15, 0, .ro, 0x0⟩]⟩, -- Q_STAT
  ⟨0xc1014, 256, 0x20, 1, 0x4, [⟨31, 31, .w1c, 0x0⟩, ⟨30, 30, .w1c, 0x0⟩, ⟨29, 29, .w1c, 0x0⟩, ⟨28, 28, .w1c, 0x0⟩, ⟨27, 27, .ro, 0x0⟩, ⟨15, 0, .rc, 0x0⟩]⟩, -- Q_FLAG
  ⟨0xc1018, 256, 0x20, 1, 0x4, [⟨31, 16, .rc, 0x0⟩, ⟨15, 0, .rc, 0x0⟩]⟩, -- Q_CNT
  ⟨0xc101c, 256, 0x20, 1, 0x4, [⟨31, 16, .rc, 0x0⟩, ⟨15, 0, .rc, 0x0⟩]⟩ -- Q_ECC
  ]

/-- Register rows of the block at 0D0000h (R462). -/
def rowsPattern : List RegRow := [
  ⟨0xd0000, 1, 0x4, 1, 0x4, [⟨31, 16, .rw, 0x400⟩, ⟨1, 1, .rw, 0x0⟩, ⟨0, 0, .rw, 0x0⟩]⟩, -- PAT_CFG
  ⟨0xd0004, 1, 0x4, 1, 0x4, [⟨31, 29, .ro, 0x0⟩, ⟨25, 16, .ro, 0x0⟩, ⟨15, 0, .ro, 0x0⟩]⟩, -- PAT_STAT
  ⟨0xd0008, 1, 0x4, 1, 0x4, [⟨15, 0, .ro, 0x0⟩]⟩, -- PAT_POS
  ⟨0xd0010, 4, 0x4, 1, 0x4, [⟨31, 0, .rw, 0x346dc6⟩]⟩, -- PAT_RATE
  ⟨0xd0020, 1, 0x4, 1, 0x4, [⟨31, 0, .rw, 0x0⟩]⟩, -- PAT_IDLE_EN
  ⟨0xd0024, 1, 0x4, 1, 0x4, [⟨31, 0, .rw, 0x0⟩]⟩, -- PAT_IDLE_VAL
  ⟨0xd0028, 1, 0x4, 1, 0x4, [⟨9, 0, .rw, 0x1⟩]⟩, -- PAT_CMP
  ⟨0xd002c, 1, 0x4, 1, 0x4, [⟨31, 24, .rw, 0x30⟩]⟩, -- PAT_STREAM
  ⟨0xd0030, 1, 0x4, 1, 0x4, [⟨31, 31, .ro, 0x0⟩, ⟨30, 30, .ro, 0x0⟩, ⟨25, 16, .ro, 0x0⟩, ⟨15, 8, .rc, 0x0⟩, ⟨7, 0, .rc, 0x0⟩]⟩, -- PAT_BR
  ⟨0xd0034, 1, 0x4, 1, 0x4, [⟨31, 0, .rc, 0x0⟩]⟩, -- PAT_FAIL_CNT
  ⟨0xd0038, 1, 0x4, 1, 0x4, [⟨31, 31, .w1c, 0x0⟩, ⟨25, 16, .ro, 0x0⟩, ⟨15, 0, .ro, 0x0⟩]⟩, -- PAT_FAIL_SEG
  ⟨0xd003c, 1, 0x4, 1, 0x4, [⟨15, 0, .ro, 0x0⟩]⟩, -- PAT_FAIL_PASS
  ⟨0xd0040, 1, 0x4, 1, 0x4, [⟨31, 0, .ro, 0x0⟩]⟩, -- PAT_FAIL_TICK
  ⟨0xd0044, 1, 0x4, 1, 0x4, [⟨31, 0, .ro, 0x0⟩]⟩, -- PAT_FAIL_MASK
  ⟨0xd0048, 1, 0x4, 1, 0x4, [⟨31, 0, .ro, 0x0⟩]⟩, -- PAT_SLIP_LO
  ⟨0xd004c, 1, 0x4, 1, 0x4, [⟨15, 0, .rc, 0x0⟩]⟩, -- PAT_SLIP_CNT
  ⟨0xd0050, 1, 0x4, 1, 0x4, [⟨31, 0, .ro, 0x0⟩]⟩, -- PAT_PINS
  ⟨0xd0060, 1, 0x4, 1, 0x4, [⟨31, 31, .ws, 0x0⟩, ⟨30, 30, .ro, 0x0⟩]⟩, -- PAT_CAL
  ⟨0xd0064, 1, 0x4, 1, 0x4, [⟨31, 0, .rw, 0x0⟩]⟩, -- PAT_CAL_PINS
  ⟨0xd0068, 1, 0x4, 1, 0x4, [⟨31, 0, .ro, 0x0⟩]⟩, -- PAT_CAL_OK
  ⟨0xd006c, 1, 0x4, 1, 0x4, [⟨31, 0, .w1c, 0x0⟩]⟩, -- PAT_CAL_ERR
  ⟨0xd0070, 1, 0x4, 1, 0x4, [⟨31, 0, .rc, 0x0⟩]⟩, -- PAT_SHOT
  ⟨0xd0100, 32, 0x4, 1, 0x4, [⟨31, 24, .rw, 0x0⟩, ⟨11, 0, .rw, 0x0⟩]⟩, -- PV_PIN
  ⟨0xd4000, 1024, 0x10, 1, 0x4, [⟨31, 16, .rw, 0x0⟩, ⟨15, 0, .rw, 0x0⟩]⟩, -- SEG_A
  ⟨0xd4004, 1024, 0x10, 1, 0x4, [⟨31, 31, .rw, 0x0⟩, ⟨30, 30, .rw, 0x0⟩, ⟨29, 29, .rw, 0x0⟩, ⟨25, 16, .rw, 0x0⟩, ⟨15, 0, .rw, 0x0⟩]⟩, -- SEG_B
  ⟨0xd4008, 1024, 0x10, 1, 0x4, [⟨31, 28, .rw, 0x0⟩, ⟨21, 16, .rw, 0x0⟩, ⟨9, 0, .rw, 0x0⟩]⟩, -- SEG_C
  ⟨0xd8000, 32, 0x80, 32, 0x4, [⟨31, 24, .rw, 0x0⟩, ⟨23, 16, .rw, 0x0⟩, ⟨15, 8, .rw, 0x0⟩, ⟨7, 0, .rw, 0x0⟩]⟩ -- PAT_TAB
  ]

/-- Register rows of the block at 0E0000h (R462). -/
def rowsEcho : List RegRow := [
  ⟨0xe0000, 1, 0x4, 1, 0x4, [⟨31, 0, .ro, 0x0⟩]⟩, -- DM_LTRUE
  ⟨0xe0004, 1, 0x4, 1, 0x4, [⟨31, 0, .ro, 0x0⟩]⟩, -- DM_LFALSE
  ⟨0xe0100, 32, 0x10, 1, 0x4, [⟨31, 31, .rw, 0x0⟩, ⟨30, 30, .rw, 0x0⟩, ⟨29, 28, .rw, 0x0⟩, ⟨26, 24, .rw, 0x0⟩, ⟨19, 16, .rw, 0x0⟩]⟩, -- CMP_CFG
  ⟨0xe0104, 32, 0x10, 1, 0x4, [⟨31, 0, .rw, 0x0⟩]⟩, -- CMP_LO
  ⟨0xe0108, 32, 0x10, 1, 0x4, [⟨31, 0, .rw, 0xffffffff⟩]⟩, -- CMP_HI
  ⟨0xe010c, 32, 0x10, 1, 0x4, [⟨31, 16, .rc, 0x0⟩, ⟨15, 0, .rc, 0x0⟩]⟩, -- CMP_CNT
  ⟨0xe1000, 16, 0x100, 1, 0x4, [⟨31, 31, .rw, 0x0⟩, ⟨28, 24, .rw, 0x0⟩, ⟨21, 16, .rw, 0x0⟩, ⟨12, 8, .rw, 0x0⟩, ⟨6, 0, .rw, 0x8⟩]⟩, -- DM_CFG
  ⟨0xe1004, 16, 0x100, 1, 0x4, [⟨31, 0, .rw, 0x346dc6⟩]⟩, -- DM_NCO
  ⟨0xe1008, 16, 0x100, 1, 0x4, [⟨31, 0, .rw, 0x0⟩]⟩, -- DM_PREF
  ⟨0xe100c, 16, 0x100, 1, 0x4, [⟨31, 0, .rw, 0x0⟩]⟩, -- DM_COFS
  ⟨0xe1010, 16, 0x100, 1, 0x4, [⟨4, 0, .rw, 0xf⟩]⟩, -- DM_FIR
  ⟨0xe1014, 16, 0x100, 1, 0x4, [⟨31, 31, .rw, 0x0⟩, ⟨15, 0, .rw, 0x3ff⟩]⟩, -- DM_AVG
  ⟨0xe1018, 16, 0x100, 1, 0x4, [⟨31, 31, .rw, 0x0⟩, ⟨3, 0, .rw, 0x0⟩]⟩, -- DM_TEMP
  ⟨0xe101c, 16, 0x100, 1, 0x4, [⟨31, 24, .rw, 0x34⟩, ⟨1, 1, .rw, 0x1⟩, ⟨0, 0, .rw, 0x1⟩]⟩, -- DM_OUT
  ⟨0xe1020, 16, 0x100, 1, 0x4, [⟨31, 31, .ro, 0x0⟩, ⟨30, 30, .ro, 0x0⟩, ⟨3, 3, .w1c, 0x0⟩, ⟨2, 2, .w1c, 0x0⟩, ⟨1, 1, .w1c, 0x0⟩, ⟨0, 0, .w1c, 0x0⟩]⟩, -- DM_STAT
  ⟨0xe1024, 16, 0x100, 1, 0x4, [⟨31, 0, .rc, 0x0⟩]⟩, -- DM_SHOTS
  ⟨0xe1028, 16, 0x100, 1, 0x4, [⟨31, 16, .rc, 0x0⟩, ⟨15, 0, .rc, 0x0⟩]⟩, -- DM_CNT
  ⟨0xe102c, 16, 0x100, 1, 0x4, [⟨15, 0, .ro, 0x0⟩]⟩, -- DM_FILL
  ⟨0xe1040, 16, 0x100, 8, 0x8, [⟨31, 31, .rw, 0x0⟩, ⟨19, 0, .rw, 0x0⟩]⟩, -- DM_GOPEN
  ⟨0xe1044, 16, 0x100, 8, 0x8, [⟨15, 0, .rw, 0x100⟩]⟩, -- DM_GLEN
  ⟨0xe8000, 16, 0x100, 64, 0x4, [⟨31, 16, .rw, 0x0⟩, ⟨15, 0, .rw, 0x0⟩]⟩ -- DM_TAP
  ]

/-- Register rows of the block at 0F0000h (R462). -/
def rowsSensor : List RegRow := [
  ⟨0xf0000, 1, 0x4, 1, 0x4, [⟨0, 0, .rw, 0x0⟩]⟩, -- PS_GCFG
  ⟨0xf1000, 16, 0x40, 1, 0x4, [⟨31, 31, .rw, 0x0⟩, ⟨30, 30, .rw, 0x1⟩, ⟨27, 24, .rw, 0x0⟩, ⟨22, 20, .rw, 0x0⟩, ⟨9, 0, .rw, 0x19⟩]⟩, -- PS_CFG
  ⟨0xf1004, 16, 0x40, 1, 0x4, [⟨24, 16, .rw, 0xfa⟩, ⟨7, 0, .rw, 0x64⟩]⟩, -- PS_EXC
  ⟨0xf1008, 16, 0x40, 1, 0x4, [⟨16, 16, .rw, 0x0⟩, ⟨11, 8, .rw, 0x0⟩, ⟨3, 0, .rw, 0x0⟩]⟩, -- PS_AUX
  ⟨0xf100c, 16, 0x40, 1, 0x4, [⟨31, 31, .rw, 0x1⟩, ⟨30, 30, .rw, 0x1⟩, ⟨29, 28, .rw, 0x0⟩, ⟨27, 22, .rw, 0x3f⟩, ⟨15, 8, .rw, 0xf0⟩, ⟨7, 0, .rw, 0x5⟩]⟩, -- PS_FLT
  ⟨0xf1010, 16, 0x40, 1, 0x4, [⟨31, 24, .rw, 0xa⟩, ⟨23, 16, .rw, 0x19⟩, ⟨15, 0, .rw, 0xfa0⟩]⟩, -- PS_IMP
  ⟨0xf1014, 16, 0x40, 1, 0x4, [⟨15, 0, .rw, 0x0⟩]⟩, -- PS_LEAD
  ⟨0xf1018, 16, 0x40, 1, 0x4, [⟨31, 31, .w1c, 0x0⟩, ⟨30, 29, .ro, 0x0⟩, ⟨28, 23, .ro, 0x0⟩, ⟨22, 22, .ro, 0x0⟩, ⟨21, 19, .ro, 0x0⟩]⟩, -- PS_STAT
  ⟨0xf101c, 16, 0x40, 1, 0x4, [⟨31, 16, .rc, 0x0⟩, ⟨15, 0, .rc, 0x0⟩]⟩, -- PS_CNT
  ⟨0xf1020, 16, 0x40, 1, 0x4, [⟨31, 16, .ro, 0x0⟩, ⟨15, 0, .ro, 0x0⟩]⟩ -- PS_IMPR
  ]

/-- Register rows of the block at 100000h (R462). -/
def rowsPrecision : List RegRow := [
  ⟨0x100010, 1, 0x4, 1, 0x4, [⟨15, 0, .ws, 0x0⟩]⟩, -- PC_URG
  ⟨0x100014, 1, 0x4, 1, 0x4, [⟨15, 0, .rw, 0x0⟩]⟩, -- PC_SNAP
  ⟨0x100018, 1, 0x4, 1, 0x4, [⟨15, 0, .ws, 0x0⟩]⟩, -- PC_LCOMMIT
  ⟨0x100100, 8, 0x20, 1, 0x4, [⟨27, 24, .rw, 0x2⟩, ⟨7, 0, .rw, 0x2⟩]⟩, -- PC_SCAN
  ⟨0x100104, 8, 0x20, 1, 0x4, [⟨31, 31, .rw, 0x0⟩, ⟨30, 30, .ro, 0x0⟩, ⟨29, 29, .w1c, 0x0⟩, ⟨0, 0, .rw, 0x0⟩]⟩, -- PC_ILV
  ⟨0x100108, 8, 0x20, 1, 0x4, [⟨31, 28, .ro, 0x0⟩, ⟨19, 16, .ro, 0x0⟩, ⟨15, 0, .rc, 0x0⟩]⟩, -- PC_CSTAT
  ⟨0x10010c, 8, 0x20, 1, 0x4, [⟨31, 16, .rw, 0x0⟩, ⟨15, 0, .rw, 0x0⟩]⟩, -- PC_IMATCH
  ⟨0x100800, 16, 0x20, 1, 0x4, [⟨31, 28, .rw, 0x5⟩, ⟨27, 26, .rw, 0x0⟩, ⟨25, 23, .rw, 0x1⟩, ⟨22, 21, .rw, 0x0⟩, ⟨19, 16, .rw, 0x0⟩, ⟨15, 14, .rw, 0x0⟩]⟩, -- PC_PORT
  ⟨0x100804, 16, 0x20, 1, 0x4, [⟨31, 24, .rw, 0x38⟩, ⟨0, 0, .rw, 0x0⟩]⟩, -- PC_OUT
  ⟨0x100808, 16, 0x20, 1, 0x4, [⟨23, 0, .ro, 0x0⟩]⟩, -- PC_LAST
  ⟨0x10080c, 16, 0x20, 1, 0x4, [⟨31, 31, .ro, 0x0⟩, ⟨30, 30, .w1c, 0x0⟩, ⟨29, 29, .w1c, 0x0⟩, ⟨28, 28, .w1c, 0x0⟩, ⟨15, 0, .rc, 0x0⟩]⟩, -- PC_LSTAT
  ⟨0x101000, 16, 0x40, 8, 0x8, [⟨31, 0, .rw, 0x0⟩]⟩, -- CAL_OFS
  ⟨0x101004, 16, 0x40, 8, 0x8, [⟨31, 0, .rw, 0x0⟩]⟩, -- CAL_GAIN
  ⟨0x102000, 16, 0x80, 18, 0x4, [⟨31, 0, .rw, 0x0⟩]⟩, -- PC_COEF
  ⟨0x104000, 4, 0x200, 1, 0x4, [⟨23, 0, .rw, 0x0⟩]⟩, -- PWL_XMIN
  ⟨0x104004, 4, 0x200, 1, 0x4, [⟨4, 0, .rw, 0x12⟩]⟩, -- PWL_W
  ⟨0x104010, 4, 0x200, 65, 0x4, [⟨23, 0, .rw, 0x0⟩]⟩, -- PWL_Y
  ⟨0x105000, 8, 0x10, 1, 0x4, [⟨31, 31, .rw, 0x0⟩, ⟨30, 30, .rw, 0x0⟩, ⟨29, 29, .rw, 0x0⟩, ⟨28, 27, .rw, 0x0⟩, ⟨19, 16, .rw, 0x0⟩, ⟨15, 0, .rw, 0x3e8⟩]⟩, -- PWF_CFG
  ⟨0x105004, 8, 0x10, 1, 0x4, [⟨23, 0, .rw, 0x0⟩]⟩, -- PWF_VLO
  ⟨0x105008, 8, 0x10, 1, 0x4, [⟨23, 0, .rw, 0x7fffff⟩]⟩, -- PWF_VHI
  ⟨0x10500c, 8, 0x10, 1, 0x4, [⟨31, 16, .rw, 0x1388⟩, ⟨15, 0, .rw, 0x1f4⟩]⟩ -- PWF_FRQ
  ]

/-- Register rows of the block at 110000h (R462). -/
def rowsControl : List RegRow := [
  ⟨0x110000, 1, 0x4, 1, 0x4, [⟨23, 0, .rw, 0x4e2⟩]⟩, -- CE_FRAME
  ⟨0x110004, 1, 0x4, 1, 0x4, [⟨31, 16, .ro, 0x0⟩, ⟨15, 0, .ro, 0x0⟩]⟩, -- CE_STAT
  ⟨0x110008, 1, 0x4, 1, 0x4, [⟨31, 24, .rw, 0x3c⟩]⟩, -- CE_TEL
  ⟨0x111000, 16, 0x40, 1, 0x4, [⟨31, 31, .rw, 0x0⟩, ⟨30, 30, .rw, 0x0⟩, ⟨29, 28, .rw, 0x1⟩, ⟨24, 20, .rw, 0x0⟩, ⟨19, 0, .rw, 0x0⟩]⟩, -- LOOP_CFG
  ⟨0x111004, 16, 0x40, 1, 0x4, [⟨19, 0, .rw, 0x0⟩]⟩, -- LOOP_PH
  ⟨0x111008, 16, 0x40, 1, 0x4, [⟨27, 24, .rw, 0x0⟩, ⟨18, 16, .rw, 0x0⟩, ⟨0, 0, .rw, 0x0⟩]⟩, -- LOOP_STRUCT
  ⟨0x11100c, 16, 0x40, 1, 0x4, [⟨31, 30, .rw, 0x0⟩, ⟨29, 24, .rw, 0x0⟩, ⟨23, 23, .rw, 0x0⟩, ⟨22, 22, .rw, 0x0⟩, ⟨21, 20, .rw, 0x0⟩, ⟨18, 16, .rw, 0x0⟩, ⟨3, 0, .rw, 0x0⟩]⟩, -- LOOP_IN
  ⟨0x111010, 16, 0x40, 1, 0x4, [⟨31, 30, .rw, 0x0⟩, ⟨29, 24, .rw, 0x0⟩, ⟨23, 23, .rw, 0x0⟩, ⟨22, 22, .rw, 0x0⟩, ⟨21, 20, .rw, 0x0⟩, ⟨18, 16, .rw, 0x0⟩, ⟨3, 0, .rw, 0x0⟩]⟩, -- LOOP_FFIN
  ⟨0x111014, 16, 0x40, 1, 0x4, [⟨31, 31, .rw, 0x0⟩, ⟨19, 0, .rw, 0x0⟩]⟩, -- LOOP_TEL
  ⟨0x111018, 16, 0x40, 1, 0x4, [⟨31, 29, .ro, 0x0⟩, ⟨28, 28, .ro, 0x0⟩, ⟨27, 27, .ro, 0x0⟩, ⟨26, 26, .ro, 0x0⟩, ⟨25, 25, .ro, 0x0⟩, ⟨24, 24, .ro, 0x0⟩, ⟨23, 23, .w1c, 0x0⟩, ⟨22, 22, .w1c, 0x0⟩, ⟨15, 0, .ro, 0x0⟩]⟩, -- LOOP_STAT
  ⟨0x11101c, 16, 0x40, 1, 0x4, [⟨31, 16, .rc, 0x0⟩, ⟨15, 0, .rc, 0x0⟩]⟩, -- LOOP_CNT
  ⟨0x111020, 16, 0x40, 1, 0x4, [⟨31, 0, .ro, 0x0⟩]⟩, -- LOOP_OUTV
  ⟨0x111024, 16, 0x40, 1, 0x4, [⟨31, 0, .ro, 0x0⟩]⟩, -- LOOP_INTG
  ⟨0x118000, 16, 0x400, 76, 0x8, [⟨31, 0, .ro, 0x0⟩]⟩, -- COEF_VAL
  ⟨0x118004, 16, 0x400, 76, 0x8, [⟨4, 0, .ro, 0x0⟩]⟩ -- COEF_SH
  ]

/-- Register rows of the block at 120000h (R462). -/
def rowsAnalog : List RegRow := [
  ⟨0x120004, 1, 0x4, 1, 0x4, [⟨31, 31, .ro, 0x0⟩, ⟨30, 30, .ro, 0x0⟩]⟩, -- AO_GSTAT
  ⟨0x120008, 1, 0x4, 1, 0x4, [⟨31, 0, .w1c, 0x0⟩]⟩, -- AO_ILIM
  ⟨0x121000, 32, 0x10, 1, 0x4, [⟨31, 31, .rw, 0x1⟩, ⟨18, 16, .rw, 0x1⟩, ⟨15, 0, .rw, 0x0⟩]⟩, -- AO_CFG
  ⟨0x121004, 32, 0x10, 1, 0x4, [⟨15, 0, .rw, 0x0⟩]⟩, -- AO_DATA
  ⟨0x121008, 32, 0x10, 1, 0x4, [⟨31, 29, .ro, 0x0⟩, ⟨28, 28, .ro, 0x0⟩, ⟨15, 0, .ro, 0x0⟩]⟩ -- AO_STAT
  ]

/-- Register rows of the block at 130000h (R462). -/
def rowsLight : List RegRow := [
  ⟨0x130000, 1, 0x4, 1, 0x4, [⟨31, 24, .rw, 0xc8⟩, ⟨23, 16, .rw, 0x50⟩, ⟨15, 14, .rw, 0x1⟩, ⟨13, 8, .rw, 0x10⟩]⟩, -- BST_CFG
  ⟨0x130004, 1, 0x4, 1, 0x4, [⟨31, 29, .ro, 0x0⟩, ⟨23, 16, .ro, 0x0⟩, ⟨15, 8, .ro, 0x0⟩, ⟨2, 2, .ws, 0x0⟩, ⟨1, 1, .w1c, 0x0⟩]⟩, -- BST_STAT
  ⟨0x130008, 1, 0x4, 1, 0x4, [⟨29, 20, .rw, 0x85⟩, ⟨19, 10, .rw, 0x4f⟩, ⟨7, 0, .rw, 0x40⟩]⟩, -- LT_DER
  ⟨0x13000c, 1, 0x4, 1, 0x4, [⟨31, 31, .ro, 0x0⟩, ⟨23, 16, .ro, 0x0⟩, ⟨9, 0, .ro, 0x0⟩]⟩, -- LT_TEMP
  ⟨0x130020, 2, 0x4, 1, 0x4, [⟨31, 31, .rw, 0x0⟩, ⟨30, 30, .rw, 0x0⟩, ⟨15, 0, .rw, 0x0⟩]⟩, -- MK_CFG
  ⟨0x130028, 2, 0x4, 1, 0x4, [⟨31, 31, .ro, 0x0⟩, ⟨30, 30, .ro, 0x0⟩, ⟨15, 0, .rc, 0x0⟩]⟩, -- MK_STAT
  ⟨0x131000, 8, 0x10, 1, 0x4, [⟨31, 31, .rw, 0x0⟩, ⟨30, 30, .rw, 0x0⟩, ⟨29, 29, .rw, 0x0⟩, ⟨26, 24, .rw, 0x2⟩, ⟨23, 16, .rw, 0x64⟩, ⟨15, 0, .rw, 0x0⟩]⟩, -- LS_CFG
  ⟨0x131004, 8, 0x10, 1, 0x4, [⟨31, 31, .w1c, 0x0⟩, ⟨30, 30, .w1c, 0x0⟩, ⟨29, 29, .w1c, 0x0⟩, ⟨28, 28, .ro, 0x0⟩, ⟨23, 16, .ro, 0x0⟩, ⟨15, 0, .ro, 0x0⟩]⟩, -- LS_STAT
  ⟨0x131008, 8, 0x10, 1, 0x4, [⟨31, 16, .rc, 0x0⟩, ⟨15, 0, .rc, 0x0⟩]⟩ -- LS_CNT
  ]

/-- The rows of the block an address lies in. -/
def blockRows (a : Nat) : List RegRow :=
  match a / 0x10000 with
  | 0 => rowsIdentity
  | 1 => rowsTimeBase
  | 2 => rowsGrenyx
  | 3 => rowsCustody
  | 4 => rowsEvents
  | 5 => rowsTrial
  | 8 => rowsTimekeeper
  | 9 => rowsFast
  | 10 => rowsTrigger
  | 11 => rowsSewing
  | 12 => rowsLoam
  | 13 => rowsPattern
  | 14 => rowsEcho
  | 15 => rowsSensor
  | 16 => rowsPrecision
  | 17 => rowsControl
  | 18 => rowsAnalog
  | 19 => rowsLight
  | _ => []

/-- Whether one of a row's registers stands at an address. -/
def RegRow.covers (r : RegRow) (a : Nat) : Bool :=
  r.base ≤ a && (a - r.base) / r.s1 < r.n1 && (a - r.base) % r.s1 / r.s2 < r.n2 &&
    (a - r.base) % r.s1 % r.s2 == 0

/-- The row of the register at an address, if one stands there (R439). -/
def regRow? (a : Nat) : Option RegRow := (blockRows a).find? (fun r => r.covers a)

/-- IDENT, R2. -/
def IDENT : RF := ⟨0x0, 31, 0⟩
def IDENT_PART : RF := ⟨0x0, 31, 16⟩
def IDENT_VENDOR : RF := ⟨0x0, 15, 8⟩
def IDENT_REV : RF := ⟨0x0, 7, 0⟩
/-- PACE_CTRL, R22. -/
def PACE_CTRL : RF := ⟨0x200, 31, 0⟩
def PACE_CTRL_MARGIN : RF := ⟨0x200, 15, 8⟩
def PACE_CTRL_RUN : RF := ⟨0x200, 0, 0⟩
/-- PACE, R22. -/
def PACE (i : Nat) : RF := ⟨0x210 + 0x4 * i, 31, 0⟩
def PACE_FLOOR (i : Nat) : RF := ⟨0x210 + 0x4 * i, 31, 16⟩
def PACE_COUNT (i : Nat) : RF := ⟨0x210 + 0x4 * i, 15, 0⟩
/-- PACE_LOW, R22. -/
def PACE_LOW : RF := ⟨0x220, 31, 0⟩
def PACE_LOW_BELOW : RF := ⟨0x220, 3, 0⟩
/-- PACE_MIN, R22. -/
def PACE_MIN (i : Nat) : RF := ⟨0x230 + 0x4 * i, 31, 0⟩
def PACE_MIN_MIN (i : Nat) : RF := ⟨0x230 + 0x4 * i, 15, 0⟩
/-- MODE_STATUS, R52. -/
def MODE_STATUS : RF := ⟨0x10, 31, 0⟩
def MODE_STATUS_LKEPT : RF := ⟨0x10, 27, 27⟩
def MODE_STATUS_STATE : RF := ⟨0x10, 26, 24⟩
def MODE_STATUS_PENDING : RF := ⟨0x10, 21, 16⟩
def MODE_STATUS_DRAINING : RF := ⟨0x10, 13, 8⟩
def MODE_STATUS_MASK : RF := ⟨0x10, 5, 0⟩
/-- MODE_CFG, R52. -/
def MODE_CFG : RF := ⟨0x14, 31, 0⟩
def MODE_CFG_AUTO_OFF : RF := ⟨0x14, 2, 2⟩
def MODE_CFG_LIGHT_KEEP : RF := ⟨0x14, 1, 1⟩
def MODE_CFG_REG_EXIT : RF := ⟨0x14, 0, 0⟩
/-- FAULT_CAUSE, R52. -/
def FAULT_CAUSE : RF := ⟨0x18, 31, 0⟩
def FAULT_CAUSE_DOMAIN : RF := ⟨0x18, 4, 4⟩
def FAULT_CAUSE_BOOT_FAIL : RF := ⟨0x18, 3, 3⟩
def FAULT_CAUSE_ECC_CTRL : RF := ⟨0x18, 2, 2⟩
def FAULT_CAUSE_WATCHDOG : RF := ⟨0x18, 1, 1⟩
def FAULT_CAUSE_RAIL : RF := ⟨0x18, 0, 0⟩
/-- CLAIM_FA, R52. -/
def CLAIM_FA : RF := ⟨0x20, 31, 0⟩
def CLAIM_FA_CH : RF := ⟨0x20, 31, 0⟩
/-- CLAIM_HIT, R52. -/
def CLAIM_HIT : RF := ⟨0x24, 31, 0⟩
def CLAIM_HIT_CH : RF := ⟨0x24, 31, 0⟩
/-- CLAIM_SHARE, R52. -/
def CLAIM_SHARE : RF := ⟨0x28, 31, 0⟩
def CLAIM_SHARE_CH : RF := ⟨0x28, 31, 0⟩
/-- CLAIM_BLANK, R52. -/
def CLAIM_BLANK : RF := ⟨0x2c, 31, 0⟩
def CLAIM_BLANK_EXT : RF := ⟨0x2c, 15, 0⟩
/-- TB_CFG, R80. -/
def TB_CFG : RF := ⟨0x10000, 31, 0⟩
def TB_CFG_STEP_LIMIT : RF := ⟨0x10000, 23, 16⟩
def TB_CFG_PERIOD : RF := ⟨0x10000, 13, 8⟩
def TB_CFG_TRUST_OLD : RF := ⟨0x10000, 2, 2⟩
def TB_CFG_REFOUT_EN : RF := ⟨0x10000, 1, 1⟩
def TB_CFG_SPINE_REF : RF := ⟨0x10000, 0, 0⟩
/-- TB_STATUS, R80. -/
def TB_STATUS : RF := ⟨0x10004, 31, 0⟩
def TB_STATUS_STEP_PEND : RF := ⟨0x10004, 12, 12⟩
def TB_STATUS_PLL_LOCK : RF := ⟨0x10004, 11, 11⟩
def TB_STATUS_LREF_OK : RF := ⟨0x10004, 10, 10⟩
def TB_STATUS_HEAD : RF := ⟨0x10004, 9, 9⟩
def TB_STATUS_TRACE : RF := ⟨0x10004, 8, 8⟩
def TB_STATUS_SRC : RF := ⟨0x10004, 5, 4⟩
def TB_STATUS_ALIGN : RF := ⟨0x10004, 3, 0⟩
/-- TB_NOW_LO, R80. -/
def TB_NOW_LO : RF := ⟨0x10008, 31, 0⟩
def TB_NOW_LO_TICK_L : RF := ⟨0x10008, 31, 0⟩
/-- TB_NOW_HI, R80. -/
def TB_NOW_HI : RF := ⟨0x1000c, 31, 0⟩
def TB_NOW_HI_EPOCH : RF := ⟨0x1000c, 31, 16⟩
def TB_NOW_HI_TICK_H : RF := ⟨0x1000c, 15, 0⟩
/-- TSYNC_CFG, R80. -/
def TSYNC_CFG : RF := ⟨0x10020, 31, 0⟩
def TSYNC_CFG_ARM : RF := ⟨0x10020, 3, 3⟩
def TSYNC_CFG_EDGE : RF := ⟨0x10020, 2, 2⟩
def TSYNC_CFG_MODE : RF := ⟨0x10020, 1, 0⟩
/-- TSYNC_PER, R80. -/
def TSYNC_PER : RF := ⟨0x10024, 31, 0⟩
def TSYNC_PER_PER : RF := ⟨0x10024, 31, 0⟩
/-- TSYNC_LOAD_LO, R80. -/
def TSYNC_LOAD_LO : RF := ⟨0x10028, 31, 0⟩
def TSYNC_LOAD_LO_TICK_L : RF := ⟨0x10028, 31, 0⟩
/-- TSYNC_LOAD_HI, R80. -/
def TSYNC_LOAD_HI : RF := ⟨0x1002c, 31, 0⟩
def TSYNC_LOAD_HI_EPOCH : RF := ⟨0x1002c, 31, 16⟩
def TSYNC_LOAD_HI_TICK_H : RF := ⟨0x1002c, 15, 0⟩
/-- TSYNC_LAST_LO, R80. -/
def TSYNC_LAST_LO : RF := ⟨0x10030, 31, 0⟩
def TSYNC_LAST_LO_TICK_L : RF := ⟨0x10030, 31, 0⟩
/-- TSYNC_LAST_HI, R80. -/
def TSYNC_LAST_HI : RF := ⟨0x10034, 31, 0⟩
def TSYNC_LAST_HI_FINE : RF := ⟨0x10034, 25, 16⟩
def TSYNC_LAST_HI_TICK_H : RF := ⟨0x10034, 15, 0⟩
/-- TSYNC_ERR, R80. -/
def TSYNC_ERR : RF := ⟨0x10038, 31, 0⟩
def TSYNC_ERR_ERR : RF := ⟨0x10038, 31, 0⟩
/-- PORT_CFG, R80. -/
def PORT_CFG (i : Nat) : RF := ⟨0x10100 + 0x20 * i, 31, 0⟩
def PORT_CFG_LIMIT (i : Nat) : RF := ⟨0x10100 + 0x20 * i, 31, 16⟩
def PORT_CFG_ASYM (i : Nat) : RF := ⟨0x10100 + 0x20 * i, 15, 0⟩
/-- PORT_OFFSET, R80. -/
def PORT_OFFSET (i : Nat) : RF := ⟨0x10104 + 0x20 * i, 31, 0⟩
def PORT_OFFSET_OFFSET (i : Nat) : RF := ⟨0x10104 + 0x20 * i, 31, 0⟩
/-- PORT_DELAY, R80. -/
def PORT_DELAY (i : Nat) : RF := ⟨0x10108 + 0x20 * i, 31, 0⟩
def PORT_DELAY_DELAY (i : Nat) : RF := ⟨0x10108 + 0x20 * i, 31, 0⟩
/-- PORT_STAT, R80. -/
def PORT_STAT (i : Nat) : RF := ⟨0x1010c + 0x20 * i, 31, 0⟩
def PORT_STAT_EXCH (i : Nat) : RF := ⟨0x1010c + 0x20 * i, 31, 16⟩
def PORT_STAT_VER (i : Nat) : RF := ⟨0x1010c + 0x20 * i, 9, 8⟩
def PORT_STAT_VALID (i : Nat) : RF := ⟨0x1010c + 0x20 * i, 0, 0⟩
/-- PORT_OFFH, R80. -/
def PORT_OFFH (i : Nat) : RF := ⟨0x10110 + 0x20 * i, 31, 0⟩
def PORT_OFFH_OFFSET_H (i : Nat) : RF := ⟨0x10110 + 0x20 * i, 31, 0⟩
/-- TK_CFG, R110. -/
def TK_CFG : RF := ⟨0x80000, 31, 0⟩
def TK_CFG_MAXAGE : RF := ⟨0x80000, 31, 24⟩
def TK_CFG_SWAP_EVT : RF := ⟨0x80000, 1, 1⟩
def TK_CFG_GRADE_EN : RF := ⟨0x80000, 0, 0⟩
/-- HB_CFG, R110. -/
def HB_CFG : RF := ⟨0x80004, 31, 0⟩
def HB_CFG_AGE : RF := ⟨0x80004, 31, 16⟩
def HB_CFG_MAXLEN : RF := ⟨0x80004, 9, 0⟩
/-- CH_CFG, R110. -/
def CH_CFG (i : Nat) : RF := ⟨0x81000 + 0x20 * i, 31, 0⟩
def CH_CFG_EN (i : Nat) : RF := ⟨0x81000 + 0x20 * i, 31, 31⟩
def CH_CFG_PROBE_REC (i : Nat) : RF := ⟨0x81000 + 0x20 * i, 30, 30⟩
def CH_CFG_SRC (i : Nat) : RF := ⟨0x81000 + 0x20 * i, 29, 28⟩
def CH_CFG_TERM (i : Nat) : RF := ⟨0x81000 + 0x20 * i, 27, 27⟩
def CH_CFG_SLOPE (i : Nat) : RF := ⟨0x81000 + 0x20 * i, 23, 22⟩
def CH_CFG_HYST (i : Nat) : RF := ⟨0x81000 + 0x20 * i, 21, 20⟩
/-- CH_LEVEL, R110. -/
def CH_LEVEL (i : Nat) : RF := ⟨0x81004 + 0x20 * i, 31, 0⟩
def CH_LEVEL_HOLDOFF (i : Nat) : RF := ⟨0x81004 + 0x20 * i, 25, 16⟩
def CH_LEVEL_THR (i : Nat) : RF := ⟨0x81004 + 0x20 * i, 9, 0⟩
/-- CH_TRIM, R110. -/
def CH_TRIM (i : Nat) : RF := ⟨0x81008 + 0x20 * i, 31, 0⟩
def CH_TRIM_TRIM (i : Nat) : RF := ⟨0x81008 + 0x20 * i, 15, 0⟩
/-- GRADE_STAT, R110. -/
def GRADE_STAT (i : Nat) : RF := ⟨0x8100c + 0x20 * i, 31, 0⟩
def GRADE_STAT_VALID (i : Nat) : RF := ⟨0x8100c + 0x20 * i, 31, 31⟩
def GRADE_STAT_STALE (i : Nat) : RF := ⟨0x8100c + 0x20 * i, 30, 30⟩
def GRADE_STAT_REJECT (i : Nat) : RF := ⟨0x8100c + 0x20 * i, 29, 29⟩
def GRADE_STAT_BUF (i : Nat) : RF := ⟨0x8100c + 0x20 * i, 28, 28⟩
def GRADE_STAT_SWAPS (i : Nat) : RF := ⟨0x8100c + 0x20 * i, 27, 20⟩
def GRADE_STAT_FILL (i : Nat) : RF := ⟨0x8100c + 0x20 * i, 16, 0⟩
/-- GRADE_LAST, R110. -/
def GRADE_LAST (i : Nat) : RF := ⟨0x81010 + 0x20 * i, 31, 0⟩
def GRADE_LAST_TICK_L (i : Nat) : RF := ⟨0x81010 + 0x20 * i, 31, 0⟩
/-- HIT_CNT, R110. -/
def HIT_CNT (i : Nat) : RF := ⟨0x81014 + 0x20 * i, 31, 0⟩
def HIT_CNT_COUNT (i : Nat) : RF := ⟨0x81014 + 0x20 * i, 31, 0⟩
/-- LOSS_CNT, R110. -/
def LOSS_CNT (i : Nat) : RF := ⟨0x81018 + 0x20 * i, 31, 0⟩
def LOSS_CNT_PILE_CNT (i : Nat) : RF := ⟨0x81018 + 0x20 * i, 31, 16⟩
def LOSS_CNT_LOST_CNT (i : Nat) : RF := ⟨0x81018 + 0x20 * i, 15, 0⟩
/-- HOLD_CNT, R110. -/
def HOLD_CNT (i : Nat) : RF := ⟨0x8101c + 0x20 * i, 31, 0⟩
def HOLD_CNT_COUNT (i : Nat) : RF := ⟨0x8101c + 0x20 * i, 31, 0⟩
/-- IV_CFG, R110. -/
def IV_CFG (i : Nat) : RF := ⟨0x82000 + 0x10 * i, 31, 0⟩
def IV_CFG_EN (i : Nat) : RF := ⟨0x82000 + 0x10 * i, 31, 31⟩
def IV_CFG_CONT (i : Nat) : RF := ⟨0x82000 + 0x10 * i, 30, 30⟩
def IV_CFG_START (i : Nat) : RF := ⟨0x82000 + 0x10 * i, 29, 24⟩
def IV_CFG_STOP (i : Nat) : RF := ⟨0x82000 + 0x10 * i, 21, 16⟩
/-- IV_COUNT, R110. -/
def IV_COUNT (i : Nat) : RF := ⟨0x82004 + 0x10 * i, 31, 0⟩
def IV_COUNT_COUNT (i : Nat) : RF := ⟨0x82004 + 0x10 * i, 31, 0⟩
/-- FA_GCFG, R137. -/
def FA_GCFG : RF := ⟨0x90000, 31, 0⟩
def FA_GCFG_ILV : RF := ⟨0x90000, 15, 0⟩
/-- FA_CFG, R137. -/
def FA_CFG (i : Nat) : RF := ⟨0x91000 + 0x20 * i, 31, 0⟩
def FA_CFG_EN (i : Nat) : RF := ⟨0x91000 + 0x20 * i, 31, 31⟩
def FA_CFG_FE (i : Nat) : RF := ⟨0x91000 + 0x20 * i, 30, 30⟩
def FA_CFG_BW (i : Nat) : RF := ⟨0x91000 + 0x20 * i, 29, 28⟩
def FA_CFG_VRANGE (i : Nat) : RF := ⟨0x91000 + 0x20 * i, 27, 26⟩
def FA_CFG_ZIN (i : Nat) : RF := ⟨0x91000 + 0x20 * i, 25, 25⟩
def FA_CFG_CF (i : Nat) : RF := ⟨0x91000 + 0x20 * i, 22, 16⟩
/-- FA_RST, R137. -/
def FA_RST (i : Nat) : RF := ⟨0x91004 + 0x20 * i, 31, 0⟩
def FA_RST_POLICY (i : Nat) : RF := ⟨0x91004 + 0x20 * i, 31, 30⟩
def FA_RST_DEFER (i : Nat) : RF := ⟨0x91004 + 0x20 * i, 29, 29⟩
def FA_RST_RST_EVT (i : Nat) : RF := ⟨0x91004 + 0x20 * i, 28, 28⟩
def FA_RST_STRB (i : Nat) : RF := ⟨0x91004 + 0x20 * i, 27, 27⟩
def FA_RST_RAIL (i : Nat) : RF := ⟨0x91004 + 0x20 * i, 26, 24⟩
def FA_RST_PERIOD (i : Nat) : RF := ⟨0x91004 + 0x20 * i, 23, 0⟩
/-- FA_RSTT, R137. -/
def FA_RSTT (i : Nat) : RF := ⟨0x91008 + 0x20 * i, 31, 0⟩
def FA_RSTT_RECOV (i : Nat) : RF := ⟨0x91008 + 0x20 * i, 25, 16⟩
def FA_RSTT_CLOSE (i : Nat) : RF := ⟨0x91008 + 0x20 * i, 9, 0⟩
/-- FA_STAT, R137. -/
def FA_STAT (i : Nat) : RF := ⟨0x9100c + 0x20 * i, 31, 0⟩
def FA_STAT_MATCH_OK (i : Nat) : RF := ⟨0x9100c + 0x20 * i, 31, 31⟩
def FA_STAT_RST_ACT (i : Nat) : RF := ⟨0x9100c + 0x20 * i, 30, 30⟩
def FA_STAT_DEFERRED (i : Nat) : RF := ⟨0x9100c + 0x20 * i, 29, 29⟩
def FA_STAT_RST_CNT (i : Nat) : RF := ⟨0x9100c + 0x20 * i, 15, 0⟩
/-- FA_CLIP, R137. -/
def FA_CLIP (i : Nat) : RF := ⟨0x91010 + 0x20 * i, 31, 0⟩
def FA_CLIP_COUNT (i : Nat) : RF := ⟨0x91010 + 0x20 * i, 31, 0⟩
/-- FA_MATCH, R137. -/
def FA_MATCH (i : Nat) : RF := ⟨0x91014 + 0x20 * i, 31, 0⟩
def FA_MATCH_SKEW (i : Nat) : RF := ⟨0x91014 + 0x20 * i, 31, 16⟩
def FA_MATCH_GAIN (i : Nat) : RF := ⟨0x91014 + 0x20 * i, 15, 8⟩
def FA_MATCH_OFS (i : Nat) : RF := ⟨0x91014 + 0x20 * i, 7, 0⟩
/-- TRG_CFG, R165. -/
def TRG_CFG : RF := ⟨0xa0000, 31, 0⟩
def TRG_CFG_QUEUE : RF := ⟨0xa0000, 31, 24⟩
/-- TRG_WIN, R165. -/
def TRG_WIN : RF := ⟨0xa0004, 31, 0⟩
def TRG_WIN_PRE : RF := ⟨0xa0004, 31, 16⟩
def TRG_WIN_POST : RF := ⟨0xa0004, 15, 0⟩
/-- TRG_CAP, R165. -/
def TRG_CAP : RF := ⟨0xa0008, 31, 0⟩
def TRG_CAP_CH : RF := ⟨0xa0008, 31, 0⟩
/-- TRG_AVG, R165. -/
def TRG_AVG : RF := ⟨0xa000c, 31, 0⟩
def TRG_AVG_NM1 : RF := ⟨0xa000c, 11, 0⟩
/-- TRG_IO, R165. -/
def TRG_IO : RF := ⟨0xa0010, 31, 0⟩
def TRG_IO_TO_EN : RF := ⟨0xa0010, 31, 31⟩
def TRG_IO_TOW : RF := ⟨0xa0010, 23, 16⟩
def TRG_IO_DELAY : RF := ⟨0xa0010, 15, 0⟩
/-- TRG_STAT, R165. -/
def TRG_STAT : RF := ⟨0xa0014, 31, 0⟩
def TRG_STAT_ARMST : RF := ⟨0xa0014, 31, 30⟩
def TRG_STAT_ROOT : RF := ⟨0xa0014, 29, 24⟩
def TRG_STAT_MASTER : RF := ⟨0xa0014, 23, 23⟩
def TRG_STAT_ONCE : RF := ⟨0xa0014, 22, 22⟩
def TRG_STAT_LATE : RF := ⟨0xa0014, 21, 21⟩
def TRG_STAT_INFLIGHT : RF := ⟨0xa0014, 19, 16⟩
def TRG_STAT_GATH : RF := ⟨0xa0014, 15, 0⟩
/-- TRG_SET, R165. -/
def TRG_SET : RF := ⟨0xa0018, 31, 0⟩
def TRG_SET_HOLD : RF := ⟨0xa0018, 31, 16⟩
def TRG_SET_SETTLE : RF := ⟨0xa0018, 13, 0⟩
/-- TRG_ARMT_LO, R165. -/
def TRG_ARMT_LO : RF := ⟨0xa001c, 31, 0⟩
def TRG_ARMT_LO_TICK_L : RF := ⟨0xa001c, 31, 0⟩
/-- TRG_ARMT_HI, R165. -/
def TRG_ARMT_HI : RF := ⟨0xa0020, 31, 0⟩
def TRG_ARMT_HI_TICK_H : RF := ⟨0xa0020, 15, 0⟩
/-- TRG_MEM_LO, R165. -/
def TRG_MEM_LO : RF := ⟨0xa0024, 31, 0⟩
def TRG_MEM_LO_MEM_L : RF := ⟨0xa0024, 31, 0⟩
/-- TRG_MEM_HI, R165. -/
def TRG_MEM_HI : RF := ⟨0xa0028, 31, 0⟩
def TRG_MEM_HI_MEM_H : RF := ⟨0xa0028, 31, 0⟩
/-- TRG_OVF, R165. -/
def TRG_OVF : RF := ⟨0xa002c, 31, 0⟩
def TRG_OVF_HELD : RF := ⟨0xa002c, 31, 16⟩
def TRG_OVF_MARKS : RF := ⟨0xa002c, 15, 0⟩
/-- TC_CFG, R165. -/
def TC_CFG (i : Nat) : RF := ⟨0xa1000 + 0x20 * i, 31, 0⟩
def TC_CFG_EN (i : Nat) : RF := ⟨0xa1000 + 0x20 * i, 31, 31⟩
def TC_CFG_SCOPE (i : Nat) : RF := ⟨0xa1000 + 0x20 * i, 30, 30⟩
def TC_CFG_TYPE (i : Nat) : RF := ⟨0xa1000 + 0x20 * i, 29, 27⟩
def TC_CFG_MODE (i : Nat) : RF := ⟨0xa1000 + 0x20 * i, 23, 22⟩
def TC_CFG_SRC (i : Nat) : RF := ⟨0xa1000 + 0x20 * i, 21, 16⟩
/-- TC_LEVEL, R165. -/
def TC_LEVEL (i : Nat) : RF := ⟨0xa1004 + 0x20 * i, 31, 0⟩
def TC_LEVEL_LEVEL (i : Nat) : RF := ⟨0xa1004 + 0x20 * i, 23, 0⟩
/-- TC_WIN, R165. -/
def TC_WIN (i : Nat) : RF := ⟨0xa1008 + 0x20 * i, 31, 0⟩
def TC_WIN_MULT (i : Nat) : RF := ⟨0xa1008 + 0x20 * i, 22, 16⟩
def TC_WIN_WINDOW (i : Nat) : RF := ⟨0xa1008 + 0x20 * i, 15, 0⟩
/-- TC_MASK_LO, R165. -/
def TC_MASK_LO (i : Nat) : RF := ⟨0xa100c + 0x20 * i, 31, 0⟩
def TC_MASK_LO_MASK_L (i : Nat) : RF := ⟨0xa100c + 0x20 * i, 31, 0⟩
/-- TC_MASK_HI, R165. -/
def TC_MASK_HI (i : Nat) : RF := ⟨0xa1010 + 0x20 * i, 31, 0⟩
def TC_MASK_HI_MASK_H (i : Nat) : RF := ⟨0xa1010 + 0x20 * i, 31, 0⟩
/-- TC_PERIOD, R165. -/
def TC_PERIOD (i : Nat) : RF := ⟨0xa1014 + 0x20 * i, 31, 0⟩
def TC_PERIOD_PERIOD (i : Nat) : RF := ⟨0xa1014 + 0x20 * i, 31, 0⟩
/-- TC_CNT, R165. -/
def TC_CNT (i : Nat) : RF := ⟨0xa1018 + 0x20 * i, 31, 0⟩
def TC_CNT_COUNT (i : Nat) : RF := ⟨0xa1018 + 0x20 * i, 31, 0⟩
/-- PAT_CFG, R200. -/
def PAT_CFG : RF := ⟨0xd0000, 31, 0⟩
def PAT_CFG_EXIT_T : RF := ⟨0xd0000, 31, 16⟩
def PAT_CFG_FAIL_STOP : RF := ⟨0xd0000, 1, 1⟩
def PAT_CFG_STARVE_ACT : RF := ⟨0xd0000, 0, 0⟩
/-- PAT_STAT, R200. -/
def PAT_STAT : RF := ⟨0xd0004, 31, 0⟩
def PAT_STAT_STATE : RF := ⟨0xd0004, 31, 29⟩
def PAT_STAT_SEG : RF := ⟨0xd0004, 25, 16⟩
def PAT_STAT_PASS : RF := ⟨0xd0004, 15, 0⟩
/-- PAT_POS, R200. -/
def PAT_POS : RF := ⟨0xd0008, 31, 0⟩
def PAT_POS_VEC : RF := ⟨0xd0008, 15, 0⟩
/-- PAT_RATE, R200. -/
def PAT_RATE (i : Nat) : RF := ⟨0xd0010 + 0x4 * i, 31, 0⟩
def PAT_RATE_INC (i : Nat) : RF := ⟨0xd0010 + 0x4 * i, 31, 0⟩
/-- PAT_IDLE_EN, R200. -/
def PAT_IDLE_EN : RF := ⟨0xd0020, 31, 0⟩
def PAT_IDLE_EN_EN : RF := ⟨0xd0020, 31, 0⟩
/-- PAT_IDLE_VAL, R200. -/
def PAT_IDLE_VAL : RF := ⟨0xd0024, 31, 0⟩
def PAT_IDLE_VAL_VAL : RF := ⟨0xd0024, 31, 0⟩
/-- PAT_CMP, R200. -/
def PAT_CMP : RF := ⟨0xd0028, 31, 0⟩
def PAT_CMP_STROBE : RF := ⟨0xd0028, 9, 0⟩
/-- PAT_STREAM, R200. -/
def PAT_STREAM : RF := ⟨0xd002c, 31, 0⟩
def PAT_STREAM_QUEUE : RF := ⟨0xd002c, 31, 24⟩
/-- PAT_BR, R200. -/
def PAT_BR : RF := ⟨0xd0030, 31, 0⟩
def PAT_BR_PEND : RF := ⟨0xd0030, 31, 31⟩
def PAT_BR_LATE : RF := ⟨0xd0030, 30, 30⟩
def PAT_BR_TARGET : RF := ⟨0xd0030, 25, 16⟩
def PAT_BR_LATE_CNT : RF := ⟨0xd0030, 15, 8⟩
def PAT_BR_DROP_CNT : RF := ⟨0xd0030, 7, 0⟩
/-- PAT_FAIL_CNT, R200. -/
def PAT_FAIL_CNT : RF := ⟨0xd0034, 31, 0⟩
def PAT_FAIL_CNT_COUNT : RF := ⟨0xd0034, 31, 0⟩
/-- PAT_FAIL_SEG, R200. -/
def PAT_FAIL_SEG : RF := ⟨0xd0038, 31, 0⟩
def PAT_FAIL_SEG_VALID : RF := ⟨0xd0038, 31, 31⟩
def PAT_FAIL_SEG_SEG : RF := ⟨0xd0038, 25, 16⟩
def PAT_FAIL_SEG_VEC : RF := ⟨0xd0038, 15, 0⟩
/-- PAT_FAIL_PASS, R200. -/
def PAT_FAIL_PASS : RF := ⟨0xd003c, 31, 0⟩
def PAT_FAIL_PASS_PASS : RF := ⟨0xd003c, 15, 0⟩
/-- PAT_FAIL_TICK, R200. -/
def PAT_FAIL_TICK : RF := ⟨0xd0040, 31, 0⟩
def PAT_FAIL_TICK_TICK_L : RF := ⟨0xd0040, 31, 0⟩
/-- PAT_FAIL_MASK, R200. -/
def PAT_FAIL_MASK : RF := ⟨0xd0044, 31, 0⟩
def PAT_FAIL_MASK_PINS : RF := ⟨0xd0044, 31, 0⟩
/-- PAT_SLIP_LO, R200. -/
def PAT_SLIP_LO : RF := ⟨0xd0048, 31, 0⟩
def PAT_SLIP_LO_TICK_L : RF := ⟨0xd0048, 31, 0⟩
/-- PAT_SLIP_CNT, R200. -/
def PAT_SLIP_CNT : RF := ⟨0xd004c, 31, 0⟩
def PAT_SLIP_CNT_COUNT : RF := ⟨0xd004c, 15, 0⟩
/-- PAT_PINS, R200. -/
def PAT_PINS : RF := ⟨0xd0050, 31, 0⟩
def PAT_PINS_LEVEL : RF := ⟨0xd0050, 31, 0⟩
/-- PAT_CAL, R200. -/
def PAT_CAL : RF := ⟨0xd0060, 31, 0⟩
def PAT_CAL_START : RF := ⟨0xd0060, 31, 31⟩
def PAT_CAL_BUSY : RF := ⟨0xd0060, 30, 30⟩
/-- PAT_CAL_PINS, R200. -/
def PAT_CAL_PINS : RF := ⟨0xd0064, 31, 0⟩
def PAT_CAL_PINS_PINS : RF := ⟨0xd0064, 31, 0⟩
/-- PAT_CAL_OK, R200. -/
def PAT_CAL_OK : RF := ⟨0xd0068, 31, 0⟩
def PAT_CAL_OK_PINS : RF := ⟨0xd0068, 31, 0⟩
/-- PAT_CAL_ERR, R200. -/
def PAT_CAL_ERR : RF := ⟨0xd006c, 31, 0⟩
def PAT_CAL_ERR_PINS : RF := ⟨0xd006c, 31, 0⟩
/-- PAT_SHOT, R200. -/
def PAT_SHOT : RF := ⟨0xd0070, 31, 0⟩
def PAT_SHOT_COUNT : RF := ⟨0xd0070, 31, 0⟩
/-- PV_PIN, R200. -/
def PV_PIN (i : Nat) : RF := ⟨0xd0100 + 0x4 * i, 31, 0⟩
def PV_PIN_BASE (i : Nat) : RF := ⟨0xd0100 + 0x4 * i, 31, 24⟩
def PV_PIN_OFS (i : Nat) : RF := ⟨0xd0100 + 0x4 * i, 11, 0⟩
/-- DM_LTRUE, R227. -/
def DM_LTRUE : RF := ⟨0xe0000, 31, 0⟩
def DM_LTRUE_LINES : RF := ⟨0xe0000, 31, 0⟩
/-- DM_LFALSE, R227. -/
def DM_LFALSE : RF := ⟨0xe0004, 31, 0⟩
def DM_LFALSE_LINES : RF := ⟨0xe0004, 31, 0⟩
/-- CMP_CFG, R227. -/
def CMP_CFG (i : Nat) : RF := ⟨0xe0100 + 0x10 * i, 31, 0⟩
def CMP_CFG_EN (i : Nat) : RF := ⟨0xe0100 + 0x10 * i, 31, 31⟩
def CMP_CFG_AVG (i : Nat) : RF := ⟨0xe0100 + 0x10 * i, 30, 30⟩
def CMP_CFG_QTY (i : Nat) : RF := ⟨0xe0100 + 0x10 * i, 29, 28⟩
def CMP_CFG_GATE (i : Nat) : RF := ⟨0xe0100 + 0x10 * i, 26, 24⟩
def CMP_CFG_DEMOD (i : Nat) : RF := ⟨0xe0100 + 0x10 * i, 19, 16⟩
/-- CMP_LO, R227. -/
def CMP_LO (i : Nat) : RF := ⟨0xe0104 + 0x10 * i, 31, 0⟩
def CMP_LO_LO (i : Nat) : RF := ⟨0xe0104 + 0x10 * i, 31, 0⟩
/-- CMP_HI, R227. -/
def CMP_HI (i : Nat) : RF := ⟨0xe0108 + 0x10 * i, 31, 0⟩
def CMP_HI_HI (i : Nat) : RF := ⟨0xe0108 + 0x10 * i, 31, 0⟩
/-- CMP_CNT, R227. -/
def CMP_CNT (i : Nat) : RF := ⟨0xe010c + 0x10 * i, 31, 0⟩
def CMP_CNT_TRUE_CNT (i : Nat) : RF := ⟨0xe010c + 0x10 * i, 31, 16⟩
def CMP_CNT_FALSE_CNT (i : Nat) : RF := ⟨0xe010c + 0x10 * i, 15, 0⟩
/-- DM_CFG, R227. -/
def DM_CFG (i : Nat) : RF := ⟨0xe1000 + 0x100 * i, 31, 0⟩
def DM_CFG_EN (i : Nat) : RF := ⟨0xe1000 + 0x100 * i, 31, 31⟩
def DM_CFG_FA (i : Nat) : RF := ⟨0xe1000 + 0x100 * i, 28, 24⟩
def DM_CFG_TKCH (i : Nat) : RF := ⟨0xe1000 + 0x100 * i, 21, 16⟩
def DM_CFG_PIN (i : Nat) : RF := ⟨0xe1000 + 0x100 * i, 12, 8⟩
def DM_CFG_DEC (i : Nat) : RF := ⟨0xe1000 + 0x100 * i, 6, 0⟩
/-- DM_NCO, R227. -/
def DM_NCO (i : Nat) : RF := ⟨0xe1004 + 0x100 * i, 31, 0⟩
def DM_NCO_FTW (i : Nat) : RF := ⟨0xe1004 + 0x100 * i, 31, 0⟩
/-- DM_PREF, R227. -/
def DM_PREF (i : Nat) : RF := ⟨0xe1008 + 0x100 * i, 31, 0⟩
def DM_PREF_PREF (i : Nat) : RF := ⟨0xe1008 + 0x100 * i, 31, 0⟩
/-- DM_COFS, R227. -/
def DM_COFS (i : Nat) : RF := ⟨0xe100c + 0x100 * i, 31, 0⟩
def DM_COFS_COFS (i : Nat) : RF := ⟨0xe100c + 0x100 * i, 31, 0⟩
/-- DM_FIR, R227. -/
def DM_FIR (i : Nat) : RF := ⟨0xe1010 + 0x100 * i, 31, 0⟩
def DM_FIR_SHIFT (i : Nat) : RF := ⟨0xe1010 + 0x100 * i, 4, 0⟩
/-- DM_AVG, R227. -/
def DM_AVG (i : Nat) : RF := ⟨0xe1014 + 0x100 * i, 31, 0⟩
def DM_AVG_EN (i : Nat) : RF := ⟨0xe1014 + 0x100 * i, 31, 31⟩
def DM_AVG_NM1 (i : Nat) : RF := ⟨0xe1014 + 0x100 * i, 15, 0⟩
/-- DM_TEMP, R227. -/
def DM_TEMP (i : Nat) : RF := ⟨0xe1018 + 0x100 * i, 31, 0⟩
def DM_TEMP_TPEN (i : Nat) : RF := ⟨0xe1018 + 0x100 * i, 31, 31⟩
def DM_TEMP_TPORT (i : Nat) : RF := ⟨0xe1018 + 0x100 * i, 3, 0⟩
/-- DM_OUT, R227. -/
def DM_OUT (i : Nat) : RF := ⟨0xe101c + 0x100 * i, 31, 0⟩
def DM_OUT_QUEUE (i : Nat) : RF := ⟨0xe101c + 0x100 * i, 31, 24⟩
def DM_OUT_PUB_SS (i : Nat) : RF := ⟨0xe101c + 0x100 * i, 1, 1⟩
def DM_OUT_PUB_AVG (i : Nat) : RF := ⟨0xe101c + 0x100 * i, 0, 0⟩
/-- DM_STAT, R227. -/
def DM_STAT (i : Nat) : RF := ⟨0xe1020 + 0x100 * i, 31, 0⟩
def DM_STAT_UNCLAIMED (i : Nat) : RF := ⟨0xe1020 + 0x100 * i, 31, 31⟩
def DM_STAT_BUSY (i : Nat) : RF := ⟨0xe1020 + 0x100 * i, 30, 30⟩
def DM_STAT_LOST (i : Nat) : RF := ⟨0xe1020 + 0x100 * i, 3, 3⟩
def DM_STAT_AMBIG (i : Nat) : RF := ⟨0xe1020 + 0x100 * i, 2, 2⟩
def DM_STAT_SPOILED (i : Nat) : RF := ⟨0xe1020 + 0x100 * i, 1, 1⟩
def DM_STAT_SKIPPED (i : Nat) : RF := ⟨0xe1020 + 0x100 * i, 0, 0⟩
/-- DM_SHOTS, R227. -/
def DM_SHOTS (i : Nat) : RF := ⟨0xe1024 + 0x100 * i, 31, 0⟩
def DM_SHOTS_COUNT (i : Nat) : RF := ⟨0xe1024 + 0x100 * i, 31, 0⟩
/-- DM_CNT, R227. -/
def DM_CNT (i : Nat) : RF := ⟨0xe1028 + 0x100 * i, 31, 0⟩
def DM_CNT_SKIP (i : Nat) : RF := ⟨0xe1028 + 0x100 * i, 31, 16⟩
def DM_CNT_SPOIL (i : Nat) : RF := ⟨0xe1028 + 0x100 * i, 15, 0⟩
/-- DM_FILL, R227. -/
def DM_FILL (i : Nat) : RF := ⟨0xe102c + 0x100 * i, 31, 0⟩
def DM_FILL_FILL (i : Nat) : RF := ⟨0xe102c + 0x100 * i, 15, 0⟩
/-- DM_GOPEN, R227. -/
def DM_GOPEN (i j : Nat) : RF := ⟨0xe1040 + 0x100 * i + 0x8 * j, 31, 0⟩
def DM_GOPEN_EN (i j : Nat) : RF := ⟨0xe1040 + 0x100 * i + 0x8 * j, 31, 31⟩
def DM_GOPEN_OPEN (i j : Nat) : RF := ⟨0xe1040 + 0x100 * i + 0x8 * j, 19, 0⟩
/-- DM_GLEN, R227. -/
def DM_GLEN (i j : Nat) : RF := ⟨0xe1044 + 0x100 * i + 0x8 * j, 31, 0⟩
def DM_GLEN_LEN (i j : Nat) : RF := ⟨0xe1044 + 0x100 * i + 0x8 * j, 15, 0⟩
/-- PS_GCFG, R254. -/
def PS_GCFG : RF := ⟨0xf0000, 31, 0⟩
def PS_GCFG_SBY_EXC : RF := ⟨0xf0000, 0, 0⟩
/-- PS_CFG, R254. -/
def PS_CFG (i : Nat) : RF := ⟨0xf1000 + 0x40 * i, 31, 0⟩
def PS_CFG_EN (i : Nat) : RF := ⟨0xf1000 + 0x40 * i, 31, 31⟩
def PS_CFG_REV (i : Nat) : RF := ⟨0xf1000 + 0x40 * i, 30, 30⟩
def PS_CFG_MODE (i : Nat) : RF := ⟨0xf1000 + 0x40 * i, 27, 24⟩
def PS_CFG_GAIN (i : Nat) : RF := ⟨0xf1000 + 0x40 * i, 22, 20⟩
def PS_CFG_SETTLE (i : Nat) : RF := ⟨0xf1000 + 0x40 * i, 9, 0⟩
/-- PS_EXC, R254. -/
def PS_EXC (i : Nat) : RF := ⟨0xf1004 + 0x40 * i, 31, 0⟩
def PS_EXC_VEXC (i : Nat) : RF := ⟨0xf1004 + 0x40 * i, 24, 16⟩
def PS_EXC_IEXC (i : Nat) : RF := ⟨0xf1004 + 0x40 * i, 7, 0⟩
/-- PS_AUX, R254. -/
def PS_AUX (i : Nat) : RF := ⟨0xf1008 + 0x40 * i, 31, 0⟩
def PS_AUX_BIAS (i : Nat) : RF := ⟨0xf1008 + 0x40 * i, 16, 16⟩
def PS_AUX_CJPORT (i : Nat) : RF := ⟨0xf1008 + 0x40 * i, 11, 8⟩
def PS_AUX_TCTYPE (i : Nat) : RF := ⟨0xf1008 + 0x40 * i, 3, 0⟩
/-- PS_FLT, R254. -/
def PS_FLT (i : Nat) : RF := ⟨0xf100c + 0x40 * i, 31, 0⟩
def PS_FLT_FEN (i : Nat) : RF := ⟨0xf100c + 0x40 * i, 31, 31⟩
def PS_FLT_AUTOCLR (i : Nat) : RF := ⟨0xf100c + 0x40 * i, 30, 30⟩
def PS_FLT_PULL (i : Nat) : RF := ⟨0xf100c + 0x40 * i, 29, 28⟩
def PS_FLT_PINS (i : Nat) : RF := ⟨0xf100c + 0x40 * i, 27, 22⟩
def PS_FLT_CM_HI (i : Nat) : RF := ⟨0xf100c + 0x40 * i, 15, 8⟩
def PS_FLT_CM_LO (i : Nat) : RF := ⟨0xf100c + 0x40 * i, 7, 0⟩
/-- PS_IMP, R254. -/
def PS_IMP (i : Nat) : RF := ⟨0xf1010 + 0x40 * i, 31, 0⟩
def PS_IMP_PERIOD (i : Nat) : RF := ⟨0xf1010 + 0x40 * i, 31, 24⟩
def PS_IMP_LEAD_MAX (i : Nat) : RF := ⟨0xf1010 + 0x40 * i, 23, 16⟩
def PS_IMP_LOOP_MAX (i : Nat) : RF := ⟨0xf1010 + 0x40 * i, 15, 0⟩
/-- PS_LEAD, R254. -/
def PS_LEAD (i : Nat) : RF := ⟨0xf1014 + 0x40 * i, 31, 0⟩
def PS_LEAD_LEAD (i : Nat) : RF := ⟨0xf1014 + 0x40 * i, 15, 0⟩
/-- PS_STAT, R254. -/
def PS_STAT (i : Nat) : RF := ⟨0xf1018 + 0x40 * i, 31, 0⟩
def PS_STAT_FAULT (i : Nat) : RF := ⟨0xf1018 + 0x40 * i, 31, 31⟩
def PS_STAT_CAUSE (i : Nat) : RF := ⟨0xf1018 + 0x40 * i, 30, 29⟩
def PS_STAT_PINS (i : Nat) : RF := ⟨0xf1018 + 0x40 * i, 28, 23⟩
def PS_STAT_CFGERR (i : Nat) : RF := ⟨0xf1018 + 0x40 * i, 22, 22⟩
def PS_STAT_STATE (i : Nat) : RF := ⟨0xf1018 + 0x40 * i, 21, 19⟩
/-- PS_CNT, R254. -/
def PS_CNT (i : Nat) : RF := ⟨0xf101c + 0x40 * i, 31, 0⟩
def PS_CNT_GLITCH (i : Nat) : RF := ⟨0xf101c + 0x40 * i, 31, 16⟩
def PS_CNT_RESTART (i : Nat) : RF := ⟨0xf101c + 0x40 * i, 15, 0⟩
/-- PS_IMPR, R254. -/
def PS_IMPR (i : Nat) : RF := ⟨0xf1020 + 0x40 * i, 31, 0⟩
def PS_IMPR_LOOP (i : Nat) : RF := ⟨0xf1020 + 0x40 * i, 31, 16⟩
def PS_IMPR_LEAD (i : Nat) : RF := ⟨0xf1020 + 0x40 * i, 15, 0⟩
/-- PC_URG, R284. -/
def PC_URG : RF := ⟨0x100010, 31, 0⟩
def PC_URG_REQ : RF := ⟨0x100010, 15, 0⟩
/-- PC_SNAP, R284. -/
def PC_SNAP : RF := ⟨0x100014, 31, 0⟩
def PC_SNAP_PORTS : RF := ⟨0x100014, 15, 0⟩
/-- PC_LCOMMIT, R284. -/
def PC_LCOMMIT : RF := ⟨0x100018, 31, 0⟩
def PC_LCOMMIT_PORT : RF := ⟨0x100018, 15, 0⟩
/-- PC_SCAN, R284. -/
def PC_SCAN (i : Nat) : RF := ⟨0x100100 + 0x20 * i, 31, 0⟩
def PC_SCAN_LEN (i : Nat) : RF := ⟨0x100100 + 0x20 * i, 27, 24⟩
def PC_SCAN_ENTRY (i : Nat) : RF := ⟨0x100100 + 0x20 * i, 7, 0⟩
/-- PC_ILV, R284. -/
def PC_ILV (i : Nat) : RF := ⟨0x100104 + 0x20 * i, 31, 0⟩
def PC_ILV_EN (i : Nat) : RF := ⟨0x100104 + 0x20 * i, 31, 31⟩
def PC_ILV_ACTIVE (i : Nat) : RF := ⟨0x100104 + 0x20 * i, 30, 30⟩
def PC_ILV_ILVERR (i : Nat) : RF := ⟨0x100104 + 0x20 * i, 29, 29⟩
def PC_ILV_PORT (i : Nat) : RF := ⟨0x100104 + 0x20 * i, 0, 0⟩
/-- PC_CSTAT, R284. -/
def PC_CSTAT (i : Nat) : RF := ⟨0x100108 + 0x20 * i, 31, 0⟩
def PC_CSTAT_STATE (i : Nat) : RF := ⟨0x100108 + 0x20 * i, 31, 28⟩
def PC_CSTAT_PORT (i : Nat) : RF := ⟨0x100108 + 0x20 * i, 19, 16⟩
def PC_CSTAT_URGCNT (i : Nat) : RF := ⟨0x100108 + 0x20 * i, 15, 0⟩
/-- PC_IMATCH, R284. -/
def PC_IMATCH (i : Nat) : RF := ⟨0x10010c + 0x20 * i, 31, 0⟩
def PC_IMATCH_MO (i : Nat) : RF := ⟨0x10010c + 0x20 * i, 31, 16⟩
def PC_IMATCH_MG (i : Nat) : RF := ⟨0x10010c + 0x20 * i, 15, 0⟩
/-- PC_PORT, R284. -/
def PC_PORT (i : Nat) : RF := ⟨0x100800 + 0x20 * i, 31, 0⟩
def PC_PORT_RATE (i : Nat) : RF := ⟨0x100800 + 0x20 * i, 31, 28⟩
def PC_PORT_LIN (i : Nat) : RF := ⟨0x100800 + 0x20 * i, 27, 26⟩
def PC_PORT_XDEG (i : Nat) : RF := ⟨0x100800 + 0x20 * i, 25, 23⟩
def PC_PORT_TDEG (i : Nat) : RF := ⟨0x100800 + 0x20 * i, 22, 21⟩
def PC_PORT_TPORT (i : Nat) : RF := ⟨0x100800 + 0x20 * i, 19, 16⟩
def PC_PORT_R0 (i : Nat) : RF := ⟨0x100800 + 0x20 * i, 15, 14⟩
/-- PC_OUT, R284. -/
def PC_OUT (i : Nat) : RF := ⟨0x100804 + 0x20 * i, 31, 0⟩
def PC_OUT_QUEUE (i : Nat) : RF := ⟨0x100804 + 0x20 * i, 31, 24⟩
def PC_OUT_RAWW (i : Nat) : RF := ⟨0x100804 + 0x20 * i, 0, 0⟩
/-- PC_LAST, R284. -/
def PC_LAST (i : Nat) : RF := ⟨0x100808 + 0x20 * i, 31, 0⟩
def PC_LAST_VALUE (i : Nat) : RF := ⟨0x100808 + 0x20 * i, 23, 0⟩
/-- PC_LSTAT, R284. -/
def PC_LSTAT (i : Nat) : RF := ⟨0x10080c + 0x20 * i, 31, 0⟩
def PC_LSTAT_VALID (i : Nat) : RF := ⟨0x10080c + 0x20 * i, 31, 31⟩
def PC_LSTAT_LINERR (i : Nat) : RF := ⟨0x10080c + 0x20 * i, 30, 30⟩
def PC_LSTAT_RANGE (i : Nat) : RF := ⟨0x10080c + 0x20 * i, 29, 29⟩
def PC_LSTAT_SAT (i : Nat) : RF := ⟨0x10080c + 0x20 * i, 28, 28⟩
def PC_LSTAT_RESULTS (i : Nat) : RF := ⟨0x10080c + 0x20 * i, 15, 0⟩
/-- CAL_OFS, R284. -/
def CAL_OFS (i j : Nat) : RF := ⟨0x101000 + 0x40 * i + 0x8 * j, 31, 0⟩
def CAL_OFS_OFS (i j : Nat) : RF := ⟨0x101000 + 0x40 * i + 0x8 * j, 31, 0⟩
/-- CAL_GAIN, R284. -/
def CAL_GAIN (i j : Nat) : RF := ⟨0x101004 + 0x40 * i + 0x8 * j, 31, 0⟩
def CAL_GAIN_GAIN (i j : Nat) : RF := ⟨0x101004 + 0x40 * i + 0x8 * j, 31, 0⟩
/-- PC_COEF, R284. -/
def PC_COEF (i j : Nat) : RF := ⟨0x102000 + 0x80 * i + 0x4 * j, 31, 0⟩
def PC_COEF_A (i j : Nat) : RF := ⟨0x102000 + 0x80 * i + 0x4 * j, 31, 0⟩
/-- PWL_XMIN, R284. -/
def PWL_XMIN (i : Nat) : RF := ⟨0x104000 + 0x200 * i, 31, 0⟩
def PWL_XMIN_XMIN (i : Nat) : RF := ⟨0x104000 + 0x200 * i, 23, 0⟩
/-- PWL_W, R284. -/
def PWL_W (i : Nat) : RF := ⟨0x104004 + 0x200 * i, 31, 0⟩
def PWL_W_W (i : Nat) : RF := ⟨0x104004 + 0x200 * i, 4, 0⟩
/-- PWL_Y, R284. -/
def PWL_Y (i j : Nat) : RF := ⟨0x104010 + 0x200 * i + 0x4 * j, 31, 0⟩
def PWL_Y_Y (i j : Nat) : RF := ⟨0x104010 + 0x200 * i + 0x4 * j, 23, 0⟩
/-- PWF_CFG, R284. -/
def PWF_CFG (i : Nat) : RF := ⟨0x105000 + 0x10 * i, 31, 0⟩
def PWF_CFG_EN (i : Nat) : RF := ⟨0x105000 + 0x10 * i, 31, 31⟩
def PWF_CFG_MODE (i : Nat) : RF := ⟨0x105000 + 0x10 * i, 30, 30⟩
def PWF_CFG_OD (i : Nat) : RF := ⟨0x105000 + 0x10 * i, 29, 29⟩
def PWF_CFG_FSTATE (i : Nat) : RF := ⟨0x105000 + 0x10 * i, 28, 27⟩
def PWF_CFG_PORT (i : Nat) : RF := ⟨0x105000 + 0x10 * i, 19, 16⟩
def PWF_CFG_PER (i : Nat) : RF := ⟨0x105000 + 0x10 * i, 15, 0⟩
/-- PWF_VLO, R284. -/
def PWF_VLO (i : Nat) : RF := ⟨0x105004 + 0x10 * i, 31, 0⟩
def PWF_VLO_VLO (i : Nat) : RF := ⟨0x105004 + 0x10 * i, 23, 0⟩
/-- PWF_VHI, R284. -/
def PWF_VHI (i : Nat) : RF := ⟨0x105008 + 0x10 * i, 31, 0⟩
def PWF_VHI_VHI (i : Nat) : RF := ⟨0x105008 + 0x10 * i, 23, 0⟩
/-- PWF_FRQ, R284. -/
def PWF_FRQ (i : Nat) : RF := ⟨0x10500c + 0x10 * i, 31, 0⟩
def PWF_FRQ_FHI (i : Nat) : RF := ⟨0x10500c + 0x10 * i, 31, 16⟩
def PWF_FRQ_FLO (i : Nat) : RF := ⟨0x10500c + 0x10 * i, 15, 0⟩
/-- CE_FRAME, R314. -/
def CE_FRAME : RF := ⟨0x110000, 31, 0⟩
def CE_FRAME_PER : RF := ⟨0x110000, 23, 0⟩
/-- CE_STAT, R314. -/
def CE_STAT : RF := ⟨0x110004, 31, 0⟩
def CE_STAT_FROZEN : RF := ⟨0x110004, 31, 16⟩
def CE_STAT_RUNNING : RF := ⟨0x110004, 15, 0⟩
/-- CE_TEL, R314. -/
def CE_TEL : RF := ⟨0x110008, 31, 0⟩
def CE_TEL_QUEUE : RF := ⟨0x110008, 31, 24⟩
/-- LOOP_CFG, R314. -/
def LOOP_CFG (i : Nat) : RF := ⟨0x111000 + 0x40 * i, 31, 0⟩
def LOOP_CFG_EN (i : Nat) : RF := ⟨0x111000 + 0x40 * i, 31, 31⟩
def LOOP_CFG_BIND (i : Nat) : RF := ⟨0x111000 + 0x40 * i, 30, 30⟩
def LOOP_CFG_START (i : Nat) : RF := ⟨0x111000 + 0x40 * i, 29, 28⟩
def LOOP_CFG_AO (i : Nat) : RF := ⟨0x111000 + 0x40 * i, 24, 20⟩
def LOOP_CFG_DIVM1 (i : Nat) : RF := ⟨0x111000 + 0x40 * i, 19, 0⟩
/-- LOOP_PH, R314. -/
def LOOP_PH (i : Nat) : RF := ⟨0x111004 + 0x40 * i, 31, 0⟩
def LOOP_PH_PH (i : Nat) : RF := ⟨0x111004 + 0x40 * i, 19, 0⟩
/-- LOOP_STRUCT, R314. -/
def LOOP_STRUCT (i : Nat) : RF := ⟨0x111008 + 0x40 * i, 31, 0⟩
def LOOP_STRUCT_NBQ (i : Nat) : RF := ⟨0x111008 + 0x40 * i, 27, 24⟩
def LOOP_STRUCT_NFF (i : Nat) : RF := ⟨0x111008 + 0x40 * i, 18, 16⟩
def LOOP_STRUCT_FFEN (i : Nat) : RF := ⟨0x111008 + 0x40 * i, 0, 0⟩
/-- LOOP_IN, R314. -/
def LOOP_IN (i : Nat) : RF := ⟨0x11100c + 0x40 * i, 31, 0⟩
def LOOP_IN_ITYPE (i : Nat) : RF := ⟨0x11100c + 0x40 * i, 31, 30⟩
def LOOP_IN_ISEL (i : Nat) : RF := ⟨0x11100c + 0x40 * i, 29, 24⟩
def LOOP_IN_PREQ (i : Nat) : RF := ⟨0x11100c + 0x40 * i, 23, 23⟩
def LOOP_IN_AVG (i : Nat) : RF := ⟨0x11100c + 0x40 * i, 22, 22⟩
def LOOP_IN_QTY (i : Nat) : RF := ⟨0x11100c + 0x40 * i, 21, 20⟩
def LOOP_IN_GATE (i : Nat) : RF := ⟨0x11100c + 0x40 * i, 18, 16⟩
def LOOP_IN_NAVG (i : Nat) : RF := ⟨0x11100c + 0x40 * i, 3, 0⟩
/-- LOOP_FFIN, R314. -/
def LOOP_FFIN (i : Nat) : RF := ⟨0x111010 + 0x40 * i, 31, 0⟩
def LOOP_FFIN_ITYPE (i : Nat) : RF := ⟨0x111010 + 0x40 * i, 31, 30⟩
def LOOP_FFIN_ISEL (i : Nat) : RF := ⟨0x111010 + 0x40 * i, 29, 24⟩
def LOOP_FFIN_PREQ (i : Nat) : RF := ⟨0x111010 + 0x40 * i, 23, 23⟩
def LOOP_FFIN_AVG (i : Nat) : RF := ⟨0x111010 + 0x40 * i, 22, 22⟩
def LOOP_FFIN_QTY (i : Nat) : RF := ⟨0x111010 + 0x40 * i, 21, 20⟩
def LOOP_FFIN_GATE (i : Nat) : RF := ⟨0x111010 + 0x40 * i, 18, 16⟩
def LOOP_FFIN_NAVG (i : Nat) : RF := ⟨0x111010 + 0x40 * i, 3, 0⟩
/-- LOOP_TEL, R314. -/
def LOOP_TEL (i : Nat) : RF := ⟨0x111014 + 0x40 * i, 31, 0⟩
def LOOP_TEL_TEN (i : Nat) : RF := ⟨0x111014 + 0x40 * i, 31, 31⟩
def LOOP_TEL_TDIV (i : Nat) : RF := ⟨0x111014 + 0x40 * i, 19, 0⟩
/-- LOOP_STAT, R314. -/
def LOOP_STAT (i : Nat) : RF := ⟨0x111018 + 0x40 * i, 31, 0⟩
def LOOP_STAT_STATE (i : Nat) : RF := ⟨0x111018 + 0x40 * i, 31, 29⟩
def LOOP_STAT_STALE (i : Nat) : RF := ⟨0x111018 + 0x40 * i, 28, 28⟩
def LOOP_STAT_STALE_FF (i : Nat) : RF := ⟨0x111018 + 0x40 * i, 27, 27⟩
def LOOP_STAT_OLIM (i : Nat) : RF := ⟨0x111018 + 0x40 * i, 26, 26⟩
def LOOP_STAT_RLIM (i : Nat) : RF := ⟨0x111018 + 0x40 * i, 25, 25⟩
def LOOP_STAT_ILIM (i : Nat) : RF := ⟨0x111018 + 0x40 * i, 24, 24⟩
def LOOP_STAT_SAT (i : Nat) : RF := ⟨0x111018 + 0x40 * i, 23, 23⟩
def LOOP_STAT_OVR (i : Nat) : RF := ⟨0x111018 + 0x40 * i, 22, 22⟩
def LOOP_STAT_CGEN (i : Nat) : RF := ⟨0x111018 + 0x40 * i, 15, 0⟩
/-- LOOP_CNT, R314. -/
def LOOP_CNT (i : Nat) : RF := ⟨0x11101c + 0x40 * i, 31, 0⟩
def LOOP_CNT_OVRCNT (i : Nat) : RF := ⟨0x11101c + 0x40 * i, 31, 16⟩
def LOOP_CNT_SATCNT (i : Nat) : RF := ⟨0x11101c + 0x40 * i, 15, 0⟩
/-- LOOP_OUTV, R314. -/
def LOOP_OUTV (i : Nat) : RF := ⟨0x111020 + 0x40 * i, 31, 0⟩
def LOOP_OUTV_OUT (i : Nat) : RF := ⟨0x111020 + 0x40 * i, 31, 0⟩
/-- LOOP_INTG, R314. -/
def LOOP_INTG (i : Nat) : RF := ⟨0x111024 + 0x40 * i, 31, 0⟩
def LOOP_INTG_I (i : Nat) : RF := ⟨0x111024 + 0x40 * i, 31, 0⟩
/-- COEF_VAL, R315. -/
def COEF_VAL (i j : Nat) : RF := ⟨0x118000 + 0x400 * i + 0x8 * j, 31, 0⟩
def COEF_VAL_VALUE (i j : Nat) : RF := ⟨0x118000 + 0x400 * i + 0x8 * j, 31, 0⟩
/-- COEF_SH, R315. -/
def COEF_SH (i j : Nat) : RF := ⟨0x118004 + 0x400 * i + 0x8 * j, 31, 0⟩
def COEF_SH_SHIFT (i j : Nat) : RF := ⟨0x118004 + 0x400 * i + 0x8 * j, 4, 0⟩
/-- AO_GSTAT, R330. -/
def AO_GSTAT : RF := ⟨0x120004, 31, 0⟩
def AO_GSTAT_CLRN : RF := ⟨0x120004, 31, 31⟩
def AO_GSTAT_HIRNG : RF := ⟨0x120004, 30, 30⟩
/-- AO_ILIM, R330. -/
def AO_ILIM : RF := ⟨0x120008, 31, 0⟩
def AO_ILIM_OUT : RF := ⟨0x120008, 31, 0⟩
/-- AO_CFG, R330. -/
def AO_CFG (i : Nat) : RF := ⟨0x121000 + 0x10 * i, 31, 0⟩
def AO_CFG_EN (i : Nat) : RF := ⟨0x121000 + 0x10 * i, 31, 31⟩
def AO_CFG_RANGE (i : Nat) : RF := ⟨0x121000 + 0x10 * i, 18, 16⟩
def AO_CFG_CLR (i : Nat) : RF := ⟨0x121000 + 0x10 * i, 15, 0⟩
/-- AO_DATA, R330. -/
def AO_DATA (i : Nat) : RF := ⟨0x121004 + 0x10 * i, 31, 0⟩
def AO_DATA_CODE (i : Nat) : RF := ⟨0x121004 + 0x10 * i, 15, 0⟩
/-- AO_STAT, R330. -/
def AO_STAT (i : Nat) : RF := ⟨0x121008 + 0x10 * i, 31, 0⟩
def AO_STAT_STATE (i : Nat) : RF := ⟨0x121008 + 0x10 * i, 31, 29⟩
def AO_STAT_BOUND (i : Nat) : RF := ⟨0x121008 + 0x10 * i, 28, 28⟩
def AO_STAT_DRIVEN (i : Nat) : RF := ⟨0x121008 + 0x10 * i, 15, 0⟩
/-- BST_CFG, R351. -/
def BST_CFG : RF := ⟨0x130000, 31, 0⟩
def BST_CFG_VMAX : RF := ⟨0x130000, 31, 24⟩
def BST_CFG_VMIN : RF := ⟨0x130000, 23, 16⟩
def BST_CFG_FSW : RF := ⟨0x130000, 15, 14⟩
def BST_CFG_HEAD : RF := ⟨0x130000, 13, 8⟩
/-- BST_STAT, R351. -/
def BST_STAT : RF := ⟨0x130004, 31, 0⟩
def BST_STAT_STATE : RF := ⟨0x130004, 31, 29⟩
def BST_STAT_VTGT : RF := ⟨0x130004, 23, 16⟩
def BST_STAT_VOUT : RF := ⟨0x130004, 15, 8⟩
def BST_STAT_RESTART : RF := ⟨0x130004, 2, 2⟩
def BST_STAT_OV : RF := ⟨0x130004, 1, 1⟩
/-- LT_DER, R351. -/
def LT_DER : RF := ⟨0x130008, 31, 0⟩
def LT_DER_HI : RF := ⟨0x130008, 29, 20⟩
def LT_DER_LO : RF := ⟨0x130008, 19, 10⟩
def LT_DER_MIN : RF := ⟨0x130008, 7, 0⟩
/-- LT_TEMP, R351. -/
def LT_TEMP : RF := ⟨0x13000c, 31, 0⟩
def LT_TEMP_SFAULT : RF := ⟨0x13000c, 31, 31⟩
def LT_TEMP_F : RF := ⟨0x13000c, 23, 16⟩
def LT_TEMP_CODE : RF := ⟨0x13000c, 9, 0⟩
/-- MK_CFG, R351. -/
def MK_CFG (i : Nat) : RF := ⟨0x130020 + 0x4 * i, 31, 0⟩
def MK_CFG_EN (i : Nat) : RF := ⟨0x130020 + 0x4 * i, 31, 31⟩
def MK_CFG_RATE (i : Nat) : RF := ⟨0x130020 + 0x4 * i, 30, 30⟩
def MK_CFG_REFRESH (i : Nat) : RF := ⟨0x130020 + 0x4 * i, 15, 0⟩
/-- MK_STAT, R351. -/
def MK_STAT (i : Nat) : RF := ⟨0x130028 + 0x4 * i, 31, 0⟩
def MK_STAT_BUSY (i : Nat) : RF := ⟨0x130028 + 0x4 * i, 31, 31⟩
def MK_STAT_PEND (i : Nat) : RF := ⟨0x130028 + 0x4 * i, 30, 30⟩
def MK_STAT_FRAMES (i : Nat) : RF := ⟨0x130028 + 0x4 * i, 15, 0⟩
/-- LS_CFG, R351. -/
def LS_CFG (i : Nat) : RF := ⟨0x131000 + 0x10 * i, 31, 0⟩
def LS_CFG_EN (i : Nat) : RF := ⟨0x131000 + 0x10 * i, 31, 31⟩
def LS_CFG_FACT (i : Nat) : RF := ⟨0x131000 + 0x10 * i, 30, 30⟩
def LS_CFG_DARK (i : Nat) : RF := ⟨0x131000 + 0x10 * i, 29, 29⟩
def LS_CFG_SPREAD (i : Nat) : RF := ⟨0x131000 + 0x10 * i, 26, 24⟩
def LS_CFG_ISET (i : Nat) : RF := ⟨0x131000 + 0x10 * i, 23, 16⟩
def LS_CFG_DUTY (i : Nat) : RF := ⟨0x131000 + 0x10 * i, 15, 0⟩
/-- LS_STAT, R351. -/
def LS_STAT (i : Nat) : RF := ⟨0x131004 + 0x10 * i, 31, 0⟩
def LS_STAT_OPEN (i : Nat) : RF := ⟨0x131004 + 0x10 * i, 31, 31⟩
def LS_STAT_SGND (i : Nat) : RF := ⟨0x131004 + 0x10 * i, 30, 30⟩
def LS_STAT_NBR (i : Nat) : RF := ⟨0x131004 + 0x10 * i, 29, 29⟩
def LS_STAT_OFFD (i : Nat) : RF := ⟨0x131004 + 0x10 * i, 28, 28⟩
def LS_STAT_HEADV (i : Nat) : RF := ⟨0x131004 + 0x10 * i, 23, 16⟩
def LS_STAT_DEFF (i : Nat) : RF := ⟨0x131004 + 0x10 * i, 15, 0⟩
/-- LS_CNT, R351. -/
def LS_CNT (i : Nat) : RF := ⟨0x131008 + 0x10 * i, 31, 0⟩
def LS_CNT_PROBES (i : Nat) : RF := ⟨0x131008 + 0x10 * i, 31, 16⟩
def LS_CNT_FAILS (i : Nat) : RF := ⟨0x131008 + 0x10 * i, 15, 0⟩
/-- SEW_CFG, R367. -/
def SEW_CFG : RF := ⟨0xb0000, 31, 0⟩
def SEW_CFG_W : RF := ⟨0xb0000, 31, 16⟩
def SEW_CFG_BYPASS : RF := ⟨0xb0000, 15, 0⟩
/-- SEW_STAT, R367. -/
def SEW_STAT : RF := ⟨0xb0004, 31, 0⟩
def SEW_STAT_HELD : RF := ⟨0xb0004, 31, 16⟩
/-- SEW_LIM, R367. -/
def SEW_LIM : RF := ⟨0xb0008, 31, 0⟩
def SEW_LIM_GRAINS : RF := ⟨0xb0008, 15, 0⟩
/-- SEW_CNT, R367. -/
def SEW_CNT : RF := ⟨0xb000c, 31, 0⟩
def SEW_CNT_LATE : RF := ⟨0xb000c, 31, 16⟩
def SEW_CNT_FORCED : RF := ⟨0xb000c, 15, 0⟩
/-- SV_GCFG, R367. -/
def SV_GCFG : RF := ⟨0xb0020, 31, 0⟩
def SV_GCFG_QUEUE : RF := ⟨0xb0020, 31, 24⟩
/-- SV_CFG, R367. -/
def SV_CFG (i : Nat) : RF := ⟨0xb1000 + 0x10 * i, 31, 0⟩
def SV_CFG_EN (i : Nat) : RF := ⟨0xb1000 + 0x10 * i, 31, 31⟩
def SV_CFG_MAXRUN (i : Nat) : RF := ⟨0xb1000 + 0x10 * i, 30, 24⟩
def SV_CFG_BSH (i : Nat) : RF := ⟨0xb1000 + 0x10 * i, 23, 20⟩
def SV_CFG_KPRE (i : Nat) : RF := ⟨0xb1000 + 0x10 * i, 19, 10⟩
def SV_CFG_KPOST (i : Nat) : RF := ⟨0xb1000 + 0x10 * i, 9, 0⟩
/-- SV_THR, R367. -/
def SV_THR (i : Nat) : RF := ⟨0xb1004 + 0x10 * i, 31, 0⟩
def SV_THR_THR (i : Nat) : RF := ⟨0xb1004 + 0x10 * i, 13, 0⟩
/-- SV_STAT, R367. -/
def SV_STAT (i : Nat) : RF := ⟨0xb1008 + 0x10 * i, 31, 0⟩
def SV_STAT_BASE (i : Nat) : RF := ⟨0xb1008 + 0x10 * i, 31, 18⟩
def SV_STAT_OVR (i : Nat) : RF := ⟨0xb1008 + 0x10 * i, 17, 17⟩
def SV_STAT_ACTIVE (i : Nat) : RF := ⟨0xb1008 + 0x10 * i, 16, 16⟩
def SV_STAT_RUNS (i : Nat) : RF := ⟨0xb1008 + 0x10 * i, 15, 0⟩
/-- SV_CNT, R367. -/
def SV_CNT (i : Nat) : RF := ⟨0xb100c + 0x10 * i, 31, 0⟩
def SV_CNT_SAMPLES (i : Nat) : RF := ⟨0xb100c + 0x10 * i, 31, 0⟩
/-- DB_CFG, R367. -/
def DB_CFG (i : Nat) : RF := ⟨0xb2000 + 0x10 * i, 31, 0⟩
def DB_CFG_EN (i : Nat) : RF := ⟨0xb2000 + 0x10 * i, 31, 31⟩
def DB_CFG_DELTA (i : Nat) : RF := ⟨0xb2000 + 0x10 * i, 23, 0⟩
/-- DB_HB, R367. -/
def DB_HB (i : Nat) : RF := ⟨0xb2004 + 0x10 * i, 31, 0⟩
def DB_HB_N (i : Nat) : RF := ⟨0xb2004 + 0x10 * i, 15, 0⟩
/-- DB_CNT, R367. -/
def DB_CNT (i : Nat) : RF := ⟨0xb2008 + 0x10 * i, 31, 0⟩
def DB_CNT_QUEUED (i : Nat) : RF := ⟨0xb2008 + 0x10 * i, 31, 16⟩
def DB_CNT_SUPPR (i : Nat) : RF := ⟨0xb2008 + 0x10 * i, 15, 0⟩
/-- LP_CFG, R387. -/
def LP_CFG : RF := ⟨0xc0000, 31, 0⟩
def LP_CFG_QLIM : RF := ⟨0xc0000, 15, 0⟩
/-- LP_STAT, R387. -/
def LP_STAT : RF := ⟨0xc0004, 31, 0⟩
def LP_STAT_FREE : RF := ⟨0xc0004, 31, 16⟩
def LP_STAT_QUAR : RF := ⟨0xc0004, 15, 0⟩
/-- LP_ECC, R387. -/
def LP_ECC : RF := ⟨0xc0008, 31, 0⟩
def LP_ECC_CORR : RF := ⟨0xc0008, 31, 16⟩
def LP_ECC_UNCORR : RF := ⟨0xc0008, 15, 0⟩
/-- LP_QUAR, R387. -/
def LP_QUAR : RF := ⟨0xc000c, 31, 0⟩
def LP_QUAR_RETEST : RF := ⟨0xc000c, 31, 31⟩
def LP_QUAR_BUSY : RF := ⟨0xc000c, 30, 30⟩
/-- LP_RSV, R387. -/
def LP_RSV : RF := ⟨0xc0010, 31, 0⟩
def LP_RSV_SUM : RF := ⟨0xc0010, 15, 0⟩
/-- LP_EVQ, R387. -/
def LP_EVQ (i : Nat) : RF := ⟨0xc0040 + 0x4 * i, 31, 0⟩
def LP_EVQ_Q (i : Nat) : RF := ⟨0xc0040 + 0x4 * i, 31, 0⟩
/-- Q_CFG, R387. -/
def Q_CFG (i : Nat) : RF := ⟨0xc1000 + 0x20 * i, 31, 0⟩
def Q_CFG_EN (i : Nat) : RF := ⟨0xc1000 + 0x20 * i, 31, 31⟩
def Q_CFG_HOSTW (i : Nat) : RF := ⟨0xc1000 + 0x20 * i, 30, 30⟩
def Q_CFG_CONS (i : Nat) : RF := ⟨0xc1000 + 0x20 * i, 29, 28⟩
/-- Q_LIM, R387. -/
def Q_LIM (i : Nat) : RF := ⟨0xc1004 + 0x20 * i, 31, 0⟩
def Q_LIM_DEPTH (i : Nat) : RF := ⟨0xc1004 + 0x20 * i, 31, 16⟩
def Q_LIM_WM (i : Nat) : RF := ⟨0xc1004 + 0x20 * i, 15, 0⟩
/-- Q_RSV, R387. -/
def Q_RSV (i : Nat) : RF := ⟨0xc1008 + 0x20 * i, 31, 0⟩
def Q_RSV_RSV (i : Nat) : RF := ⟨0xc1008 + 0x20 * i, 15, 0⟩
/-- Q_STALL, R387. -/
def Q_STALL (i : Nat) : RF := ⟨0xc100c + 0x20 * i, 31, 0⟩
def Q_STALL_LIMIT (i : Nat) : RF := ⟨0xc100c + 0x20 * i, 23, 0⟩
/-- Q_STAT, R387. -/
def Q_STAT (i : Nat) : RF := ⟨0xc1010 + 0x20 * i, 31, 0⟩
def Q_STAT_LEVEL (i : Nat) : RF := ⟨0xc1010 + 0x20 * i, 31, 16⟩
def Q_STAT_ITEMS (i : Nat) : RF := ⟨0xc1010 + 0x20 * i, 15, 0⟩
/-- Q_FLAG, R387. -/
def Q_FLAG (i : Nat) : RF := ⟨0xc1014 + 0x20 * i, 31, 0⟩
def Q_FLAG_WMK (i : Nat) : RF := ⟨0xc1014 + 0x20 * i, 31, 31⟩
def Q_FLAG_REFUSED (i : Nat) : RF := ⟨0xc1014 + 0x20 * i, 30, 30⟩
def Q_FLAG_TO (i : Nat) : RF := ⟨0xc1014 + 0x20 * i, 29, 29⟩
def Q_FLAG_UE (i : Nat) : RF := ⟨0xc1014 + 0x20 * i, 28, 28⟩
def Q_FLAG_STALLED (i : Nat) : RF := ⟨0xc1014 + 0x20 * i, 27, 27⟩
def Q_FLAG_PEAK (i : Nat) : RF := ⟨0xc1014 + 0x20 * i, 15, 0⟩
/-- Q_CNT, R387. -/
def Q_CNT (i : Nat) : RF := ⟨0xc1018 + 0x20 * i, 31, 0⟩
def Q_CNT_REFCNT (i : Nat) : RF := ⟨0xc1018 + 0x20 * i, 31, 16⟩
def Q_CNT_TOCNT (i : Nat) : RF := ⟨0xc1018 + 0x20 * i, 15, 0⟩
/-- Q_ECC, R387. -/
def Q_ECC (i : Nat) : RF := ⟨0xc101c + 0x20 * i, 31, 0⟩
def Q_ECC_CORR (i : Nat) : RF := ⟨0xc101c + 0x20 * i, 31, 16⟩
def Q_ECC_UNCORR (i : Nat) : RF := ⟨0xc101c + 0x20 * i, 15, 0⟩
/-- GX_CFG, R419. -/
def GX_CFG : RF := ⟨0x20000, 31, 0⟩
def GX_CFG_FSCAN : RF := ⟨0x20000, 0, 0⟩
/-- GX_STAT, R419. -/
def GX_STAT : RF := ⟨0x20004, 31, 0⟩
def GX_STAT_UP : RF := ⟨0x20004, 4, 0⟩
/-- GX_PCFG, R419. -/
def GX_PCFG (i : Nat) : RF := ⟨0x21000 + 0x100 * i, 31, 0⟩
def GX_PCFG_EN (i : Nat) : RF := ⟨0x21000 + 0x100 * i, 31, 31⟩
def GX_PCFG_RETRAIN (i : Nat) : RF := ⟨0x21000 + 0x100 * i, 30, 30⟩
def GX_PCFG_IDLE_EN (i : Nat) : RF := ⟨0x21000 + 0x100 * i, 29, 29⟩
def GX_PCFG_NARROW (i : Nat) : RF := ⟨0x21000 + 0x100 * i, 28, 28⟩
def GX_PCFG_VMAX (i : Nat) : RF := ⟨0x21000 + 0x100 * i, 25, 24⟩
def GX_PCFG_VMIN (i : Nat) : RF := ⟨0x21000 + 0x100 * i, 21, 20⟩
def GX_PCFG_IDLE_T (i : Nat) : RF := ⟨0x21000 + 0x100 * i, 15, 0⟩
/-- GX_PSTAT, R419. -/
def GX_PSTAT (i : Nat) : RF := ⟨0x21004 + 0x100 * i, 31, 0⟩
def GX_PSTAT_STATE (i : Nat) : RF := ⟨0x21004 + 0x100 * i, 31, 28⟩
def GX_PSTAT_VER (i : Nat) : RF := ⟨0x21004 + 0x100 * i, 27, 26⟩
def GX_PSTAT_PVMAX (i : Nat) : RF := ⟨0x21004 + 0x100 * i, 25, 24⟩
def GX_PSTAT_WIDTH (i : Nat) : RF := ⟨0x21004 + 0x100 * i, 23, 22⟩
def GX_PSTAT_HALF (i : Nat) : RF := ⟨0x21004 + 0x100 * i, 21, 21⟩
def GX_PSTAT_PRECODE (i : Nat) : RF := ⟨0x21004 + 0x100 * i, 20, 20⟩
def GX_PSTAT_IDLE (i : Nat) : RF := ⟨0x21004 + 0x100 * i, 19, 19⟩
def GX_PSTAT_SPREAD (i : Nat) : RF := ⟨0x21004 + 0x100 * i, 18, 18⟩
def GX_PSTAT_RESUMED (i : Nat) : RF := ⟨0x21004 + 0x100 * i, 17, 17⟩
def GX_PSTAT_UPCNT (i : Nat) : RF := ⟨0x21004 + 0x100 * i, 15, 0⟩
/-- GX_CWCORR, R419. -/
def GX_CWCORR (i : Nat) : RF := ⟨0x21008 + 0x100 * i, 31, 0⟩
def GX_CWCORR_COUNT (i : Nat) : RF := ⟨0x21008 + 0x100 * i, 31, 0⟩
/-- GX_CWUNC, R419. -/
def GX_CWUNC (i : Nat) : RF := ⟨0x2100c + 0x100 * i, 31, 0⟩
def GX_CWUNC_UNCORR (i : Nat) : RF := ⟨0x2100c + 0x100 * i, 31, 16⟩
def GX_CWUNC_REPLAY (i : Nat) : RF := ⟨0x2100c + 0x100 * i, 15, 0⟩
/-- GX_SYM, R419. -/
def GX_SYM (i : Nat) : RF := ⟨0x21010 + 0x100 * i, 31, 0⟩
def GX_SYM_COUNT (i : Nat) : RF := ⟨0x21010 + 0x100 * i, 31, 0⟩
/-- GX_CRED, R419. -/
def GX_CRED (i : Nat) : RF := ⟨0x21014 + 0x100 * i, 31, 0⟩
def GX_CRED_CR0 (i : Nat) : RF := ⟨0x21014 + 0x100 * i, 31, 16⟩
def GX_CRED_CR1 (i : Nat) : RF := ⟨0x21014 + 0x100 * i, 15, 0⟩
/-- GX_LINK, R419. -/
def GX_LINK (i : Nat) : RF := ⟨0x21018 + 0x100 * i, 31, 0⟩
def GX_LINK_RETRAIN (i : Nat) : RF := ⟨0x21018 + 0x100 * i, 31, 16⟩
def GX_LINK_EXITS (i : Nat) : RF := ⟨0x21018 + 0x100 * i, 15, 0⟩
/-- GX_INJ, R419. -/
def GX_INJ (i : Nat) : RF := ⟨0x21020 + 0x100 * i, 31, 0⟩
def GX_INJ_EN (i : Nat) : RF := ⟨0x21020 + 0x100 * i, 31, 31⟩
def GX_INJ_LEVEL (i : Nat) : RF := ⟨0x21020 + 0x100 * i, 30, 30⟩
def GX_INJ_NSYM (i : Nat) : RF := ⟨0x21020 + 0x100 * i, 26, 22⟩
def GX_INJ_SEED (i : Nat) : RF := ⟨0x21020 + 0x100 * i, 15, 0⟩
/-- GX_INJR1, R419. -/
def GX_INJR1 (i : Nat) : RF := ⟨0x21024 + 0x100 * i, 31, 0⟩
def GX_INJR1_DROP (i : Nat) : RF := ⟨0x21024 + 0x100 * i, 31, 16⟩
def GX_INJR1_CORR (i : Nat) : RF := ⟨0x21024 + 0x100 * i, 15, 0⟩
/-- GX_INJR2, R419. -/
def GX_INJR2 (i : Nat) : RF := ⟨0x21028 + 0x100 * i, 31, 0⟩
def GX_INJR2_REORD (i : Nat) : RF := ⟨0x21028 + 0x100 * i, 31, 16⟩
/-- GX_INJCNT, R419. -/
def GX_INJCNT (i : Nat) : RF := ⟨0x2102c + 0x100 * i, 31, 0⟩
def GX_INJCNT_DROPPED (i : Nat) : RF := ⟨0x2102c + 0x100 * i, 31, 16⟩
def GX_INJCNT_CORRUPTED (i : Nat) : RF := ⟨0x2102c + 0x100 * i, 15, 0⟩
/-- GX_INJCNT2, R419. -/
def GX_INJCNT2 (i : Nat) : RF := ⟨0x21030 + 0x100 * i, 31, 0⟩
def GX_INJCNT2_REORDERED (i : Nat) : RF := ⟨0x21030 + 0x100 * i, 31, 16⟩
/-- CMD_CFG, R452. -/
def CMD_CFG : RF := ⟨0x100, 31, 0⟩
def CMD_CFG_WDT : RF := ⟨0x100, 31, 24⟩
def CMD_CFG_GTMO : RF := ⟨0x100, 15, 0⟩
/-- CMD_STAT, R452. -/
def CMD_STAT : RF := ⟨0x104, 31, 0⟩
def CMD_STAT_PEND : RF := ⟨0x104, 20, 16⟩
def CMD_STAT_LATE : RF := ⟨0x104, 15, 8⟩
def CMD_STAT_DISC : RF := ⟨0x104, 7, 0⟩
/-- CMD_CNT, R452. -/
def CMD_CNT : RF := ⟨0x108, 31, 0⟩
def CMD_CNT_COUNT : RF := ⟨0x108, 31, 0⟩
/-- ENUM_STAT, R452. -/
def ENUM_STAT : RF := ⟨0x110, 31, 0⟩
def ENUM_STAT_VALID : RF := ⟨0x110, 31, 31⟩
def ENUM_STAT_ID : RF := ⟨0x110, 29, 24⟩
def ENUM_STAT_GEN : RF := ⟨0x110, 23, 16⟩
def ENUM_STAT_DEPTH : RF := ⟨0x110, 13, 8⟩
/-- ENUM_F, R452. -/
def ENUM_F (i : Nat) : RF := ⟨0x114 + 0x4 * i, 31, 0⟩
def ENUM_F_VALID (i : Nat) : RF := ⟨0x114 + 0x4 * i, 31, 31⟩
def ENUM_F_LO (i : Nat) : RF := ⟨0x114 + 0x4 * i, 29, 24⟩
def ENUM_F_HI (i : Nat) : RF := ⟨0x114 + 0x4 * i, 21, 16⟩
/-- FW_VER, R452. -/
def FW_VER : RF := ⟨0x120, 31, 0⟩
def FW_VER_ROM : RF := ⟨0x120, 31, 16⟩
def FW_VER_PATCH : RF := ⟨0x120, 15, 0⟩
/-- PATCH_CTL, R452. -/
def PATCH_CTL : RF := ⟨0x124, 31, 0⟩
def PATCH_CTL_EN : RF := ⟨0x124, 31, 31⟩
def PATCH_CTL_ERR : RF := ⟨0x124, 30, 30⟩
def PATCH_CTL_LEN : RF := ⟨0x124, 12, 0⟩
/-- PATCH_CRC, R452. -/
def PATCH_CRC : RF := ⟨0x128, 31, 0⟩
def PATCH_CRC_CRC : RF := ⟨0x128, 31, 0⟩
/-- TR_CFG, R452. -/
def TR_CFG : RF := ⟨0x50000, 31, 0⟩
def TR_CFG_EN : RF := ⟨0x50000, 31, 31⟩
/-- TR_STAT, R452. -/
def TR_STAT : RF := ⟨0x50004, 31, 0⟩
def TR_STAT_ECC_PEND : RF := ⟨0x50004, 31, 31⟩
def TR_STAT_CAUSE_ACT : RF := ⟨0x50004, 30, 30⟩
def TR_STAT_CAUSE : RF := ⟨0x50004, 27, 24⟩
def TR_STAT_ACTIONS : RF := ⟨0x50004, 15, 0⟩
/-- EV_CFG, R461. -/
def EV_CFG : RF := ⟨0x40000, 31, 0⟩
def EV_CFG_PIN_EN : RF := ⟨0x40000, 0, 0⟩
/-- EV_SUM, R461. -/
def EV_SUM : RF := ⟨0x40004, 31, 0⟩
def EV_SUM_BANKS : RF := ⟨0x40004, 21, 0⟩
/-- EV_LATCH, R461. -/
def EV_LATCH (i : Nat) : RF := ⟨0x40100 + 0x4 * i, 31, 0⟩
def EV_LATCH_SRC (i : Nat) : RF := ⟨0x40100 + 0x4 * i, 31, 0⟩
/-- EV_SRC, R461. -/
def EV_SRC (i : Nat) : RF := ⟨0x44000 + 0x4 * i, 31, 0⟩
def EV_SRC_EN (i : Nat) : RF := ⟨0x44000 + 0x4 * i, 31, 31⟩
def EV_SRC_REC (i : Nat) : RF := ⟨0x44000 + 0x4 * i, 30, 30⟩
def EV_SRC_PIN (i : Nat) : RF := ⟨0x44000 + 0x4 * i, 29, 29⟩
def EV_SRC_CUS (i : Nat) : RF := ⟨0x44000 + 0x4 * i, 28, 28⟩
def EV_SRC_TRG (i : Nat) : RF := ⟨0x44000 + 0x4 * i, 27, 27⟩
def EV_SRC_TCOND (i : Nat) : RF := ⟨0x44000 + 0x4 * i, 26, 22⟩
def EV_SRC_BR (i : Nat) : RF := ⟨0x44000 + 0x4 * i, 21, 21⟩
def EV_SRC_BLINE (i : Nat) : RF := ⟨0x44000 + 0x4 * i, 20, 18⟩
/-- CUS_CFG, R482. -/
def CUS_CFG : RF := ⟨0x30000, 31, 0⟩
def CUS_CFG_MAXAGE : RF := ⟨0x30000, 31, 24⟩
def CUS_CFG_RETURN : RF := ⟨0x30000, 23, 23⟩
def CUS_CFG_SEEK_T : RF := ⟨0x30000, 15, 0⟩
/-- MIR_CFG, R482. -/
def MIR_CFG : RF := ⟨0x30004, 31, 0⟩
def MIR_CFG_PER : RF := ⟨0x30004, 23, 0⟩
/-- CUS_STAT, R482. -/
def CUS_STAT : RF := ⟨0x30008, 31, 0⟩
def CUS_STAT_CSTATE : RF := ⟨0x30008, 31, 28⟩
def CUS_STAT_ROLE : RF := ⟨0x30008, 27, 26⟩
def CUS_STAT_HOLDS : RF := ⟨0x30008, 25, 25⟩
def CUS_STAT_DIAG_OK : RF := ⟨0x30008, 24, 24⟩
def CUS_STAT_GUARD : RF := ⟨0x30008, 23, 23⟩
def CUS_STAT_MATE : RF := ⟨0x30008, 22, 22⟩
def CUS_STAT_PLOST : RF := ⟨0x30008, 21, 21⟩
def CUS_STAT_AUTO : RF := ⟨0x30008, 20, 20⟩
def CUS_STAT_REASON : RF := ⟨0x30008, 19, 16⟩
def CUS_STAT_CLEAN : RF := ⟨0x30008, 15, 0⟩
/-- CUS_HB_LO, R482. -/
def CUS_HB_LO : RF := ⟨0x3000c, 31, 0⟩
def CUS_HB_LO_TICK_L : RF := ⟨0x3000c, 31, 0⟩
/-- CUS_HB_HI, R482. -/
def CUS_HB_HI : RF := ⟨0x30010, 31, 0⟩
def CUS_HB_HI_TICK_H : RF := ⟨0x30010, 15, 0⟩
/-- MIR_STAT, R482. -/
def MIR_STAT : RF := ⟨0x30014, 31, 0⟩
def MIR_STAT_MISSED : RF := ⟨0x30014, 31, 16⟩
def MIR_STAT_AGE : RF := ⟨0x30014, 15, 0⟩
/-- MIR_CNT, R482. -/
def MIR_CNT : RF := ⟨0x30018, 31, 0⟩
def MIR_CNT_COPIES : RF := ⟨0x30018, 31, 0⟩
/-- CUS_CNT, R482. -/
def CUS_CNT : RF := ⟨0x3001c, 31, 0⟩
def CUS_CNT_TAKE : RF := ⟨0x3001c, 31, 16⟩
def CUS_CNT_DECL : RF := ⟨0x3001c, 15, 0⟩
/-- MFL_CMD, R501. -/
def MFL_CMD : RF := ⟨0x340, 31, 0⟩
def MFL_CMD_GO : RF := ⟨0x340, 31, 31⟩
def MFL_CMD_BUSY : RF := ⟨0x340, 30, 30⟩
def MFL_CMD_DIR : RF := ⟨0x340, 29, 29⟩
def MFL_CMD_ADDR3 : RF := ⟨0x340, 28, 28⟩
def MFL_CMD_NBYTES : RF := ⟨0x340, 24, 16⟩
def MFL_CMD_OP : RF := ⟨0x340, 7, 0⟩
/-- MFL_ADDR, R501. -/
def MFL_ADDR : RF := ⟨0x344, 31, 0⟩
def MFL_ADDR_ADDR : RF := ⟨0x344, 23, 0⟩
/-- MFL_BUF, R501. -/
def MFL_BUF (i : Nat) : RF := ⟨0x400 + 0x4 * i, 31, 0⟩
def MFL_BUF_DATA (i : Nat) : RF := ⟨0x400 + 0x4 * i, 31, 0⟩
/-- DOM_STAT, R511. -/
def DOM_STAT : RF := ⟨0x300, 31, 0⟩
def DOM_STAT_ON : RF := ⟨0x300, 25, 0⟩
/-- DOM_CMD, R511. -/
def DOM_CMD : RF := ⟨0x304, 31, 0⟩
def DOM_CMD_CMDON : RF := ⟨0x304, 25, 0⟩
/-- DOM_FAIL, R511. -/
def DOM_FAIL : RF := ⟨0x308, 31, 0⟩
def DOM_FAIL_FAIL : RF := ⟨0x308, 25, 0⟩
/-- STRAP, R511. -/
def STRAP : RF := ⟨0x30c, 31, 0⟩
def STRAP_ROLE : RF := ⟨0x30c, 3, 2⟩
def STRAP_HEAD : RF := ⟨0x30c, 1, 1⟩
def STRAP_BOOTSRC : RF := ⟨0x30c, 0, 0⟩
/-- RAIL_STAT, R511. -/
def RAIL_STAT : RF := ⟨0x310, 31, 0⟩
def RAIL_STAT_OUTW : RF := ⟨0x310, 22, 16⟩
def RAIL_STAT_INW : RF := ⟨0x310, 6, 0⟩
/-- VSUP_MON, R511. -/
def VSUP_MON : RF := ⟨0x314, 31, 0⟩
def VSUP_MON_VSUP : RF := ⟨0x314, 15, 0⟩
/-- TEMP_MON, R511. -/
def TEMP_MON : RF := ⟨0x318, 31, 0⟩
def TEMP_MON_TCORE : RF := ⟨0x318, 31, 16⟩
def TEMP_MON_TFIELD : RF := ⟨0x318, 15, 0⟩
/-- TEMP_WARN, R511. -/
def TEMP_WARN : RF := ⟨0x31c, 31, 0⟩
def TEMP_WARN_LIMIT : RF := ⟨0x31c, 7, 0⟩
/-- BOOT_STAT, R511. -/
def BOOT_STAT : RF := ⟨0x320, 31, 0⟩
def BOOT_STAT_ERR : RF := ⟨0x320, 31, 28⟩
def BOOT_STAT_MREF : RF := ⟨0x320, 23, 23⟩
def BOOT_STAT_FLASH : RF := ⟨0x320, 22, 22⟩
def BOOT_STAT_INIT : RF := ⟨0x320, 15, 0⟩
/-- GRADE_TAB, R111. -/
def GRADE_TAB (i j : Nat) : RF := ⟨0x88000 + 0x200 * i + 0x4 * j, 31, 0⟩
def GRADE_TAB_ODD (i j : Nat) : RF := ⟨0x88000 + 0x200 * i + 0x4 * j, 25, 16⟩
def GRADE_TAB_EVEN (i j : Nat) : RF := ⟨0x88000 + 0x200 * i + 0x4 * j, 9, 0⟩
/-- SEG_A, R181. -/
def SEG_A (i : Nat) : RF := ⟨0xd4000 + 0x10 * i, 31, 0⟩
def SEG_A_LENGTH (i : Nat) : RF := ⟨0xd4000 + 0x10 * i, 31, 16⟩
def SEG_A_START (i : Nat) : RF := ⟨0xd4000 + 0x10 * i, 15, 0⟩
/-- SEG_B, R181. -/
def SEG_B (i : Nat) : RF := ⟨0xd4004 + 0x10 * i, 31, 0⟩
def SEG_B_END (i : Nat) : RF := ⟨0xd4004 + 0x10 * i, 31, 31⟩
def SEG_B_STREAM (i : Nat) : RF := ⟨0xd4004 + 0x10 * i, 30, 30⟩
def SEG_B_QUIET (i : Nat) : RF := ⟨0xd4004 + 0x10 * i, 29, 29⟩
def SEG_B_NEXT (i : Nat) : RF := ⟨0xd4004 + 0x10 * i, 25, 16⟩
def SEG_B_LOOPS (i : Nat) : RF := ⟨0xd4004 + 0x10 * i, 15, 0⟩
/-- SEG_C, R181. -/
def SEG_C (i : Nat) : RF := ⟨0xd4008 + 0x10 * i, 31, 0⟩
def SEG_C_COND (i : Nat) : RF := ⟨0xd4008 + 0x10 * i, 31, 28⟩
def SEG_C_CSEL (i : Nat) : RF := ⟨0xd4008 + 0x10 * i, 21, 16⟩
def SEG_C_TARGET (i : Nat) : RF := ⟨0xd4008 + 0x10 * i, 9, 0⟩
/-- PAT_TAB, R200. -/
def PAT_TAB (i j : Nat) : RF := ⟨0xd8000 + 0x80 * i + 0x4 * j, 31, 0⟩
def PAT_TAB_C3 (i j : Nat) : RF := ⟨0xd8000 + 0x80 * i + 0x4 * j, 31, 24⟩
def PAT_TAB_C2 (i j : Nat) : RF := ⟨0xd8000 + 0x80 * i + 0x4 * j, 23, 16⟩
def PAT_TAB_C1 (i j : Nat) : RF := ⟨0xd8000 + 0x80 * i + 0x4 * j, 15, 8⟩
def PAT_TAB_C0 (i j : Nat) : RF := ⟨0xd8000 + 0x80 * i + 0x4 * j, 7, 0⟩
/-- DM_TAP, R228. -/
def DM_TAP (i j : Nat) : RF := ⟨0xe8000 + 0x100 * i + 0x4 * j, 31, 0⟩
def DM_TAP_IM (i j : Nat) : RF := ⟨0xe8000 + 0x100 * i + 0x4 * j, 31, 16⟩
def DM_TAP_RE (i j : Nat) : RF := ⟨0xe8000 + 0x100 * i + 0x4 * j, 15, 0⟩

end Sys2Proof.Machine
end

