-- ==== Sys2Proof/Machine/State.lean ====
section
/-! DEFINITION. The state of one HL7264 unit as plain data, the reasons a step can stop, and the
state right after reset. Registers live in `regs` under their addresses (R462, R463); what the spec
describes beyond its registers lives in the structures below, one for each subsystem. -/
namespace Sys2Proof.Machine

/-- Reasons the machine stops with a fault. -/
inductive Fault where
  /-- Raised by RESETN_LOW for a pulse longer than t_RF and shorter than t_RW, which R493 does not
  allow and gives no effect. Safe: the model stops. -/
  | resetPulseNotAllowed
  deriving DecidableEq, Repr

/-- Reasons the model gives a command no meaning. -/
inductive Refusal where
  /-- Raised by an arm of `exec` whose command has no meaning yet. Safe: the model stops. -/
  | notModelled (mnemonic : String)
  deriving DecidableEq, Repr

/-- A stamp: tick and fine part (R59). -/
structure Stamp where
  tick : Tick := 0
  fine : Fine := 0
  deriving DecidableEq, Repr

/-! ### Time base (R53 to R81, R516) -/

/-- What a time-base port remembers between markers (R64). -/
structure TbPort where
  /-- the latest markers sent, newest first, at most 128: number, departure stamp, steps applied
  before it -/
  deps : List (BitVec 8 × Stamp × Nat) := []
  /-- arrival stamp of the last marker received, and its number -/
  arr : Option (BitVec 8 × Stamp) := none
  /-- offsets of the last exchanges, newest first, at most 16, in halves of a fine unit -/
  offsets : List Int := []
  offset : Int := 0
  deriving DecidableEq, Repr

/-- A LINK_ALIGN in progress: offsets (in halves of a fine unit) and delays collected (R73). -/
structure AlignJob where
  tag : BitVec 16
  offsets : List Int := []
  delays : List Int := []
  /-- measured offset and delay with the STEP_TICK of the scheduled step, until the step is
  announced -/
  result : Option (Int × Int × Tick) := none
  deriving DecidableEq, Repr

/-- A step that is decided and not yet applied: k, STEP_TICK, and the epoch that a TSYNC load
gives with the tick it was given for (R62, R75). -/
structure StepNotice where
  k : Int
  tick : Tick
  load : Option (BitVec 16 × Tick) := none
  deriving DecidableEq, Repr

structure TimeBase where
  tick : Tick := 0
  epoch : BitVec 16 := 0
  /-- the tick clock has locked since reset, so the counter counts (R59) -/
  started : Bool := false
  /-- pending steps (R62) -/
  steps : List StepNotice := []
  /-- MODEL: ticks counted since the counter started, which no step changes -/
  up : Nat := 0
  /-- the last step applied, and `up` at it (R62, R153) -/
  lastStep : Option (StepNotice × Nat) := none
  /-- how many steps have been applied (R63), and by how much each moved the counter, newest
  first -/
  gen : Nat := 0
  ks : List Int := []
  /-- fine units still to be slewed (R66) -/
  slew : Int := 0
  /-- in ACQUIRE: the step is applied or skipped, and consecutive exchanges within 50 ps (R67) -/
  stepDone : Bool := false
  good : Nat := 0
  /-- exchanges since ACQUIRE began or since its last correction (R66) -/
  acq : Nat := 0
  /-- the parent's markers report TRACE (R68) -/
  parentTrace : Bool := false
  /-- TRACE has been 1 since reset, so a rise is a return (R60) -/
  traced : Bool := false
  /-- the unit has been in HOLDOVER since TRACE was last 1 (R81) -/
  heldOver : Bool := false
  /-- the changes of TRACE of the last 2^47 ticks, newest first: `up` and the value before (R68) -/
  traceLog : List (Nat × Bool) := []
  /-- the reference has qualified since it was last lost (R79) -/
  refOk : Bool := false
  /-- handshake measurement in force: its parent TRSTAT, and whether it is 10 minutes old (R68) -/
  handshake : Option (BitVec 2 × Bool) := none
  align : Option AlignJob := none
  tsArmed : Bool := false
  /-- loaded value L, once loaded, on the scale of `State.wide` (R75) -/
  tsLoad : Option Int := none
  tsLast : Stamp := {}
  tsErrs : List Int := []
  ports : List TbPort := List.replicate 5 {}
  deriving DecidableEq, Repr

/-! ### Records, events and free values -/

structure Events where
  /-- sequence counter of each (TYPE, SOURCE) as 256 * type + source; absent means 0 (R356) -/
  seqs : List (Nat × W32) := []
  /-- streams whose next record carries OVF (R353) -/
  ovf : List Nat := []
  /-- moment of the last raise of a source whose raises are limited to one per 12,500 ticks -/
  lastRaise : List (Nat × Nat) := []
  /-- a trial action is raising sources now (R450, R459) -/
  trial : Bool := false
  /-- MODEL: index of the next free value, read and advanced by a step that needs one -/
  free : Nat := 0
  deriving DecidableEq, Repr

/-! ### Loam pool (R369 to R389) -/

/-- A queued item: its words, the words stored with flipped bits, the step generation it was
made in (R63), and whether Q_WRITE appended it (R371). -/
structure Item where
  words : List W64
  bad : List (Nat × Nat) := []
  gen : Nat := 0
  host : Bool := false
  deriving DecidableEq, Repr

/-- A Q_READ stalled on its queue (R377). -/
structure Stall where
  tag : BitVec 16
  /-- its stall limit is not 0 -/
  timed : Bool
  deriving DecidableEq, Repr

structure Queue where
  items : List Item := []
  /-- the watermark source may be raised again (R375) -/
  wmReady : Bool := true
  stall : Option Stall := none
  deriving DecidableEq, Repr

structure Loam where
  /-- queues that are not empty and idle, by number -/
  queues : List (Nat × Queue) := []
  /-- quarantined grains (LP_STAT.QUAR) -/
  quar : Nat := 0
  /-- source 615 has been raised for the present excess (R381) -/
  qlimRaised : Bool := false
  /-- pending TRIAL_ECC: queue and bits (R450) -/
  trialEcc : Option (BitVec 8 × Nat) := none
  /-- items whose producers wait for room, oldest first (R374) -/
  waiting : List (BitVec 8 × Item) := []
  deriving DecidableEq, Repr

/-! ### Sieve and Sewing (R353 to R368) -/

/-- A record at Sewing with its step generation (R63). -/
structure HeldRec where
  gen : Nat
  r : Rec
  /-- fore-edge port that brought it, 1 to 3; 0 for the unit's own -/
  port : Nat := 0
  deriving DecidableEq, Repr

structure Sewing where
  /-- taken from a queue, not yet arrived -/
  inbox : List HeldRec := []
  held : List HeldRec := []
  /-- records to be sent at once, LATE or bypassed, that wait: the spine port holds Sewing back
  (R29), or an older record of their unit is still here (R63); oldest first -/
  urgent : List HeldRec := []
  /-- TICK of the last record forced (R364), on the scale of `State.wide` -/
  frontier : Option Int := none
  /-- STEP markers that have arrived from each unit below (R63) -/
  stepsSeen : List (BitVec 6 × Nat) := []
  /-- records sent up the spine port and not yet framed, oldest first -/
  out : List Rec := []
  deriving DecidableEq, Repr

/-- The waveform Sieve of a channel (R359, R360). -/
structure SieveChan where
  /-- baseline in units of 2^-16 LSB once a sample has started it (R359) -/
  base : Option Int := none
  /-- label the Sieve judges next, of the count after `gen` steps -/
  next : Option Tick := none
  gen : Nat := 0
  /-- a run is open -/
  run : Bool := false
  /-- label of the first sample of the open run's part -/
  start : Tick := 0
  /-- label of the run's first excursion sample, and how many it has -/
  exc : Option Tick := none
  nexc : Nat := 0
  /-- samples since the last excursion sample -/
  quiet : Nat := 0
  /-- sample words of the part, oldest first -/
  words : List (BitVec 16) := []
  /-- samples kept back for KPRE, newest first -/
  back : List (BitVec 16) := []
  /-- samples since the last one left to a capture, while that matters for CUT -/
  sinceWin : Option Nat := none
  cut : Bool := false
  deriving DecidableEq, Repr

/-- The last queued result of a port's deadband (R362). -/
structure Deadband where
  value : Int
  fault : Bool
  range : Bool
  sat : Bool
  tfault : Bool
  /-- results since -/
  since : Nat := 0
  deriving DecidableEq, Repr

/-! ### Timekeeper (R82 to R112) -/

structure Hit where
  stamp : Stamp
  /-- its stamp and the tick of its edge as moments, in fine units and in ticks (`State.elapsed`) -/
  moment : Int
  came : Int
  falling : Bool
  pile : Bool := false
  width : Option (BitVec 22) := none
  /-- TRACE was 0 at the stamp (R68) -/
  hold : Bool := false
  /-- steps applied before the stamp (R63) -/
  gen : Nat := 0
  /-- stamped for a pin calibration, which publishes none (R177) -/
  cal : Bool := false
  deriving DecidableEq, Repr

structure TkChan where
  /-- moment from which the channel has seen edges: it stamps those of later ticks (R83) -/
  since : Int := -1
  /-- moment of the last stamped leading edge in fine units -/
  last : Option Int := none
  /-- moment of the last edge of any kind (R89) -/
  edge : Option Int := none
  /-- the input is beyond the active level -/
  active : Bool := false
  /-- hits not yet released, oldest first; the newest may have no width yet (R97) -/
  run : List Hit := []
  /-- island buffer, at most 64 (R98) -/
  buf : List Hit := []
  block : List Hit := []
  /-- closed block that waits for its queue (R98) -/
  closed : Option Item := none
  /-- accepted samples of each raw bin; absent means 0 (R90) -/
  hist : List (Nat × Nat) := []
  /-- injected edges, oldest first: moment, raw bin, and whether an edge came within 32 ticks (R90) -/
  inj : List (Int × BitVec 7 × Bool) := []
  /-- accepted table that waits for its swap (R94) -/
  newTab : Option (List Nat) := none
  fast : Bool := false
  deriving DecidableEq, Repr

structure IvUnit where
  /-- start stamp of the open interval, its moment in ticks, and the steps applied before it -/
  start : Option (Stamp × Int × Nat) := none
  extra : Bool := false
  hold : Bool := false
  deriving DecidableEq, Repr

/-! ### Fast acquisition (R113 to R138) -/

structure FaChan where
  /-- a reset falls due and waits for its start: whether a source is raised for it, and the first
  moment at which it may start (R120, R135) -/
  due : Option (Bool × Int) := none
  /-- moment after the RESET interval in progress (R120) -/
  resetEnd : Option Int := none
  /-- end of the previous reset (R118) -/
  lastEnd : Int := 0
  /-- moment at which the deferred periodic reset fell due (R122) -/
  deferred : Option Int := none
  /-- FA_RST and FA_RSTT as they stay in force until a moment, after a write (R129) -/
  old : Option (W32 × W32 × Int) := none
  /-- consecutive checked samples near the rail, the newest last (R119) -/
  near : Nat := 0
  /-- last unflagged sample, and the latest samples as loops take them, newest first, at most 256,
  each with the moment of its label: a flagged one counts as the last unflagged one before it (R290) -/
  good : Option Int := none
  taps : List (Int × Option Int) := []
  /-- a converter's newest sample is clipped (R135) -/
  clipped : Bool := false
  /-- ring words on their way: slot address, word, moment of the write (R125) -/
  late : List (Nat × BitVec 16 × Int) := []
  /-- sample pairs without a flag since matching began or last lost MATCH_OK, at most 2^20, and
  whether there was one since the last estimates (R128) -/
  pairs : Nat := 0
  learnt : Bool := false
  deriving DecidableEq, Repr

/-! ### Trigger and capture (R139 to R166) -/

/-- A FIRE that waits for its decision (R149). -/
structure FireReq where
  mark : TrigMark
  /-- made by this unit -/
  own : Bool
  /-- local trigger (R148) -/
  loc : Bool
  /-- tags of the FIRE commands that made it -/
  tags : List (BitVec 16) := []
  /-- number of its arming set, with the HOLD, SETTLE and ONCE of that set (R149) -/
  set : Nat := 0
  hold : Nat := 0
  settle : Tick := 0
  once : Bool := false
  /-- its tick on the scale of `State.wide`, and the steps applied before it -/
  wide : Int := 0
  gen : Nat := 0
  /-- moment of the first tick of its slot (R142) -/
  slot : Int := 0
  deriving DecidableEq, Repr

/-- A committed gathering (R149) and its unfinished cuts. -/
structure Gathering where
  t0 : Tick
  origin : BitVec 6
  id : BitVec 5
  /-- local gatherings form a set of their own (R148) -/
  loc : Bool
  /-- channels still to be cut -/
  cuts : List (BitVec 5) := []
  /-- first and one-past-last label of the window (R152, R153) -/
  lo : Tick := 0
  hi : Tick := 0
  cut : Bool := false
  hold : Bool := false
  /-- number of its arming set -/
  set : Nat := 0
  /-- T0 on the scale of `State.wide`, and the steps applied before it -/
  wide : Int := 0
  gen : Nat := 0
  deriving DecidableEq, Repr

/-- An ARM of this unit whose reply waits (R163): its set, and the acknowledgements so far. -/
structure ArmJob where
  tag : BitVec 16
  set : Nat
  root : BitVec 6
  tick : Tick
  members : W64
  acks : List (BitVec 6 × ArmAck) := []
  deriving DecidableEq, Repr

structure Trigger where
  /-- slots that have formed their trigger, newest first: moment of the slot's first tick, and
  `TimeBase.up` when it was formed (R142) -/
  slots : List (Int × Nat) := []
  /-- condition, met-tick: raises routed to TRG that wait for CONDITION_MET (R456) -/
  routed : List (BitVec 5 × Tick) := []
  fires : List FireReq := []
  /-- gatherings, newest first -/
  gaths : List Gathering := []
  /-- number of the arming set in force or last in force -/
  setNo : Nat := 0
  /-- its ARM_TICK on the scale of `State.wide` (R140) -/
  armWide : Int := 0
  /-- sets with ONCE whose first gathering is committed: their FIREs open nothing more (R149) -/
  spent : List Nat := []
  /-- disarm tick of the last set, on that scale: FIREs before it are still decided (R164) -/
  ended : Option Int := none
  /-- windows committed lately, with the channels they cut, in moments (R361) -/
  windows : List (List (BitVec 5) × Int × Int) := []
  /-- channels newly exclusive whose capture in progress comes first (R46) -/
  claimWait : W32 := 0
  /-- ARMs of this unit that wait for their replies, oldest first (R163) -/
  arms : List ArmJob := []
  /-- acknowledgements this unit has made, newest first: master and result (R146) -/
  acked : List (BitVec 6 × ArmAck) := []
  /-- DISARMs that wait for their ticks, with the sets they disarm (R164) -/
  disarms : List (Tick × Nat) := []
  /-- moment at which LISTEN was switched on (R153) -/
  since : Int := 0
  /-- start ticks of the TRIGOUT pulses due (R161) -/
  pulses : List Tick := []
  pulseEnd : Option Tick := none
  /-- TRIGIN, as last seen -/
  trigin : Bool := false
  deriving DecidableEq, Repr

/-! ### Pattern engine (R167 to R201) -/

/-- An issued vector output (R185), or a gap in which the pins hold the idle vector: before the
first start of a sequence and after a slip (R190). -/
structure VecOut where
  vec : BitVec 128 := 0
  seg : BitVec 10 := 0
  pass : BitVec 16 := 0
  /-- vector memory index, or index in the pass of a streamed segment (PAT_POS) -/
  num : BitVec 16 := 0
  /-- which repetition, 0 first -/
  rep : BitVec 16 := 0
  /-- serial number of its pass in the sequence -/
  serial : Nat := 0
  /-- PAT_RATE that the NCO runs at from its start -/
  rate : BitVec 2 := 0
  gap : Bool := false
  /-- its end, once nothing can move it any more: start tick and step of the next output, with the
  accumulator at the start of the tick after its wrap -/
  till : Option (Tick × Nat × W32 × Tick) := none
  /-- a gap ends with the first wrap whose start is at or after this tick (R191) -/
  resume : Option Tick := none
  /-- last output of its pass, of its segment's last pass -/
  last : Bool := false
  segEnd : Bool := false
  /-- vectors of its streamed pass, 0 on chip (R189) -/
  stream : Nat := 0
  /-- its grain held an uncorrectable error: the idle vector stands for it (R380) -/
  spoilt : Bool := false
  deriving DecidableEq, Repr

structure Pattern where
  /-- scheduled start: segment, tick, tag (R195) -/
  start : Option (BitVec 10 × Tick × BitVec 16) := none
  /-- next output to be issued: segment, pass, index in the pass, repetition -/
  seg : BitVec 10 := 0
  pass : BitVec 16 := 0
  idx : BitVec 16 := 0
  rep : BitVec 16 := 0
  /-- serial number of the pass of the next output -/
  serial : Nat := 0
  /-- the last output issued ended its pass, so a request is late (R186) -/
  pastPoint : Bool := false
  /-- nothing more is to be issued: the sequence ends with the issued outputs -/
  ended : Bool := false
  /-- outputs issued and not yet at the pins, oldest first -/
  issued : List VecOut := []
  /-- output at the pins, and its start: tick and step within it -/
  cur : Option VecOut := none
  curAt : Tick × Nat := (0, 0)
  /-- accumulator at the start of tick `ref`, after the wrap that started `cur` (R172) -/
  acc : W32 := 0
  ref : Tick := 0
  /-- last state of each pin other than HOLD (R169) -/
  states : List (BitVec 3) := List.replicate 32 1
  /-- the last edge of each pin at its ball: tick and step (R175) -/
  edges : List (Tick × Nat) := List.replicate 32 (0, 0)
  /-- pins whose PULSE is high -/
  pulses : W32 := 0
  /-- tag of the SEQ_BRANCH that made the pending request -/
  reqTag : Option (BitVec 16) := none
  /-- pending SEQ_STOPs: WHEN and tag; a FAIL_STOP has no tag -/
  stops : List (BitVec 2 × Option (BitVec 16)) := []
  /-- first failing compare of the pass being issued: moment of its strobe (R187) -/
  failAt : Option Nat := none
  /-- serial of the last pass that raised source 422, plus 1 -/
  failRaised : Nat := 0
  /-- compares of the output at the pins have been sampled -/
  strobed : Bool := true
  /-- the limit of the stall in progress has expired (R378) -/
  timedOut : Bool := false
  /-- vectors of the head grain already released, vectors issued in earlier passes and not yet
  released (R189) -/
  relOff : Nat := 0
  ahead : Nat := 0
  /-- segments of the streamed passes completed as ACTIVE and not yet in a complete copy (R197) -/
  passes : List (BitVec 10) := []
  shotNo : W32 := 0
  /-- pins under calibration, and whether it was entered from OFF (R193) -/
  cal : Option (W32 × Bool) := none
  /-- tick at which the idle vector of STOPPING began -/
  idleSince : Option Tick := none
  /-- branch inputs that have not reached the sequencer, oldest first, with the moment of each:
  raises routed to a line, stamped edges, reports of decision lines (R183, R217, R456) -/
  inputs : List (BranchInput × Nat) := []
  deriving DecidableEq, Repr

/-! ### Echo demodulators (R202 to R229) -/

structure Gate where
  g : Nat
  lo : Tick
  hi : Tick
  /-- output with the largest magnitude so far: index, real, imaginary (R210) -/
  best : Option (Nat × Int × Int) := none
  count : Nat := 0
  spoil : Bool := false
  clip : Bool := false
  hit : Option Stamp := none
  done : Bool := false
  deriving DecidableEq, Repr

/-- A gate's result (R210 to R214). -/
structure GateRes where
  g : Nat
  spoil : Bool
  clip : Bool := false
  nohit : Bool := false
  amb : Bool := false
  edge : Bool := false
  mag : BitVec 24 := 0
  phase : W32 := 0
  tof : BitVec 40 := 0
  resid : BitVec 8 := 0
  peak : BitVec 17 := 0
  deriving DecidableEq, Repr

/-- A gate's sums in an average (R215): complex peak, shots in it, coarse delays, shots with a hit. -/
structure GateSum where
  re : Int := 0
  im : Int := 0
  gn : Nat := 0
  tau : Int := 0
  nhit : Nat := 0
  clip : Bool := false
  deriving DecidableEq, Repr

structure Demod where
  /-- shot in progress or last processed: time and number -/
  shot : Option (Stamp × W32) := none
  /-- temperature word of the shot: TEMP, AGE, TFAULT (R221) -/
  temp : BitVec 24 × Nat × Bool := (0x800000, 0xFFFFFF, true)
  gates : List Gate := []
  results : List GateRes := []
  /-- lines reported by the shot in progress: true, false -/
  lt : W32 := 0
  lf : W32 := 0
  hold : Bool := false
  /-- the chain has taken samples since the demodulator began to run -/
  live : Bool := false
  /-- CIC integrators and combs; its outputs, newest first, at most 64 (R205, R206) -/
  integ : List (Int × Int) := List.replicate 4 (0, 0)
  comb : List (Int × Int) := List.replicate 4 (0, 0)
  line : List (Int × Int) := []
  /-- samples since the last flagged and the last clipped one -/
  sinceFlag : Nat := 1000
  sinceClip : Nat := 1000
  /-- running average: shots, stamp, number and temperature of the first, sums by gate -/
  avgN : Nat := 0
  avgFirst : Option (Stamp × W32) := none
  avgTemp : BitVec 24 × Nat × Bool := (0x800000, 0xFFFFFF, true)
  sums : List GateSum := List.replicate 8 {}
  /-- what the gates of the shot in progress add to the sums when it is processed (R215) -/
  part : List GateSum := List.replicate 8 {}
  /-- gate windows of the latest shots, newest first, in moments (R43) -/
  windows : List (Int × Int) := []
  avgHold : Bool := false
  /-- the two latest single-shot and averaged results of each gate, newest first (R290) -/
  single : List (GateRes × Tick) := []
  average : List (GateRes × Tick) := []
  /-- slips since the previous single-shot and averaged record: count, last slip, its resume -/
  slipS : Nat × Tick × Tick := (0, 0, 0)
  slipA : Nat × Tick × Tick := (0, 0, 0)
  deriving DecidableEq, Repr

/-! ### Sensor ports and converter cores (R230 to R285) -/

/-- A published result of a port. -/
structure PResult where
  value : BitVec 24
  cal : BitVec 24
  tick : Tick
  /-- moment at which it was completed (R221, R290) -/
  done : Int
  fault : Bool
  range : Bool := false
  sat : Bool := false
  tfault : Bool := false
  deriving DecidableEq, Repr

/-- A CAL_ZERO or CAL_FULL in progress (R270, R271). -/
structure CalJob where
  full : Bool
  tag : BitVec 16
  n : Nat
  fs : Int
  sum : Int := 0
  count : Nat := 0
  /-- sum over the helping core's conversions (R267) -/
  helpSum : Int := 0
  helpCount : Nat := 0
  /-- sum of that core's raw outputs before their correction -/
  helpRaw : Int := 0
  /-- moment at which the command began it -/
  since : Nat := 0
  deriving DecidableEq, Repr

/-- What a conversion runs under from its start to its result (R249, R250): PS_CFG, PS_EXC and PS_AUX of
its port, its modulator samples, and whether a write after its last sample has replaced them. -/
structure Conv where
  cfg : W32
  exc : W32
  aux : W32
  d : Nat
  stale : Bool := false
  deriving DecidableEq, Repr

structure SpPort where
  /-- phase of the conversion in hand or last converted: true is B -/
  phase : Bool := false
  /-- the previous conversion: phase, raw, centroid, made since the calibration command -/
  prev : Option (Bool × Int × Tick × Bool) := none
  /-- restarts since the last published result (R249) -/
  restarts : Nat := 0
  /-- settings or port changed since the core's previous conversion (R240) -/
  settle : Bool := true
  /-- an impedance result is over its limit -/
  impOver : Bool := false
  /-- moment of the last impedance result, or at which the port left OFF (R246) -/
  impAt : Nat := 0
  /-- window clean since the settling of this turn began (R248) -/
  clean : Bool := true
  last : Option PResult := none
  /-- the result before it (R290) -/
  before : Option PResult := none
  cal : Option CalJob := none
  deadband : Option Deadband := none
  /-- last result set RANGE or SAT (source 400 + p) -/
  marked : Bool := false
  /-- gain codes whose GAIN has been written or calibrated since PCV powered up: the others hold their
  test value (R269) -/
  gainSet : BitVec 8 := 0
  /-- coefficients and table points in use: index, value (R275); absent means the reset value -/
  use : List (Nat × W32) := []
  deriving DecidableEq, Repr

structure Urgent where
  port : BitVec 4
  since : Tick
  loop : Bool := false
  snap : Bool := false
  cmd : Bool := false
  deriving DecidableEq, Repr

structure PcCore where
  /-- next entry of the scan order -/
  scan : Nat := 0
  urgents : List Urgent := []
  /-- request being served, with the tick its turn started -/
  serving : Option (Urgent × Tick) := none
  /-- port of the previous conversion and its phase, while the core has not changed port since -/
  prevPort : Option (BitVec 4 × Bool) := none
  /-- the conversion in hand -/
  conv : Option Conv := none
  /-- tick at which the conversion in hand started -/
  convStart : Tick := 0
  /-- settling of a faulted port's turn (R248) -/
  recheck : Bool := false
  /-- the conversion in hand started before a calibration command -/
  old : Bool := false
  deriving DecidableEq, Repr

/-- A PWF pin (R280, R281): 0 low, 1 high, 2 high impedance, 3 a wave of `high` and `period` in
steps of 100 ns; open drain, it is high impedance where it would be high. -/
structure Pwf where
  level : BitVec 2 := 2
  od : Bool := false
  high : Nat := 0
  period : Nat := 0
  deriving DecidableEq, Repr

/-! ### Control engine (R286 to R316) -/

structure Biquad where
  x1 : Int := 0
  x2 : Int := 0
  y1 : Int := 0
  y2 : Int := 0
  deriving DecidableEq, Repr

/-- A loop's own state and the signals of its last sample (R286 to R294). -/
structure LoopVals where
  sections : List Biquad := List.replicate 8 {}
  ff : List Biquad := List.replicate 4 {}
  /-- integrator in accumulator units -/
  integ : Int := 0
  e1 : Int := 0
  out : Int := 0
  hiLim : Bool := false
  loLim : Bool := false
  x : Int := 0
  u : Int := 0
  f : Int := 0
  deriving DecidableEq, Repr

/-- A sample computed and not yet latched, with its flags and how often it saturated. -/
structure LoopSample where
  vals : LoopVals
  olim : Bool
  rlim : Bool
  ilim : Bool
  sats : Nat
  deriving DecidableEq, Repr

/-- A slot write that waits for its sample start (R304). -/
structure SlotWrite where
  slot : BitVec 7
  shift : BitVec 5
  value : W32
  /-- tag of its COEFF_WRITE, tick at which it landed -/
  tag : BitVec 16
  landed : Tick
  deriving DecidableEq, Repr

structure Loop where
  vals : LoopVals := {}
  /-- sample in progress (R300) -/
  comp : Option LoopSample := none
  /-- tick of the last latch, and the output before it (R290) -/
  latched : Option Tick := none
  outBefore : Int := 0
  /-- raw values that a stale input keeps (R291) -/
  raw : Int := 0
  rawFf : Int := 0
  writes : List SlotWrite := []
  freeze : Bool := false
  /-- tick of the last freeze -/
  froze : Tick := 0
  /-- pending release: MODE -/
  release : Option (BitVec 2) := none
  /-- the first sample sets the integrator (R302) -/
  bumpless : Bool := false
  /-- last sample start -/
  lastStart : Option Tick := none
  /-- first sample start allowed after a takeover (R476) -/
  notBefore : Option Tick := none
  /-- an urgent request of this loop was not served (R264, R291) -/
  notServed : Bool := false
  notServedFf : Bool := false
  /-- sample starts since the last telemetry record, skips since then (R311) -/
  telem : Nat := 0
  skips : Nat := 0
  /-- slot writes since the last complete copy: slot, shift, value; sample start (R310) -/
  mirror : List ((BitVec 7 × BitVec 5 × W32) × Tick) := []
  deriving DecidableEq, Repr

/-! ### Lighting (R332 to R352) -/

structure LString where
  /-- settings in force since the last period start (R335) -/
  cfg : W32 := 0x02640000
  /-- writes since then: moment of the last, the word before the writes of that moment, and whether
  there was an earlier one -/
  wrote : Option (Nat × W32 × Bool) := none
  /-- accumulator in units of 2^-16 tick (R334); on-time of this period in ticks -/
  acc : Int := 0
  ton : Nat := 0
  /-- on-time owed by a probe in units of 2^-16 tick, and the periods left to spread it (R341) -/
  owed : Int := 0
  owedFor : Nat := 0
  /-- on-time lost to a neighbour's windows, added to the next period (R340) -/
  carry : Nat := 0
  /-- length of this period's probe pulse in ticks -/
  probe : Option Nat := none
  /-- the probe in hand has found the string open, and was the first to set OPEN (R342) -/
  open_ : Bool := false
  openNow : Bool := false
  /-- the string has reported its headroom since the boost last adapted (R337) -/
  shone : Bool := false
  deriving DecidableEq, Repr

structure MFrame where
  nbits : Nat
  words : List W64
  tag : Option (BitVec 16) := none
  noReply : Bool := false
  deriving DecidableEq, Repr

structure MChain where
  frame : Option MFrame := none
  /-- moments at which the frame began, and at which the one before ended (R345, R348) -/
  began : Nat := 0
  ended : Nat := 0
  next : Option MFrame := none
  last : Option MFrame := none
  deriving DecidableEq, Repr

structure Lighting where
  strings : List LString := List.replicate 8 {}
  chains : List MChain := List.replicate 2 {}
  /-- moments of the overvoltages of the last second, newest first (R338) -/
  overs : List Nat := []
  /-- moment at which the soft start began, and the measured output it ramps from (R336) -/
  ramp : Nat × Nat := (0, 0)
  /-- derating factor formed and not yet in force (R339) -/
  nextF : Option Nat := none
  factor : Nat := 256
  /-- moment of the last period start -/
  period : Option Nat := none
  deriving DecidableEq, Repr

/-! ### Grenyx ports (R390 to R420) -/

structure GxPort where
  /-- version negotiated at the last entry to UP (R408) -/
  ver : Nat := 0
  /-- half rate in the training window in hand (R406) -/
  half : Bool := false
  rounds : Nat := 0
  partner : Option Round := none
  /-- VMAX as the training in hand began with it, and this end's words of the round in hand -/
  vmax : Nat := 3
  mine : Option Round := none
  /-- next FSN to send, FSN of the last frame accepted -/
  fsn : BitVec 12 := 0
  acked : BitVec 12 := 0
  got : BitVec 12 := BitVec.allOnes 12
  /-- kept frames, oldest first (R403) -/
  kept : List Frame := []
  /-- a replay was asked: frames to send again -/
  replay : List Frame := []
  naks : Nat := 0
  badHeaders : Nat := 0
  wantNak : Bool := false
  /-- credit to return with the next header -/
  ret0 : Nat := 0
  ret1 : Nat := 0
  txCmds : List (List W64) := []
  txMarks : List TrigMark := []
  txTime : List TimeMark := []
  /-- frames put on the lanes, oldest first -/
  sent : List Frame := []
  lfsr : BitVec 16 := 1
  /-- words of records and packets begun in earlier frames and still to be sent -/
  spill : Nat := 0
  /-- frames and records that a reorder holds back, newest first (R413, R414) -/
  heldFrames : List Frame := []
  heldRecs : List Rec := []
  /-- sources whose next record carries TRIAL after a drop (R414): 65,536 times UNIT plus stream -/
  trialSrc : List Nat := []
  /-- the port has left UP and may resume, and the moment at which it left (R410) -/
  canResume : Bool := false
  left : Nat := 0
  /-- moment at which the state, training window or round in hand began (R405, R406, R409) -/
  since : Nat := 0
  /-- moment of the last frame sent with a data block (R412) -/
  lastData : Nat := 0
  deriving DecidableEq, Repr

/-! ### Atesque controller (R421 to R453) -/

/-- What a pending command waits for (R429). -/
inductive Waits where
  /-- MODE_SET: apply tick, if any, SELECT and VALUE, and modes still to come up -/
  | modeSet (applyAt : Option Tick) (select value : BitVec 6) (failed : Bool)
  | domain (select value : BitVec 26) (failed : Option Nat)
  | qRead (q : BitVec 8)
  | arm
  | fire (cond : BitVec 5) (t : Tick)
  /-- a FIRE that has met its condition and waits for its decision -/
  | fired
  | disarm (t : Tick)
  /-- GRADE: channels not done, channels that swapped, whether one rejected a table, the moment at which
  the wait began (R107) -/
  | grade (todo done : W64) (rejected : Bool) (since : Nat)
  /-- ENUMERATE is running; its reply's status, DETAIL and body (R440) -/
  | enumerating (status detail : Nat) (body : List W64)
  | cal (p : BitVec 4)
  | linkAlign
  /-- loops named, the writes of each still to take effect, and (loop, tick, CGEN) of those done -/
  | coeff (loops : BitVec 16) (left : List (BitVec 4 × Nat))
      (done : List (BitVec 4 × Tick × BitVec 16)) (mirrored : Bool)
  | freeze (loops : BitVec 16) (t : Tick)
  | release (loops : BitVec 16)
  | seqStart
  | seqStop
  | seqBranch
  | handover
  | marker (chain : Bool)
  | align
  /-- the happening has come: status, DETAIL, P0 [47:32], P0 [15:0] and the body of the reply -/
  | ready (status detail hi lo : Nat) (body : List W64)
  deriving DecidableEq, Repr

structure Pend where
  tag : BitVec 16
  noReply : Bool
  order : Bool := false
  opcode : BitVec 8
  waits : Waits
  deriving DecidableEq, Repr

/-- One unit's part of a group reply (R443 to R445). -/
structure Part where
  unit : BitVec 6
  status : BitVec 8
  detail : BitVec 8
  body : List W64
  deriving DecidableEq, Repr

/-- A group command this unit is the root of (R442). -/
structure Group where
  tag : BitVec 16
  noReply : Bool
  lo : BitVec 6
  hi : BitVec 6
  parts : List Part := []
  /-- a multi-record reply still open: unit and words so far -/
  openParts : List Part := []
  /-- moment at which the root's own part completed (R443) -/
  ownAt : Option Nat := none
  deriving DecidableEq, Repr

/-- A command whose last packet has arrived: C0 of its first packet, its parameter words, whether a
packet failed check 3 of R428, the credit its packet returns once it leaves the buffer, and the units
that an ENUMERATE would find. -/
structure WaitCmd where
  c0 : W64
  p : List W64
  bad : Bool := false
  credit : Nat := 0
  found : List TreeUnit := []
  deriving DecidableEq, Repr

structure Atesque where
  /-- command of several packets that is still incomplete (R423) -/
  frag : Option WaitCmd := none
  /-- moments of the latest packet of `frag` and of the latest one discarded with `skip` -/
  fragAt : Nat := 0
  skipAt : Nat := 0
  /-- C0 of a command whose continuations are discarded without reply (R423, R427) -/
  skip : Option W64 := none
  pend : List Pend := []
  groups : List Group := []
  /-- tags whose late replies are discarded: tag, lowest and highest unit, moment of the merge (R443) -/
  discards : List (BitVec 16 × BitVec 6 × BitVec 6 × Nat) := []
  /-- SEQ of this unit's merged replies that have not reached its Sewing -/
  merged : List W32 := []
  /-- commands that wait behind an ORDER command, oldest first (R430) -/
  waiting : List WaitCmd := []
  /-- RESET_UNIT has replied and the reset is due (R437) -/
  resetDue : Bool := false
  /-- active trial cause, and the moment at which its HOLD ends (R450) -/
  trialCause : Option Cause := none
  trialEnd : Nat := 0
  /-- flash bridge: the command in hand reads (R501) -/
  flashRead : Bool := false
  /-- last value the maintenance port returned (R500) -/
  maintData : W32 := 0
  deriving DecidableEq, Repr

/-! ### Custody (R464 to R483) -/

structure Custody where
  /-- moment of the last raise of a CUS-routed source (R472) -/
  raisedAt : Option Nat := none
  /-- causes presented and not yet taken by self-diagnosis, oldest first -/
  causes : List Cause := []
  /-- scheduled handover boundary (R474) -/
  hb : Option Tick := none
  /-- this unit is the outgoing one, with its REASON -/
  outgoing : Option (BitVec 4) := none
  /-- the active keeps computing until HB -/
  planned : Bool := false
  /-- a PAIR takes control at HB -/
  taking : Bool := false
  /-- a standby's silent partner: it takes over at the next boundary (R474) -/
  silentTake : Bool := false
  /-- partner B gives up control at the next boundary (R473) -/
  giveUp : Bool := false
  /-- the partner's CUS_STAT as last received (R479) -/
  partnerStat : W32 := 0
  joined : Bool := false
  /-- GUARDI was found silent in conflict with a custody block (R473) -/
  ineligible : Bool := false
  silent : Bool := true
  /-- the copy held, as received (R471) -/
  copy : Option MirrorCopy := none
  /-- moment of the boundary of the last complete copy, held or acknowledged -/
  copyAt : Option Int := none
  /-- a copy has been acknowledged since the join or the takeover: the next carries changes (R310,
  R471) -/
  acked : Bool := false
  /-- the copy in progress at the active, as it goes out over the mate port -/
  sending : Option MirrorCopy := none
  /-- last mirror frame boundary -/
  boundary : Option Tick := none
  /-- DIAG_OK and the mate port have been clean throughout the frame; a copy became complete -/
  frameClean : Bool := true
  copied : Bool := false
  /-- clean frames in a row as STANDBY (R478) -/
  cleanStandby : Nat := 0
  /-- an automatic reclaim has been requested since the unit last lost control -/
  asked : Bool := false
  /-- complete copies since the join (R480) -/
  copies : W32 := 0
  /-- source 685 has been raised for the present age -/
  aged : Bool := false
  /-- outputs hold their codes after a cause (R474) -/
  holding : Bool := false
  /-- RESET_UNIT waits for the handover boundary (R479) -/
  resetAfter : Bool := false
  /-- FAULT is to be entered at HB (R477) -/
  faultAfter : Bool := false
  /-- the outgoing unit has had no GUARDI edge since its HB, with the moment of that (R475) -/
  orphan : Option Nat := none
  /-- moment of the entry to SEEK (R467) -/
  seekFrom : Nat := 0
  /-- moment from which the pins drive after control was taken (R475) -/
  drive : Nat := 0
  /-- outputs stay high impedance until written after leaving a pair (R49) -/
  released : W32 := 0
  deriving DecidableEq, Repr

/-! ### Supply, reset and boot (R484 to R513) -/

structure Power where
  /-- VSUP is above V_POR -/
  supply : Bool := true
  resetn : Bool := true
  /-- domains that are powering up, in order; domains that are powering down -/
  rising : List Nat := []
  falling : List Nat := []
  /-- domains that must come up again once they are down (R489) -/
  again : List Nat := []
  /-- rails that raised their out-of-window source, or that are out of window -/
  railOut : List Nat := []
  /-- temperature warning stands for the core die, for the field die -/
  warnCore : Bool := false
  warnField : Bool := false
  romOk : Bool := false
  memOk : Bool := false
  /-- AO domains whose outputs are configured (R320) -/
  aoReady : BitVec 2 := 0
  /-- straps at the pins: ROLE, HEAD, BOOTSRC -/
  straps : BitVec 4 := 0xF
  /-- TAP instruction in force -/
  tap : TapInstr := .bypass
  deriving DecidableEq, Repr

/-! ### Pins that are no register's -/

structure Pins where
  /-- PV drivers that are on, and their levels -/
  pvDrive : W32 := 0
  pvOut : W32 := 0
  /-- AO outputs whose range change is in progress (R322) -/
  aoBusy : W32 := 0
  /-- PV receiver levels as the outside last showed them -/
  pvIn : W32 := 0
  trigout : Bool := false
  guardo : Bool := false
  pairLost : Bool := false
  pwf : List Pwf := List.replicate 8 {}
  deriving DecidableEq, Repr

/-- The unit, with the queue of commands that wait (first in, first out). -/
structure State where
  pending : List Instr := []
  /-- register file: words that differ from their reset values, by rising address -/
  regs : List (Nat × W32) := []
  /-- patch RAM, capture memory and vector memory -/
  mem : List Host.Cell := []
  tb : TimeBase := {}
  ev : Events := {}
  loam : Loam := {}
  sew : Sewing := {}
  sieve : List SieveChan := List.replicate 32 {}
  tk : List TkChan := List.replicate 64 {}
  iv : List IvUnit := List.replicate 16 {}
  fa : List FaChan := List.replicate 32 {}
  trg : Trigger := {}
  pat : Pattern := {}
  dm : List Demod := List.replicate 16 {}
  sp : List SpPort := List.replicate 16 {}
  pc : List PcCore := List.replicate 8 {}
  ce : List Loop := List.replicate 16 {}
  light : Lighting := {}
  gx : List GxPort := List.replicate 5 {}
  atq : Atesque := {}
  cus : Custody := {}
  pwr : Power := {}
  pins : Pins := {}
  deriving DecidableEq, Repr

/-- The unit in BOOT right after reset is released (R30, R493, R494): every register at its reset
value, straps sampled as open pins (log entry 2), the live supply and temperature readings of log
entry 3, only AON on, and the base domains of R40 powering up. -/
def State.reset : State :=
  { regs := [(0x110, 0x80000000), (0x30c, 0xF), (0x310, 0xF), (0x314, 0x4B0), (0x318, 0xC800C8),
      (0x10004, 0x230), (0x30008, 0x0D000000), (0x120004, 0xC0000000)]
    pwr := { rising := [2, 3, 4, 23, 24, 25] } }

end Sys2Proof.Machine
end

