-- ==== Sys2Proof/Machine/Bits.lean ====
section
/-! DEFINITION. Bit fields, signed readings, modular comparisons and the sparse maps that hold the
register file and the memories. -/
namespace Sys2Proof.Machine

/-! ### Sparse maps: rising keys, no entry that equals what an unlisted key reads as -/

/-- What key `a` reads as; `d` is what an unlisted key reads as. -/
def sparseGet {β : Type} : List (Nat × β) → Nat → β → β
  | [], _, d => d
  | (k, v) :: m, a, d => if k = a then v else sparseGet m a d

/-- Takes every entry of key `a` out. -/
def sparseDrop {β : Type} (m : List (Nat × β)) (a : Nat) : List (Nat × β) :=
  m.filter (fun c => c.1 != a)

/-- Puts an entry before the first greater key. -/
def sparseInsert {β : Type} : List (Nat × β) → Nat → β → List (Nat × β)
  | [], a, v => [(a, v)]
  | (k, w) :: m, a, v => if a < k then (a, v) :: (k, w) :: m else (k, w) :: sparseInsert m a v

/-- Writes `v` at key `a`, where an unlisted key reads as `d`: writing `d` takes the entry out. -/
def sparsePut {β : Type} [DecidableEq β] (m : List (Nat × β)) (a : Nat) (v d : β) :
    List (Nat × β) :=
  if v = d then sparseDrop m a else sparseInsert (sparseDrop m a) a v

/-- The canonical form: keys strictly rising, no entry at its unlisted value. -/
def sparseOk {β : Type} [DecidableEq β] (d : Nat → β) : List (Nat × β) → Bool
  | [] => true
  | [(k, v)] => v != d k
  | (k, v) :: (k', v') :: m => v != d k && decide (k < k') && sparseOk d ((k', v') :: m)

/-! ### Fields -/

/-- Width of a field in bits. -/
def RF.width (f : RF) : Nat := f.hi + 1 - f.lo

/-- The field's bits as a mask over its register's word. -/
def RF.mask (f : RF) : W32 := BitVec.ofNat 32 ((2 ^ f.width - 1) <<< f.lo)

/-- The field's value in a word. -/
def RF.read (f : RF) (w : W32) : Nat := w.toNat >>> f.lo % 2 ^ f.width

/-- A word with the field replaced, the value taken modulo the field's range. -/
def RF.write (f : RF) (v : Nat) (w : W32) : W32 :=
  (w &&& ~~~f.mask) ||| (BitVec.ofNat 32 (v <<< f.lo) &&& f.mask)

/-- Bits [hi:lo] of a 64-bit word. -/
def bits (w : W64) (hi lo : Nat) : Nat := w.toNat >>> lo % 2 ^ (hi + 1 - lo)

/-- One bit of a word of any width. -/
def bitOf {n : Nat} (w : BitVec n) (k : Nat) : Bool := w.getLsbD k

/-- A word with bit `k` set or cleared. -/
def setBit {n : Nat} (w : BitVec n) (k : Nat) (b : Bool) : BitVec n :=
  if b then w ||| (1#n <<< k) else w &&& ~~~(1#n <<< k)

/-- The numbers below `n` whose bit is set in a word, rising. -/
def setBits {n : Nat} (w : BitVec n) : List Nat := (List.range n).filter (fun k => w.getLsbD k)

/-- A field value read as a signed number of `n` bits. -/
def asSigned (n v : Nat) : Int :=
  if v % 2 ^ n < 2 ^ (n - 1) then Int.ofNat (v % 2 ^ n) else Int.ofNat (v % 2 ^ n) - 2 ^ n

/-- A signed number as the unsigned code of `n` bits. -/
def asCode (n : Nat) (x : Int) : Nat := (x % 2 ^ n).toNat

/-- A signed number limited to `n` bits. -/
def limitSigned (n : Nat) (x : Int) : Int := max (-(2 ^ (n - 1))) (min (2 ^ (n - 1) - 1) x)

/-- A count that stops at the largest number of `n` bits. -/
def saturate (n v : Nat) : Nat := min v (2 ^ n - 1)

/-- Division rounded to nearest, ties away from zero. -/
def divRound (a : Int) (b : Nat) : Int :=
  if a < 0 then -((-a * 2 + b) / (2 * b)) else (a * 2 + b) / (2 * b)

/-- A 64-bit word from fields (value, lowest bit, width), the fields apart. -/
def packWord (fs : List (Nat × Nat × Nat)) : W64 :=
  BitVec.ofNat 64 (fs.foldl (fun acc f => acc + (f.1 % 2 ^ f.2.2) * 2 ^ f.2.1) 0)

/-- A Boolean as 0 or 1. -/
def b2n (b : Bool) : Nat := if b then 1 else 0

/-! ### Ticks (R59: the counter wraps) -/

/-- Signed distance from `b` to `a`, modulo 2^48. -/
def tickDiff (a b : Tick) : Int := (a - b).toInt

/-- `a` is at or before `b`, modulo 2^48. -/
def tickLe (a b : Tick) : Bool := decide ((b - a).toNat < 2 ^ 47)

/-- `a` is before `b`, modulo 2^48. -/
def tickLt (a b : Tick) : Bool := a != b && tickLe a b

/-- A stamp as a count of fine units (R59), with the tick taken as a plain number. -/
def Stamp.units (t : Stamp) : Nat := t.tick.toNat * 1024 + t.fine.toNat

/-- Distance in fine units from stamp `b` to stamp `a`, modulo the wrap of the counter. -/
def stampDiff (a b : Stamp) : Int :=
  tickDiff a.tick b.tick * 1024 + a.fine.toNat - b.fine.toNat

/-- A stamp moved by a number of fine units. -/
def Stamp.add (t : Stamp) (d : Int) : Stamp :=
  { tick := BitVec.ofInt 48 ((Int.ofNat t.units + d) / 1024)
    fine := BitVec.ofInt 10 ((Int.ofNat t.units + d) % 1024) }

end Sys2Proof.Machine
end

