-- ==== Sys2Proof/Machine/ResetValues.lean ====
section
/-! DEFINITION. The word every register takes at reset (R7): the fields of its row in the register
map, or, where the reset value depends on the index, the value of the rule that gives it. -/
namespace Sys2Proof.Machine

/-- Event sources that no block raises: their EV_SRC reads 0 (R455). -/
def sourceReserved (s : Nat) : Bool :=
  s == 31 || (44 ≤ s && s ≤ 63) || s == 263 || s == 264 || (267 ≤ s && s ≤ 287) ||
    (427 ≤ s && s ≤ 447) || (518 ≤ s && s ≤ 543) || s == 567 || s == 575 ||
    (579 ≤ s && s ≤ 607) || (617 ≤ s && s ≤ 639) || (661 ≤ s && s ≤ 671) ||
    (687 ≤ s && s ≤ 702) || 704 ≤ s

/-- Reset of EV_SRC (R461): EN set, CUS set for sources 8 to 11 and 32. -/
def resetEvSrc (s : Nat) : W32 :=
  if sourceReserved s then 0
  else if (8 ≤ s && s ≤ 11) || s == 32 then 0x90000000 else 0x80000000

/-- Reset of queue q (R388) as EN, HOSTW, CONS, DEPTH, WM, RSV. -/
def queueReset (q : Nat) : Nat × Nat × Nat × Nat × Nat × Nat :=
  if q ≤ 0x1F then (0, 1, 1, 0x100, 0xC0, 0)
  else if q == 0x20 || q == 0x28 || q == 0x34 || q == 0x38 || q == 0x3C then
    (1, 0, 0, 0x1000, 0xC00, 0)
  else if q == 0x30 then (1, 1, 2, 0x400, 0, 0)
  else if 0x80 ≤ q && q ≤ 0xBF then (1, 0, 0, 0x80, 0x60, 0)
  else if q == 0xC0 then (1, 0, 0, 0x40, 0x30, 0)
  else if q == 0xF0 || q == 0xF1 then (1, 0, 0, 0x100, 0xC0, 0x10)
  else if q == 0xF2 then (1, 0, 0, 0x40, 0x30, 8)
  else if q == 0xFF then (1, 0, 0, 0, 0, 0)
  else (0, 0, 0, 0x100, 0, 0)

/-- Reset of the register at offset `o` of queue set `q`. -/
def resetQueue (q o : Nat) : W32 :=
  let (en, hostw, cons, depth, wm, rsv) := queueReset q
  if o == 0 then BitVec.ofNat 32 (en * 2 ^ 31 + hostw * 2 ^ 30 + cons * 2 ^ 28)
  else if o == 4 then BitVec.ofNat 32 (depth * 2 ^ 16 + wm)
  else if o == 8 then BitVec.ofNat 32 rsv
  else 0

/-- Whether slot `k` holds 1.0 at reset (R303): IGAIN, FGAIN, KP and every section's b0. -/
def slotIsOne (k : Nat) : Bool :=
  k ≤ 2 || (8 ≤ k && k < 68 && (k - 8) % 5 == 0)

/-- Reset of a slot's value (R303); 1.0 is 2^30 with the shift 30 of R315. -/
def resetSlot (k : Nat) : W32 :=
  if slotIsOne k then 0x40000000
  else if k == 71 || k == 73 then 0x80000000
  else if k == 72 || k == 74 then 0x7FFFFFFF
  else 0

/-- Reset of word `w` of a grading table (R111): the nominal table, entry b at 8b + 4 (R88). -/
def resetGrade (w : Nat) : W32 :=
  let k := w % 64
  BitVec.ofNat 32 ((8 * (2 * k + 1) + 4) * 2 ^ 16 + (8 * (2 * k) + 4))

/-- Floors of the pace regions (R22). -/
def paceFloor (n : Nat) : Nat :=
  if n == 0 || n == 1 then 6000 else if n == 2 then 8000 else 4000

/-- The word a row's fields give at reset. -/
def RegRow.resetWord (r : RegRow) : W32 :=
  BitVec.ofNat 32 (r.fields.foldl (fun acc f => acc + f.rst * 2 ^ f.lo) 0)

/-- The word of the register at an address after reset (R7). -/
def resetWord (a : Nat) : W32 :=
  if 0x210 ≤ a && a < 0x220 then BitVec.ofNat 32 (paceFloor ((a - 0x210) / 4) * 2 ^ 16)
  else if 0x44000 ≤ a && a < 0x44B00 then resetEvSrc ((a - 0x44000) / 4)
  else if 0xC1000 ≤ a && a < 0xC3000 then resetQueue ((a - 0xC1000) / 32) ((a - 0xC1000) % 32)
  else if 0x118000 ≤ a && a < 0x11C000 then
    let k := (a - 0x118000) % 0x400 / 8
    if k < 76 then
      if a % 8 == 0 then resetSlot k else if slotIsOne k then 0x1E else 0
    else 0
  else if 0x88000 ≤ a && a < 0x90000 then resetGrade ((a - 0x88000) % 0x200 / 4)
  else if 0x102000 ≤ a && a < 0x102800 then
    if (a - 0x102000) % 0x80 == 12 then 0x3F800000 else 0
  else if a == 0x120 then Config.testWord a &&& 0xFFFF0000
  else if 0x101000 ≤ a && a < 0x101400 then Config.testWord a
  else if 0xD8000 ≤ a && a < 0xD9000 then Config.testWord a
  else if 0xD0100 ≤ a && a < 0xD0180 then
    (Config.testWord a &&& 0xFF000000) |||
      (match regRow? a with | some r => r.resetWord &&& 0x00FFFFFF | none => 0)
  else if 0x100100 ≤ a && a < 0x100200 && (a - 0x100100) % 0x20 == 0xC then Config.testWord a
  else match regRow? a with
    | some r => r.resetWord
    | none => 0

end Sys2Proof.Machine
end

