-- ==== Sys2Proof/Machine/Flags.lean ====
section
/-! DEFINITION. What a read and a write do to a register's fields by their types (R4, R5), and the
predicates over status fields that many rules share. -/
namespace Sys2Proof.Machine

/-- A field row as a field of the register at `a`. -/
def FieldRow.at (f : FieldRow) (a : Nat) : RF := ⟨a, f.hi, f.lo⟩

/-- One field of a word after a write of `new` (R4): RW takes the new bits, W1C clears the bits
written as 1, the other types keep the old ones. -/
def FieldRow.afterWrite (f : FieldRow) (new old : W32) : W32 :=
  match f.type with
  | .rw => (f.at 0).write ((f.at 0).read new) old
  | .w1c => (f.at 0).write ((f.at 0).read (old &&& ~~~new)) old
  | .ro | .rc | .ws => old

/-- A register's word after a write (R4). Reserved bits belong to no field and stay (R5). -/
def RegRow.afterWrite (r : RegRow) (new old : W32) : W32 :=
  r.fields.foldl (fun w f => f.afterWrite new w) old

/-- A register's word after a read (R4): RC fields restart at their reset value. -/
def RegRow.afterRead (r : RegRow) (old : W32) : W32 :=
  r.fields.foldl (fun w f => match f.type with
    | .rc => (f.at 0).write f.rst w
    | .ro | .rw | .w1c | .ws => w) old

/-- The W1C bits of a register. -/
def RegRow.w1cMask (r : RegRow) : W32 :=
  r.fields.foldl (fun w f => match f.type with
    | .w1c => w ||| (f.at 0).mask
    | .ro | .rw | .rc | .ws => w) 0

end Sys2Proof.Machine
end

