-- ==== Sys2Proof/Machine/Operands.lean ====
section
/-! DEFINITION. The word layouts of records, packets and markers: how fields are read from words
and how words are made from fields. -/
namespace Sys2Proof.Machine

/-! ### Records (R353) -/

/-- Identity of a record stream (R354): 256 times TYPE plus SOURCE. -/
def streamKey (type source : Nat) : Nat := 256 * type + source

/-- The stream a record belongs to. -/
def recKey (r : Rec) : Nat := streamKey r.type.toNat r.source.toNat

/-- A record's header words and payload. -/
def recWords (r : Rec) : List W64 :=
  packWord [(r.type.toNat, 60, 4), (r.fver.toNat, 56, 4), (r.unit.toNat, 50, 6),
    (r.source.toNat, 42, 8), (r.payload.length, 32, 10), (r.seq.toNat, 0, 32)] ::
  packWord [(r.tick.toNat, 16, 48), (r.fine.toNat, 6, 10), (b2n r.trial, 5, 1),
    (b2n r.holdover, 4, 1), (b2n r.fault, 3, 1), (b2n r.ovf, 2, 1), (b2n r.late, 1, 1),
    (b2n r.cont, 0, 1)] :: r.payload

/-- The record that two header words and a payload spell. -/
def recOfWords : List W64 → Option Rec
  | h0 :: h1 :: p => some
      { type := BitVec.ofNat 4 (bits h0 63 60), fver := BitVec.ofNat 4 (bits h0 59 56)
        unit := BitVec.ofNat 6 (bits h0 55 50), source := BitVec.ofNat 8 (bits h0 49 42)
        seq := BitVec.ofNat 32 (bits h0 31 0), tick := BitVec.ofNat 48 (bits h1 63 16)
        fine := BitVec.ofNat 10 (bits h1 15 6), trial := bitOf h1 5, holdover := bitOf h1 4
        fault := bitOf h1 3, ovf := bitOf h1 2, late := bitOf h1 1, cont := bitOf h1 0
        payload := p }
  | _ => none

/-- Grains that an item of `n` words occupies (R369). -/
def grainsOf (n : Nat) : Nat := (n + 7) / 8

/-- Grains of an item. -/
def itemGrains (i : Item) : Nat := grainsOf i.words.length

/-- Grains of a record at Sewing (R364). -/
def recGrains (r : Rec) : Nat := grainsOf (2 + r.payload.length)

/-! ### Packets (R421) -/

def c0Cver (w : W64) : Nat := bits w 63 60
def c0Opcode (w : W64) : Nat := bits w 59 52
def c0More (w : W64) : Bool := bitOf w 51
def c0NoReply (w : W64) : Bool := bitOf w 50
def c0Order (w : W64) : Bool := bitOf w 49
def c0Unit (w : W64) : Nat := bits w 47 42
def c0Group (w : W64) : Bool := bitOf w 41
def c0Tag (w : W64) : Nat := bits w 31 16
def c0Len (w : W64) : Nat := bits w 15 0

/-- C0 of a command with all its parameter words, whose LEN is below 512. -/
def c0Of (op : Nat) (c : Cmd) : W64 :=
  packWord [(c.cver.toNat, 60, 4), (op, 52, 8), (b2n c.noReply, 50, 1), (b2n c.order, 49, 1),
    (c.unit.toNat, 42, 6), (b2n c.group, 41, 1), (c.tag.toNat, 16, 16), (c.p.length, 0, 16)]

/-- The command of C0 and its parameter words; CVER 3 ignores [51:48] and [41] (R424). -/
def cmdOf (c0 : W64) (p : List W64) : Cmd :=
  let native := c0Cver c0 != 3
  { cver := BitVec.ofNat 4 (c0Cver c0), noReply := native && c0NoReply c0
    order := native && c0Order c0, group := native && c0Group c0
    unit := BitVec.ofNat 6 (c0Unit c0), tag := BitVec.ofNat 16 (c0Tag c0), p := p }

/-- Parameter word `i` of a command, 0 where it has none (LEN checks come first, R514). -/
def param (c : Cmd) (i : Nat) : W64 := c.p.getD i 0

/-! ### Statuses (R433) -/

def stOk : Nat := 0
def stStateConflict : Nat := 1
def stBadParam : Nat := 2
def stUnknownOp : Nat := 3
def stBusy : Nat := 4
def stVersion : Nat := 5
def stTimedOut : Nat := 6
def stPartial : Nat := 7
def stDataError : Nat := 8
def stAbsent : Nat := 9
def stRefused : Nat := 10
def stLimit : Nat := 11

/-! ### Unit states (R30) and power domains (R486) -/

def usOff : Nat := 0
def usBoot : Nat := 1
def usReady : Nat := 2
def usActive : Nat := 3
def usFault : Nat := 4

def dAON : Nat := 1
def dCORE : Nat := 2
def dATSQ : Nat := 3
def dLOAM : Nat := 4
def dCAPMEM : Nat := 5
def dTK (k : Nat) : Nat := 6 + k
def dFA (k : Nat) : Nat := 10 + k
def dSP (k : Nat) : Nat := 14 + k
def dPCV : Nat := 16
def dPAT : Nat := 17
def dDEMOD : Nat := 18
def dCTRL : Nat := 19
def dAO (k : Nat) : Nat := 20 + k
def dLIGHT : Nat := 22
def dPLL : Nat := 23
def dLSPINE : Nat := 24
def dLFORE : Nat := 25
def dLMATE : Nat := 26

/-- Mode bits (R33). -/
def mSURVEY : Nat := 0
def mLISTEN : Nat := 1
def mPROBE : Nat := 2
def mREGULATE : Nat := 3
def mLIGHT : Nat := 4
def mMIRROR : Nat := 5

end Sys2Proof.Machine
end

