-- ==== Sys2Proof/Machine/Ops.lean ====
section
/-! DEFINITION. The shared operations: registers, modes and domains, free values, the Loam pool,
event sources, records, replies and the tick counter. -/
namespace Sys2Proof.Machine

/-! ### Registers -/

/-- The word of the register at an address. -/
def State.rd (s : State) (a : Nat) : W32 := sparseGet s.regs a (resetWord a)

/-- Sets the word of the register at an address. -/
def State.wr (s : State) (a : Nat) (v : W32) : State :=
  { s with regs := sparsePut s.regs a v (resetWord a) }

/-- A field's value. -/
def State.get (s : State) (f : RF) : Nat := f.read (s.rd f.addr)

/-- A field of one bit as a Boolean. -/
def State.bit (s : State) (f : RF) : Bool := s.get f != 0

/-- Sets a field, the value taken modulo its range. -/
def State.put (s : State) (f : RF) (v : Nat) : State := s.wr f.addr (f.write v (s.rd f.addr))

/-- Sets a field of one bit. -/
def State.putB (s : State) (f : RF) (b : Bool) : State := s.put f (b2n b)

/-- Adds to a counter that stops at its largest value. -/
def State.bump (s : State) (f : RF) (n : Nat := 1) : State :=
  s.put f (saturate f.width (s.get f + n))

/-- Sets bit `k` of a field that is a set of bits. -/
def State.mark (s : State) (f : RF) (k : Nat) : State := s.put f (s.get f ||| 1 <<< k)

/-- Clears bit `k` of a field that is a set of bits. -/
def State.unmark (s : State) (f : RF) (k : Nat) : State :=
  if (s.get f).testBit k then s.put f (s.get f - 2 ^ k) else s

/-- Bit `k` of a field that is a set of bits. -/
def State.has (s : State) (f : RF) (k : Nat) : Bool := (s.get f).testBit k

/-- Puts every register of an address range back at its reset value (R7, R487). -/
def State.resetRegs (s : State) (lo hi : Nat) : State :=
  { s with regs := s.regs.filter (fun c => !(lo ≤ c.1 && c.1 < hi)) }

/-- Applies `f` where `c` holds. -/
def State.when (s : State) (c : Bool) (f : State → State) : State := if c then f s else s

/-! ### The parts of the state -/

def State.modTb (s : State) (f : TimeBase → TimeBase) : State := { s with tb := f s.tb }
def State.modEv (s : State) (f : Events → Events) : State := { s with ev := f s.ev }
def State.modLoam (s : State) (f : Loam → Loam) : State := { s with loam := f s.loam }
def State.modSew (s : State) (f : Sewing → Sewing) : State := { s with sew := f s.sew }
def State.modTrg (s : State) (f : Trigger → Trigger) : State := { s with trg := f s.trg }
def State.modPat (s : State) (f : Pattern → Pattern) : State := { s with pat := f s.pat }
def State.modLight (s : State) (f : Lighting → Lighting) : State := { s with light := f s.light }
def State.modAtq (s : State) (f : Atesque → Atesque) : State := { s with atq := f s.atq }
def State.modCus (s : State) (f : Custody → Custody) : State := { s with cus := f s.cus }
def State.modPwr (s : State) (f : Power → Power) : State := { s with pwr := f s.pwr }
def State.modPins (s : State) (f : Pins → Pins) : State := { s with pins := f s.pins }

/-! ### Entries of the numbered parts -/

def State.tkOf (s : State) (c : Nat) : TkChan := s.tk.getD c {}
def State.modTk (s : State) (c : Nat) (f : TkChan → TkChan) : State :=
  { s with tk := s.tk.modify c f }
def State.faOf (s : State) (c : Nat) : FaChan := s.fa.getD c {}
def State.modFa (s : State) (c : Nat) (f : FaChan → FaChan) : State :=
  { s with fa := s.fa.modify c f }
def State.dmOf (s : State) (d : Nat) : Demod := s.dm.getD d {}
def State.modDm (s : State) (d : Nat) (f : Demod → Demod) : State :=
  { s with dm := s.dm.modify d f }
def State.spOf (s : State) (p : Nat) : SpPort := s.sp.getD p {}
def State.modSp (s : State) (p : Nat) (f : SpPort → SpPort) : State :=
  { s with sp := s.sp.modify p f }
def State.pcOf (s : State) (k : Nat) : PcCore := s.pc.getD k {}
def State.modPc (s : State) (k : Nat) (f : PcCore → PcCore) : State :=
  { s with pc := s.pc.modify k f }
def State.ceOf (s : State) (m : Nat) : Loop := s.ce.getD m {}
def State.modCe (s : State) (m : Nat) (f : Loop → Loop) : State :=
  { s with ce := s.ce.modify m f }
def State.svOf (s : State) (c : Nat) : SieveChan := s.sieve.getD c {}
def State.modSv (s : State) (c : Nat) (f : SieveChan → SieveChan) : State :=
  { s with sieve := s.sieve.modify c f }
def State.gxOf (s : State) (n : Nat) : GxPort := s.gx.getD n {}
def State.modGx (s : State) (n : Nat) (f : GxPort → GxPort) : State :=
  { s with gx := s.gx.modify n f }
def State.strOf (s : State) (n : Nat) : LString := s.light.strings.getD n {}
def State.modStr (s : State) (n : Nat) (f : LString → LString) : State :=
  (s.modLight (fun x => { x with strings := s.light.strings.modify n f }))
def State.mkOf (s : State) (c : Nat) : MChain := s.light.chains.getD c {}
def State.modMk (s : State) (c : Nat) (f : MChain → MChain) : State :=
  (s.modLight (fun x => { x with chains := s.light.chains.modify c f }))
def State.tbPort (s : State) (n : Nat) : TbPort := s.tb.ports.getD n {}
def State.modTbPort (s : State) (n : Nat) (f : TbPort → TbPort) : State :=
  (s.modTb (fun x => { x with ports := s.tb.ports.modify n f }))

/-! ### Memories: patch RAM, capture memory, vector memory -/

/-- What a byte that nothing has written reads as: the marker word GAP in capture memory (R132,
log entry 5), 0 elsewhere. -/
def memReset (a : Nat) : BitVec 8 :=
  if 0x400000 ≤ a && a < 0x800000 && a % 2 == 0 then 3 else 0

def State.memByte (s : State) (a : Nat) : BitVec 8 := sparseGet s.mem a (memReset a)

def State.setMemByte (s : State) (a : Nat) (b : BitVec 8) : State :=
  { s with mem := sparsePut s.mem a b (memReset a) }

/-- The 32-bit word at an address of memory, least significant byte first. -/
def State.memWord (s : State) (a : Nat) : W32 :=
  s.memByte (a + 3) ++ s.memByte (a + 2) ++ s.memByte (a + 1) ++ s.memByte a

def State.setMemWord (s : State) (a : Nat) (w : W32) : State :=
  (((s.setMemByte a (w.extractLsb' 0 8)).setMemByte (a + 1) (w.extractLsb' 8 8)).setMemByte (a + 2)
    (w.extractLsb' 16 8)).setMemByte (a + 3) (w.extractLsb' 24 8)

/-- The 16-bit word at an address of memory. -/
def State.memHalf (s : State) (a : Nat) : BitVec 16 := s.memByte (a + 1) ++ s.memByte a

def State.setMemHalf (s : State) (a : Nat) (w : BitVec 16) : State :=
  (s.setMemByte a (w.extractLsb' 0 8)).setMemByte (a + 1) (w.extractLsb' 8 8)

/-- The memory's canonical form. -/
abbrev Memory.wf (m : List Host.Cell) : Bool := sparseOk memReset m

/-! ### Unit state, modes, domains, custody -/

def State.now (s : State) : Tick := s.tb.tick

/-- The unit state (R30). -/
def State.unitState (s : State) : Nat := s.get MODE_STATUS_STATE

def State.readyOrActive (s : State) : Bool := s.unitState == usReady || s.unitState == usActive

/-- Mode bit `n` is in force (R33). -/
def State.modeOn (s : State) (n : Nat) : Bool := s.has MODE_STATUS_MASK n

def State.draining (s : State) (n : Nat) : Bool := s.has MODE_STATUS_DRAINING n

/-- The mode is on or draining. -/
def State.modeLive (s : State) (n : Nat) : Bool := s.modeOn n || s.draining n

/-- Domain `d` (R486) is on. -/
def State.domOn (s : State) (d : Nat) : Bool := s.has DOM_STAT_ON (d - 1)

def csSOLO : Nat := 0
def csSEEK : Nat := 1
def csACTIVE : Nat := 2
def csSYNC : Nat := 3
def csSTANDBY : Nat := 4
def csYIELDED : Nat := 5
def csLOST : Nat := 6

def State.cstate (s : State) : Nat := s.get CUS_STAT_CSTATE

/-- In every custody state but SOLO and ACTIVE the unit counts as a standby (R467). -/
def State.standby (s : State) : Bool := s.cstate != csSOLO && s.cstate != csACTIVE

/-- The unit's ID (R441). -/
def State.unitId (s : State) : Nat := s.get ENUM_STAT_ID

/-- The sampled ROLE strap, 11b acting as 00b (R464). -/
def State.role (s : State) : Nat := if s.get STRAP_ROLE == 3 then 0 else s.get STRAP_ROLE

/-! ### Free values -/

/-- A fresh open value and the state that has used it (log entry 4). -/
def State.fresh (s : State) : Nat × State :=
  (Config.fresh s.ev.free, (s.modEv (fun x => { x with free := s.ev.free + 1 })))

/-- Adds to a counter of which the spec says neither that it stops at its largest value nor that it
wraps: what it reads beyond that value is open (log entry 4). -/
def State.count (s : State) (f : RF) (n : Nat := 1) : State :=
  s.fresh.2.put f (if s.get f + n < 2 ^ f.width then s.get f + n else s.fresh.1)

/-- `num / den` rounded in a direction the spec leaves open; exact where it divides. -/
def State.roundOpen (s : State) (num : Int) (den : Nat) : Int × State :=
  if num % den == 0 then (num / den, s)
  else (num / den + (s.fresh.1 % 2 : Nat), s.fresh.2)

/-- `num / den` rounded to the nearest; a tie goes either way. -/
def State.roundNear (s : State) (num : Int) (den : Nat) : Int × State :=
  if (2 * num) % (2 * den) == den then (num / den + (s.fresh.1 % 2 : Nat), s.fresh.2)
  else ((2 * num + den) / (2 * den), s)

/-- Tick of a happening in the fabric: at most 8 ticks after it (R16). -/
def State.lagged (s : State) (t : Tick) : Tick × State :=
  (t + BitVec.ofNat 48 (s.fresh.1 % 9), s.fresh.2)

/-! ### Time beyond the 48 bits of the counter -/

/-- How far the counter has been stepped since it had been stepped `gen` times. -/
def State.steppedSince (s : State) (gen : Nat) : Int :=
  (s.tb.ks.take (s.tb.gen - gen)).foldl (· + ·) 0

/-- The moment of tick `t`, as the count stood after `gen` steps, in ticks since the counter started:
no step and no wrap moves it. `t` lies within 2^47 ticks of the present one. -/
def State.elapsedAt (s : State) (t : Tick) (gen : Nat := s.tb.gen) : Int :=
  s.tb.up + tickDiff t (s.now - BitVec.ofInt 48 (s.steppedSince gen))

/-- The moment of a stamp in fine units. -/
def State.elapsed (s : State) (st : Stamp) : Int := s.elapsedAt st.tick * 1024 + st.fine.toNat

/-- Tick `t` on the counter's scale carried on past 48 bits, for comparisons of ticks that lie further
apart than 2^47. -/
def State.wide (s : State) (t : Tick) : Int :=
  s.tb.up + s.steppedSince 0 + tickDiff t s.now

/-- Steps that had been applied at tick `t`, which is no later than the present one: a tick that the
present count had not reached at the last step, or has not reached yet, is one of the count before. -/
def State.genOf (s : State) (t : Tick) : Nat :=
  match s.tb.lastStep with
  | some (_, u) =>
    let m := s.elapsedAt t
    if m < u || (decide ((s.tb.up : Int) < m) && decide (s.elapsedAt t (s.tb.gen - 1) < u)) then
      s.tb.gen - 1
    else s.tb.gen
  | none => s.tb.gen

/-! ### Records (R353 to R357) -/

/-- The next sequence number of a stream. -/
def State.seqOf (s : State) (key : Nat) : W32 := sparseGet s.ev.seqs key 0

def State.setSeq (s : State) (key : Nat) (v : W32) : State :=
  (s.modEv (fun x => { x with seqs := sparsePut s.ev.seqs key v 0 }))

/-- The next record of the stream carries OVF (R353). -/
def State.markOvf (s : State) (key : Nat) : State :=
  (s.modEv (fun x => { x with ovf := if s.ev.ovf.contains key then s.ev.ovf else key :: s.ev.ovf }))

/-- TRACE at tick `t` of the count after `gen` steps: the value before the earliest change after it
(R68). -/
def State.traceAt (s : State) (t : Tick) (gen : Nat := s.tb.gen) : Bool :=
  s.tb.traceLog.foldl (fun b e => if s.elapsedAt t gen < e.1 then e.2 else b)
    (s.bit TB_STATUS_TRACE)

/-- TRACE takes a value at this tick (R68). -/
def State.setTrace (s : State) (b : Bool) : State :=
  let s := if b == s.bit TB_STATUS_TRACE then s
    else s.modTb (fun x => { x with
      traceLog := (x.up, s.bit TB_STATUS_TRACE) ::
        x.traceLog.filter (fun e => decide (x.up < e.1 + 2 ^ 47)) })
  s.putB TB_STATUS_TRACE b

/-- Makes a record: it takes its sequence number, HOLDOVER by TRACE at its stamp, which the count
after `gen` steps gave (R68), TRIAL while a trial action runs (R459), and OVF when its stream has
lost something. -/
def State.makeRec (s : State) (type source : Nat) (st : Stamp) (payload : List W64)
    (fault : Bool := false) (cont : Bool := false) (ovf : Bool := false)
    (gen : Nat := s.tb.gen) : Rec × State :=
  let key := streamKey type source
  ({ type := BitVec.ofNat 4 type, unit := BitVec.ofNat 6 s.unitId, source := BitVec.ofNat 8 source
     seq := s.seqOf key, tick := st.tick, fine := st.fine, trial := s.ev.trial
     holdover := !s.traceAt st.tick gen, fault := fault, ovf := ovf || s.ev.ovf.contains key
     cont := cont, payload := payload },
   { (s.setSeq key (s.seqOf key + 1)) with
     ev := { (s.setSeq key (s.seqOf key + 1)).ev with ovf := s.ev.ovf.filter (· != key) } })

/-! ### The Loam pool (R369 to R381) -/

def poolGrains : Nat := 32768

def State.queue (s : State) (q : Nat) : Queue := sparseGet s.loam.queues q {}

def State.setQueue (s : State) (q : Nat) (v : Queue) : State :=
  (s.modLoam (fun x => { x with queues := sparsePut s.loam.queues q v {} }))

def itemsGrains (l : List Item) : Nat := l.foldl (fun n i => n + itemGrains i) 0

def heldGrains (l : List HeldRec) : Nat := l.foldl (fun n h => n + recGrains h.r) 0

/-- LEVEL of a queue (R370); queue 0FFh is the Sewing hold (R372). -/
def State.level (s : State) (q : Nat) : Nat :=
  if q == 0xFF then heldGrains s.sew.held
  else itemsGrains (s.queue q).items

/-- DEPTH of a queue; that of 0FFh reads SEW_LIM.GRAINS (R372). -/
def State.depth (s : State) (q : Nat) : Nat :=
  if q == 0xFF then s.get SEW_LIM_GRAINS else s.get (Q_LIM_DEPTH q)

/-- Grains that all queues' items occupy. -/
def State.usedGrains (s : State) : Nat :=
  s.loam.queues.foldl (fun n e => n + itemsGrains e.2.items) 0 +
    heldGrains s.sew.held + heldGrains s.sew.urgent

/-- Free grains (LP_STAT.FREE). -/
def State.freeGrains (s : State) : Nat := poolGrains - s.loam.quar - s.usedGrains

/-- Sum of all reserves (LP_RSV.SUM). -/
def State.reserveSum (s : State) : Nat :=
  (List.range 256).foldl (fun n q => n + s.get (Q_RSV_RSV q)) 0

/-- Shared free space (R373). -/
def State.sharedGrains (s : State) : Int :=
  s.freeGrains - ((List.range 256).foldl (fun n q => n + (s.get (Q_RSV_RSV q) - s.level q)) 0 : Nat)

/-- What admission answers for an item of `n` grains (R373): nothing when it is admitted, else the
source its refusal raises (R374). -/
def State.admission (s : State) (q n : Nat) : Option Nat :=
  if !s.bit (Q_CFG_EN q) || s.depth q < s.level q + n then some 609
  else if s.sharedGrains < ((n - (s.get (Q_RSV_RSV q) - s.level q) : Nat) : Int) then some 610
  else none

/-- A source whose raises are limited to one per 12,500 ticks: whether it is raised now. -/
def State.limited (s : State) (src : Nat) : List Nat × State :=
  match s.ev.lastRaise.find? (fun e => e.1 == src) with
  | some e =>
    if s.tb.up < e.2 + 12500 then ([], s)
    else ([src], (s.modEv (fun x => { x with
      lastRaise := (src, s.tb.up) :: s.ev.lastRaise.filter (fun e => e.1 != src) })))
  | none => ([src], (s.modEv (fun x => { x with lastRaise := (src, s.tb.up) :: s.ev.lastRaise })))

/-- Quarantines grains and reports the excess of QUAR once (R380, R381). -/
def State.quarantine (s : State) (n : Nat) : List Nat × State :=
  let s := (s.modLoam (fun x => { x with quar := s.loam.quar + n }))
  if s.get LP_CFG_QLIM < s.loam.quar && !s.loam.qlimRaised then
    ([615], (s.modLoam (fun x => { x with qlimRaised := true })))
  else ([], s)

/-- The indices of an item's words with an uncorrectable error. -/
def Item.uncorrectable (i : Item) : List Nat :=
  (i.bad.filter (fun b => b.2 ≥ 2)).map (fun b => b.1)

/-- The indices of an item's words with an error that is corrected. -/
def Item.correctable (i : Item) : List Nat :=
  (i.bad.filter (fun b => b.2 == 1)).map (fun b => b.1)

/-- Grains of an item that hold an uncorrectable word. -/
def Item.badGrains (i : Item) : Nat := ((i.uncorrectable.map (fun k => k / 8)).eraseDups).length

/-- Checks every word of an item read out of queue `q` and releases its grains (R379, R380): the
sources to raise. -/
def State.readOut (s : State) (q : Nat) (it : Item) : List Nat × State :=
  let c := it.correctable.length
  let u := it.uncorrectable.length
  let s := s.when (c != 0) (fun s => (s.bump (Q_ECC_CORR q) c).bump LP_ECC_CORR c)
  let (l1, s) := if c != 0 then s.limited 612 else ([], s)
  let s := s.when (u != 0) (fun s =>
    ((s.bump (Q_ECC_UNCORR q) u).bump LP_ECC_UNCORR u).putB (Q_FLAG_UE q) true)
  let (l2, s) := s.quarantine it.badGrains
  (l1 ++ List.replicate u 613 ++ l2, s)

/-- The watermark source may be raised again once LEVEL has fallen to WM / 2 (R375). -/
def State.rearmWatermark (s : State) (q : Nat) : State :=
  if s.level q ≤ s.get (Q_LIM_WM q) / 2 then s.setQueue q { s.queue q with wmReady := true } else s

/-- Takes the oldest item out of a queue (R370). -/
def State.popItem (s : State) (q : Nat) : State :=
  (s.setQueue q { s.queue q with items := (s.queue q).items.tail }).rearmWatermark q

/-- A Q_READ item in a reply (R385): descriptor word, then the words. -/
def itemReply (it : Item) : List W64 :=
  packWord [(b2n (it.uncorrectable.length != 0), 63, 1), (it.words.length, 0, 11)] :: it.words

/-- The command's happening has come. -/
def Waits.isReady : Waits → Bool
  | .ready .. => true
  | _ => false

/-- Marks the pending command of a tag as ready to be answered (R429); the first happening
stands. -/
def State.answer (s : State) (tag : BitVec 16) (status detail : Nat) (body : List W64 := [])
    (hi : Nat := 0) (lo : Nat := 0) : State :=
  (s.modAtq (fun x => { x with pend := s.atq.pend.map (fun p =>
      if p.tag == tag && !p.waits.isReady then { p with waits := .ready status detail hi lo body }
      else p) }))

/-- A stalled Q_READ receives the item just appended (R377). -/
def State.wakeRead (s : State) (q : Nat) : List Nat × State :=
  match (s.queue q).stall, (s.queue q).items with
  | some st, it :: _ =>
    let s := s.popItem q
    let (l, s) := s.readOut q it
    let s := (s.setQueue q { s.queue q with stall := none }).putB (Q_FLAG_STALLED q) false
    (l, s.answer st.tag stOk 0 (itemReply it) 1 (s.level q))
  | _, _ => ([], s)

/-- PEAK and the watermark after an append (R375). -/
def State.afterAppend (s : State) (q : Nat) : List Nat × State :=
  let s := s.put (Q_FLAG_PEAK q) (max (s.get (Q_FLAG_PEAK q)) (s.level q))
  let wm := s.get (Q_LIM_WM q)
  if wm != 0 && wm ≤ s.level q && (s.queue q).wmReady then
    ([608], (s.putB (Q_FLAG_WMK q) true).setQueue q { s.queue q with wmReady := false })
  else ([], s)

/-- Sets TRIAL in a record's words (R450). -/
def trialWords : List W64 → List W64
  | h0 :: h1 :: p => h0 :: setBit h1 5 true :: p
  | w => w

/-- Stores an admitted item, with the errors of a pending TRIAL_ECC (R450). -/
def State.storeAdmitted (s : State) (q : Nat) (it : Item) : List Nat × State :=
  let hit := match s.loam.trialEcc with
    | some (tq, n) => if tq.toNat == q then some n else none
    | none => none
  let it := match hit with
    | some n => { it with
        bad := (0, n) :: it.bad
        words := if s.get (Q_CFG_CONS q) == 0 then trialWords it.words else it.words }
    | none => it
  let s := s.when hit.isSome (fun s =>
    ((s.modLoam (fun x => { x with trialEcc := none })).putB TR_STAT_ECC_PEND false).bump
      TR_STAT_ACTIONS)
  let s := s.setQueue q { s.queue q with items := (s.queue q).items ++ [it] }
  let (l1, s) := s.afterAppend q
  let (l2, s) := s.wakeRead q
  ((if hit.isSome then [703] else []) ++ l1 ++ l2, s)

/-- Offers an item to a queue (R373): whether it is admitted, and the sources to raise. -/
def State.storeItem (s : State) (q : Nat) (it : Item) : Bool × List Nat × State :=
  if !s.domOn dLOAM then (false, [], s)
  else match s.admission q (itemGrains it) with
    | some src => (false, [src], (s.putB (Q_FLAG_REFUSED q) true).bump (Q_CNT_REFCNT q))
    | none => (true, s.storeAdmitted q it)

/-! ### Event sources (R454 to R459) -/

/-- An input of a branch condition is on its way to the sequencer (R183, R198); one that has not
arrived in 64 ticks never will. -/
def State.branchInput (s : State) (i : BranchInput) : State :=
  s.modPat (fun x => { x with
    inputs := x.inputs.filter (fun e => decide (s.tb.up ≤ e.2 + 64)) ++ [(i, s.tb.up)] })

/-- The cause a custody-routed source stands for (R482). -/
def causeOfSource (src : Nat) : Cause :=
  if 8 ≤ src && src ≤ 11 then .pace else if src == 32 then .reference else .otherCus

/-- Latch and routes of a raise but its record (R456): a source that is off has no effect; a
standby's TRG and BR routes have none (R458). -/
def State.latchSource (s : State) (src : Nat) : State :=
  if !s.domOn dCORE || !s.bit (EV_SRC_EN src) then s
  else
    let s := s.mark (EV_LATCH_SRC (src / 32)) (src % 32)
    let s := s.when (s.bit (EV_SRC_CUS src)) (fun s =>
      (s.modCus (fun x => { x with raisedAt := some s.tb.up, causes := s.cus.causes ++ [causeOfSource src] })))
    let n := s.get (EV_SRC_TCOND src)
    let s := s.when (s.bit (EV_SRC_TRG src) && !s.standby && s.get (TC_CFG_TYPE n) == 7 &&
        s.bit (TC_CFG_EN n)) (fun s =>
      (s.modTrg (fun x => { x with routed := s.trg.routed ++ [(BitVec.ofNat 5 n, s.now)] })))
    s.when (s.bit (EV_SRC_BR src) && !s.standby) (fun s =>
      s.branchInput (.line (BitVec.ofNat 3 (s.get (EV_SRC_BLINE src)))))

/-- Whether a raise of the source makes an event record (R456, R458). -/
def State.recordsSource (s : State) (src : Nat) : Bool :=
  s.domOn dCORE && s.bit (EV_SRC_EN src) && s.bit (EV_SRC_REC src) && !s.standby

/-- Makes the event record of a raise and offers it to queue 0F1h (R459): the sources that storing
it raises. A record that is not taken marks its stream (R374). -/
def State.eventRecord (s : State) (src : Nat) : List Nat × State :=
  let (t, s) := s.lagged s.now
  let keep := s.ev.trial
  let s := (s.modEv (fun x => { x with trial := keep || src == 703 }))
  let (r, s) := s.makeRec 6 (src / 32) { tick := t }
    [packWord [(src, 54, 10), (s.get (EV_LATCH_SRC (src / 32)), 0, 32)]]
  let s := (s.modEv (fun x => { x with trial := keep }))
  let (ok, l, s) := s.storeItem 0xF1 { words := recWords r, gen := s.tb.gen }
  (l, if ok then s else s.markOvf (recKey r))

/-- Inserts a source number into an ascending list. -/
def insertSource (n : Nat) : List Nat → List Nat
  | [] => [n]
  | m :: rest => if n ≤ m then n :: m :: rest else m :: insertSource n rest

/-- Raises a source; raises that come from storing its record follow in ascending order (R457), to a
depth of `n` (log entry 8). -/
def State.raiseAt : Nat → State → Nat → State
  | 0, s, src => s.latchSource src
  | n + 1, s, src =>
    let s := s.latchSource src
    if s.recordsSource src then
      let (l, s) := s.eventRecord src
      (l.foldr insertSource []).foldl (fun s x => State.raiseAt n s x) s
    else s

/-- Raises an event source (R456); a reserved one is never raised (R455). -/
def State.raise (s : State) (src : Nat) : State :=
  if sourceReserved src then s else s.raiseAt 3 src

/-- Raises sources of one instant, in ascending order (R457). -/
def State.raiseAll (s : State) (l : List Nat) : State := (l.foldr insertSource []).foldl State.raise s

/-- Raises a source that is limited to one raise per 12,500 ticks. -/
def State.raiseLimited (s : State) (src : Nat) : State :=
  let (l, s) := s.limited src
  s.raiseAll l

/-! ### Publishing -/

/-- Offers an item to a queue and raises what that brings. -/
def State.offer (s : State) (q : Nat) (it : Item) : Bool × State :=
  let (ok, l, s) := s.storeItem q it
  (ok, s.raiseAll l)

/-- Queues a record that is lost when its queue refuses it; the next of its stream then carries OVF
(R374). Answers whether it was taken. -/
def State.publish (s : State) (q : Nat) (r : Rec) (gen : Nat := s.tb.gen) : Bool × State :=
  let (ok, s) := s.offer q { words := recWords r, gen := gen }
  (ok, if ok then s else s.markOvf (recKey r))

/-- Queues a record whose producer waits for room (R374). -/
def State.publishWait (s : State) (q : Nat) (r : Rec) (gen : Nat := s.tb.gen) : State :=
  let it : Item := { words := recWords r, gen := gen }
  let wait (s : State) : State :=
    (s.modLoam (fun x => { x with waiting := s.loam.waiting ++ [(BitVec.ofNat 8 q, it)] }))
  if s.loam.waiting.any (fun w => w.1.toNat == q) then wait s
  else
    let (ok, s) := s.offer q it
    if ok then s else wait s

/-- Pieces of at most `n` words; at least one piece. -/
def pieces (n : Nat) : Nat → List W64 → List (List W64)
  | 0, l => [l]
  | k + 1, l => if l.length ≤ n then [l] else l.take n :: pieces n k (l.drop n)

/-- Makes the records of a reply (R425): each repeats P0, CONT on all but the last. -/
def State.replyRecords (s : State) (p0 : W64) : List (List W64) → State
  | [] => s
  | b :: rest =>
    let (t, s) := s.lagged s.now
    let (r, s) := s.makeRec 8 0 { tick := t } (p0 :: b) false (!rest.isEmpty)
    (s.publishWait 0xF0 r).replyRecords p0 rest

/-- P0 of a reply (R425). -/
def replyP0 (tag : BitVec 16) (status detail hi lo : Nat) : W64 :=
  packWord [(status, 56, 8), (detail, 48, 8), (hi, 32, 16), (tag.toNat, 16, 16), (lo, 0, 16)]

/-- Replies to a command: source 2 for STATE_CONFLICT (R433, R52), no record for an OK reply under
NOREPLY (R426). -/
def State.reply (s : State) (tag : BitVec 16) (noReply : Bool) (status detail : Nat)
    (body : List W64 := []) (hi : Nat := 0) (lo : Nat := 0) : State :=
  let s := s.when (status == stStateConflict) (fun s => s.raise 2)
  if noReply && status == stOk then s
  else s.replyRecords (replyP0 tag status detail hi lo) (pieces 1022 body.length body)

/-! ### Epoch markers and the counter (R59 to R61) -/

/-- Sends an epoch marker stamped at the present tick or up to 8 ticks after it; EPOCH is the one in
force at the stamp, and `old` the epoch and counter that a step replaced (R60, R61). -/
def State.epochMarker (s : State) (reason : Nat) (t : Tick)
    (old : Option (BitVec 16 × Tick) := none) : State :=
  let e := if t.toNat < s.now.toNat then s.tb.epoch + 1 else s.tb.epoch
  let p0 := packWord [(e.toNat, 48, 16), (reason, 40, 8), (s.get TB_STATUS_ALIGN, 36, 4),
    (s.get TB_STATUS_TRACE, 35, 1)]
  let p1 := match old with
    | some (e, k) => [packWord [(e.toNat, 48, 16), (k.toNat, 0, 48)]]
    | none => []
  let (r, s) := s.makeRec 0 0 { tick := t } (p0 :: p1)
  s.publishWait 0xF2 r

/-- The counter counts to 0: the epoch increments, source 37, a WRAP marker (R59, R60, R81). -/
def State.wrapTick (s : State) : State :=
  let s := (s.modTb (fun x => { x with
    tick := 0, epoch := x.epoch + 1, up := x.up + (2 ^ 48 - x.tick.toNat) }))
  (s.epochMarker 1 0).raise 37

/-- Moves the counter forward to a tick that lies ahead of it; it stays where it is otherwise, and
while it has not started (R59, log entry 1). -/
def State.advanceTo (s : State) (t : Tick) : State :=
  if !s.tb.started || !tickLt s.tb.tick t then s
  else
    let s := s.when (decide (t.toNat < s.tb.tick.toNat)) State.wrapTick
    (s.modTb (fun x => { x with tick := t, up := x.up + (t - x.tick).toNat }))

/-- Moves the counter forward until `u` ticks have passed since it started. -/
def State.advanceUp (s : State) (u : Int) : State :=
  s.advanceTo (s.now + BitVec.ofNat 48 (u - s.tb.up).toNat)

/-! ### Unit state and pins -/

/-- Enters a unit state; source 0 on a change (R52). -/
def State.enterState (s : State) (n : Nat) : State :=
  if s.unitState == n then s else (s.put MODE_STATUS_STATE n).raise 0

end Sys2Proof.Machine
end

