-- ==== Sys2Proof/Machine/Circle.lean ====
section
/-! DEFINITION. Cosine, sine and argument of phases in units of 2^-32 turn (R204, R212, R215), worked
out to about 2^-66 by whole numbers; how a result is rounded is open (log entry 4). -/
namespace Sys2Proof.Machine

/-- The fixed point of the cosines: 2^72 stands for 1. -/
def circleUnit : Nat := 2 ^ 72

/-- 2 pi in units of 2^-72. -/
def twoPi : Nat := 29671503700283895162406

/-- The terms a^k / k! of the exponential series from `k` on, in units of 2^-72. -/
def powerTerms (a : Nat) : Nat → Nat → Nat → List Nat
  | 0, _, _ => []
  | n + 1, k, t => t :: powerTerms a n (k + 1) (t * a / (circleUnit * (k + 1)))

/-- The sum of j^k times the k-th of some terms: real and imaginary part. -/
def turnedSum : List Nat → Int × Int
  | [] => (0, 0)
  | t :: l => let r := turnedSum l; ((t : Int) - r.2, r.1)

/-- Cosine and sine of a phase below 2^29, an eighth of a turn. -/
def cosSinEighth (p : Nat) : Int × Int :=
  turnedSum (powerTerms (p * twoPi / 2 ^ 32) 24 0 circleUnit)

/-- Cosine and sine of a phase below 2^30, a quarter of a turn. -/
def cosSinQuarter (p : Nat) : Int × Int :=
  if p ≤ 2 ^ 29 then cosSinEighth p else ((cosSinEighth (2 ^ 30 - p)).2, (cosSinEighth (2 ^ 30 - p)).1)

/-- A complex value turned by `n` quarters. -/
def quarterTurns : Nat → Int × Int → Int × Int
  | 0, z => z
  | n + 1, z => quarterTurns n (-z.2, z.1)

/-- Cosine and sine of a phase in units of 2^-72. -/
def cosSin (p : Nat) : Int × Int :=
  quarterTurns (p / 2 ^ 30 % 4) (cosSinQuarter (p % 2 ^ 30))

/-- A complex value turned by a phase: each part rounded in an open direction where it is no whole
number. -/
def State.turn (s : State) (p : Nat) (z : Int × Int) : (Int × Int) × State :=
  let (c, k) := cosSin p
  let (re, s) := s.roundOpen (z.1 * c - z.2 * k) circleUnit
  let (im, s) := s.roundOpen (z.1 * k + z.2 * c) circleUnit
  ((re, im), s)

/-- The quarter a complex value lies in, and the value turned back into the first. -/
def firstQuarter (z : Int × Int) : Nat × (Int × Int) :=
  if 0 < z.1 ∧ 0 ≤ z.2 then (0, z)
  else if z.1 ≤ 0 ∧ 0 < z.2 then (1, (z.2, -z.1))
  else if z.1 < 0 ∧ z.2 ≤ 0 then (2, (-z.1, -z.2))
  else (3, (-z.2, z.1))

/-- The argument of a value of the first quarter, rounded down. -/
def argQuarter (z : Int × Int) : Nat :=
  if z.1 == z.2 then 2 ^ 29
  else (List.range 30).foldr (fun k n =>
    let e := cosSinQuarter (n + 2 ^ k)
    if 0 ≤ z.2 * e.1 - z.1 * e.2 then n + 2 ^ k else n) 0

/-- The argument of a complex value in units of 2^-32 turn; its fraction is rounded in an open
direction, and 0 has no argument. -/
def State.argument (s : State) (z : Int × Int) : Nat × State :=
  if z.1 == 0 && z.2 == 0 then (s.fresh.1 % 2 ^ 32, s.fresh.2)
  else
    let (q, w) := firstQuarter z
    let n := q * 2 ^ 30 + argQuarter w
    if w.2 == 0 || w.1 == w.2 then (n, s) else ((n + s.fresh.1 % 2) % 2 ^ 32, s.fresh.2)

end Sys2Proof.Machine
end

