-- ==== Sys2Proof/Machine/Domains.lean ====
section
/-! DEFINITION. Switching power domains on and off (R486 to R489): what a request starts; DOMAIN_UP,
DOMAIN_FAIL and DOMAIN_OFF finish it. -/
namespace Sys2Proof.Machine

def State.rising (s : State) (d : Nat) : Bool := s.pwr.rising.contains d
def State.falling (s : State) (d : Nat) : Bool := s.pwr.falling.contains d

/-- The domain is on or on its way to on. -/
def State.domComing (s : State) (d : Nat) : Bool :=
  s.rising d || s.pwr.again.contains d || (s.domOn d && !s.falling d)

/-- Inserts a domain number in rising order. -/
def insertAsc (d : Nat) : List Nat → List Nat
  | [] => [d]
  | x :: l => if d < x then d :: x :: l else if d == x then x :: l else x :: insertAsc d l

/-- Inserts a domain number in falling order. -/
def insertDesc (d : Nat) : List Nat → List Nat
  | [] => [d]
  | x :: l => if x < d then d :: x :: l else if d == x then x :: l else x :: insertDesc d l

/-- Asks for a domain to be on. One that is still powering down powers up again afterwards
(R489). -/
def State.askOn (s : State) (d : Nat) : State :=
  if s.falling d then (s.modPwr (fun x => { x with again := insertAsc d s.pwr.again }))
  else if s.domOn d then s
  else (s.modPwr (fun x => { x with rising := insertAsc d s.pwr.rising }))

/-- Asks for a domain to be off; one that has not qualified yet is no longer awaited. -/
def State.askOff (s : State) (d : Nat) : State :=
  let s := (s.modPwr (fun x => { x with
    rising := s.pwr.rising.filter (· != d), again := s.pwr.again.filter (· != d) }))
  if s.domOn d then (s.modPwr (fun x => { x with falling := insertDesc d s.pwr.falling })) else s

end Sys2Proof.Machine
end

