-- ==== Sys2Proof/Machine/Links.lean ====
section
/-! DEFINITION. States of the Grenyx ports (R405) and the happenings that move a port between them,
as far as the time base and the domains need them; the frames are in Grenyx. -/
namespace Sys2Proof.Machine

def gxDISABLED : Nat := 0
def gxDETECT : Nat := 1
def gxTRAIN : Nat := 2
def gxNEGOTIATE : Nat := 3
def gxUP : Nat := 4
def gxIDLE : Nat := 5
def gxRECOVER : Nat := 6
def gxREFUSED : Nat := 7

def State.gxState (s : State) (n : Nat) : Nat := s.get (GX_PSTAT_STATE n)

/-- The port is UP or IDLE (GX_STAT.UP). -/
def State.gxLive (s : State) (n : Nat) : Bool := s.gxState n == gxUP || s.gxState n == gxIDLE

/-- Domain of a port (R390). -/
def gxDomain (n : Nat) : Nat := if n == 0 then dLSPINE else if n == 4 then dLMATE else dLFORE

/-- HEAD as sampled (R53). -/
def State.isHead (s : State) : Bool := s.bit TB_STATUS_HEAD

/-- Whether this unit initiates training on a port (R390). -/
def State.gxInitiator (s : State) (n : Nat) : Bool :=
  if n == 0 then false else if n == 4 then s.role == 1 else true

/-- The head's spine is held in DETECT: SPINE_REF without LREF (R404). -/
def State.spineHeld (s : State) : Bool :=
  s.isHead && s.bit TB_CFG_SPINE_REF && !s.bit TB_STATUS_LREF_OK

/-- LFORE goes off without FSCAN as soon as no fore-edge port is UP or IDLE, and comes back with it
(R40, R411). -/
def State.foreCheck (s : State) : State :=
  if !s.readyOrActive then s
  else if s.bit GX_CFG_FSCAN then s.askOn dLFORE
  else if [1, 2, 3].any s.gxLive then s
  else s.askOff dLFORE

/-- 1 ms in ticks. -/
def msTicks : Nat := 1250000

/-- A resume may follow the move of a port to `dest`: one that leaves UP or IDLE may resume, and loses
that at a DETECT that comes more than 1 ms later (R410). -/
def GxPort.moves (g : GxPort) (up dest : Nat) (was : Bool) : GxPort :=
  if was then { g with since := up, canResume := true, left := up }
  else { g with
    since := up
    canResume := g.canResume && !(dest == gxDETECT && decide (g.left + msTicks < up)) }

/-- A port leaves for state `dest`: what leaving UP or IDLE brings (R405, R408, R420, R483). -/
def State.gxMove (s : State) (n dest : Nat) : State :=
  let was := s.gxLive n
  let s := (s.put (GX_PSTAT_STATE n) dest).modGx n (fun g => g.moves s.tb.up dest was)
  let s := (((s.put (GX_PSTAT_VER n) 0).putB (GX_PSTAT_IDLE n) false).put (PORT_STAT_VER n) 0)
  if !was then s
  else
    let s := s.when (dest == gxRECOVER || dest == gxDETECT) (fun s =>
      s.bump (GX_LINK_RETRAIN n))
    let s := s.raise (641 + 4 * n)
    let s := s.when (n == 4 && s.cus.joined) (fun s => s.raise 680)
    let s := s.when (n == 4) (fun s =>
      (s.modCus (fun x => { x with joined := false, frameClean := false })))
    s.when (n == 1 || n == 2 || n == 3) State.foreCheck

/-- The port starts: DISABLED to DETECT once enabled and its domain is on, an initiator once the
tick clock is locked too (R405). -/
def State.gxStart (s : State) (n : Nat) : State :=
  if s.gxState n == gxDISABLED && s.bit (GX_PCFG_EN n) && s.domOn (gxDomain n) &&
      (!s.gxInitiator n || s.bit TB_STATUS_PLL_LOCK) then
    s.gxMove n gxDETECT
  else s

/-- Retraining: to DETECT from any state but DISABLED (R404, R405). -/
def State.gxRetrain (s : State) (n : Nat) : State :=
  if s.gxState n == gxDISABLED then s
  else (s.gxMove n gxDETECT).modGx n (fun g => { g with rounds := 0, partner := none })

/-- EN = 0 or the domain off disables the port (R405). -/
def State.gxStop (s : State) (n : Nat) : State :=
  if s.gxState n == gxDISABLED then s else s.gxMove n gxDISABLED

end Sys2Proof.Machine
end

