-- ==== Sys2Proof/Machine/Nco.lean ====
section
/-! DEFINITION. Vectors, the NCO that times them, and the outputs on their way to the pins (R167 to
R173, R185, R191). -/
namespace Sys2Proof.Machine

/-! ### Vectors (R167 to R171) -/

/-- Where vector `v` sits in memory (R171). -/
def vecAddr (v : Nat) : Nat := 0x800000 + 16 * (v % 65536)

/-- Vector `v` of vector memory. -/
def State.vector (s : State) (v : Nat) : BitVec 128 :=
  s.memWord (vecAddr v + 12) ++ s.memWord (vecAddr v + 8) ++ s.memWord (vecAddr v + 4) ++
    s.memWord (vecAddr v)

def vecRate (v : BitVec 128) : BitVec 2 := v.extractLsb' 124 2
def vecRepeat (v : BitVec 128) : Nat := (v.extractLsb' 96 16).toNat
def vecShot (v : BitVec 128) : Bool := v.getLsbD 127
def vecEvt (v : BitVec 128) : Bool := v.getLsbD 126

/-- The state code of pin `n` (R167). -/
def vecPin (v : BitVec 128) (n : Nat) : BitVec 3 := v.extractLsb' (3 * n) 3

/-- What a stored word of a vector keeps of the bits written: the reserved ones stay 0 (R170). -/
def vecMask (a : Nat) : W32 := if a % 16 == 12 then 0xF000FFFF else 0xFFFFFFFF

/-! ### The NCO (R172, R173) -/

/-- INC of a rate, within its limits. -/
def State.inc (s : State) (r : BitVec 2) : Nat :=
  max 3436 (min 0x40000000 (s.get (PAT_RATE_INC r.toNat)))

/-- An instant of the pins: tick and step of 6.25 ps, a step of 128 carried into the tick. -/
def atStep (t : Tick) (k : Nat) : Tick × Nat := (t + BitVec.ofNat 48 (k / 128), k % 128)

/-- An instant moved by a number of steps. -/
def laterBy (i : Tick × Nat) (k : Nat) : Tick × Nat := atStep i.1 (i.2 + k)

/-- Instant `a` is before `b`. -/
def instantLt (a b : Tick × Nat) : Bool :=
  tickLt a.1 b.1 || (a.1 == b.1 && decide (a.2 < b.2))

/-- The next wrap of an accumulator that is `acc` at the start of tick `ref` (R173): the instant,
then the accumulator at the start of the tick after, and that tick. -/
def ncoWrap (acc : W32) (ref : Tick) (inc : Nat) : (Tick × Nat) × W32 × Tick :=
  let j := (2 ^ 32 - acc.toNat + inc - 1) / inc
  let a := acc.toNat + (j - 1) * inc
  let w := ref + BitVec.ofNat 48 (j - 1)
  (atStep w ((256 * (2 ^ 32 - a) + inc) / (2 * inc)), BitVec.ofNat 32 (a + inc - 2 ^ 32), w + 1)

/-- The first wrap whose start is at or after tick `g`. -/
def ncoFrom (acc : W32) (ref : Tick) (inc : Nat) (g : Tick) : (Tick × Nat) × W32 × Tick :=
  let n := if tickLt ref (g - 1) then (g - 1 - ref).toNat else 0
  let w := ncoWrap (BitVec.ofNat 32 (acc.toNat + n * inc)) (ref + BitVec.ofNat 48 n) inc
  if instantLt w.1 (g, 0) then ncoWrap w.2.1 w.2.2 inc else w

/-- The start that follows an output, with the accumulator after it: the one already fixed, the first
wrap that a gap may end at (R191), or the next wrap. -/
def State.startAfter (s : State) (o : VecOut) (acc : W32) (ref : Tick) :
    Option ((Tick × Nat) × W32 × Tick) :=
  match o.till with
  | some e => some ((e.1, e.2.1), e.2.2.1, e.2.2.2)
  | none =>
    if o.gap then o.resume.map (ncoFrom acc ref (s.inc o.rate))
    else some (ncoWrap acc ref (s.inc o.rate))

/-- The start that follows a run of outputs, oldest first. -/
def State.startAfterAll (s : State) (acc : W32) (ref : Tick) :
    List VecOut → Option ((Tick × Nat) × W32 × Tick)
  | [] => none
  | [o] => s.startAfter o acc ref
  | o :: rest => match s.startAfter o acc ref with
    | some (_, a, r) => s.startAfterAll a r rest
    | none => none

/-- The output at the pins and those issued after it. -/
def State.inFlight (s : State) : List VecOut :=
  match s.pat.cur with
  | some o => o :: s.pat.issued
  | none => []

/-- Start at the pins of the output to be issued next. -/
def State.dueStart (s : State) : Option ((Tick × Nat) × W32 × Tick) :=
  s.startAfterAll s.pat.acc s.pat.ref s.inFlight

/-- Starts at the pins of the outputs in `l` that are shots and are issued after those in `before`
(R170). -/
def State.comingShots (s : State) (before : List VecOut) : List VecOut → List (Tick × Nat)
  | [] => []
  | o :: l =>
    let rest := s.comingShots (before ++ [o]) l
    if !o.gap && !o.spoilt && o.rep == 0 && vecShot o.vec then
      match s.startAfterAll s.pat.acc s.pat.ref before with
      | some (i, _, _) => i :: rest
      | none => rest
    else rest

/-- Starts of the shots that are issued and not yet at the pins. -/
def State.shotsAhead (s : State) : List (Tick × Nat) :=
  match s.pat.cur with
  | some o => s.comingShots [o] s.pat.issued
  | none => []

end Sys2Proof.Machine
end

