-- ==== Sys2Proof/Machine/Claims.lean ====
section
/-! DEFINITION. PROBE's claims on fast and timekeeper channels, interleaved pairs and gate windows
(R42, R43, R46, R127, R202, R208), which triggering, capture, sampling and the demodulators share. -/
namespace Sys2Proof.Machine

/-- Fast channel `c` belongs to an interleaved pair (R127). -/
def State.paired (s : State) (c : Nat) : Bool := c < 32 && s.has FA_GCFG_ILV (c / 2)

/-- Channel `c` is the odd member of an interleaved pair. -/
def State.oddOfPair (s : State) (c : Nat) : Bool := s.paired c && c % 2 == 1

/-- The channel whose settings govern channel `c` (R127). -/
def State.faLead (s : State) (c : Nat) : Nat := if s.paired c then c / 2 * 2 else c

/-- The FA group domain of a channel (R486). -/
def faDomain (c : Nat) : Nat := dFA (c / 8)

/-- The TK group domain of a channel. -/
def tkDomain (c : Nat) : Nat := dTK (c / 16)

/-- The channel samples: EN and its FA domain, of channel 2k for a pair (R117, R132). -/
def State.faRuns (s : State) (c : Nat) : Bool :=
  let e := s.faLead c
  s.bit (FA_CFG_EN e) && s.domOn (faDomain e)

/-- PROBE's claim on fast channel `c` is in force (R42, R46). -/
def State.probeClaims (s : State) (c : Nat) : Bool :=
  s.modeLive mPROBE && s.has CLAIM_FA_CH c && !s.trg.claimWait.getLsbD c

/-- The channel is marked shared (R42). -/
def State.shared (s : State) (c : Nat) : Bool := s.has CLAIM_SHARE_CH c

def State.faExclusive (s : State) (c : Nat) : Bool := s.probeClaims c && !s.shared c

/-- PROBE's claim on timekeeper channel `c` (R42). -/
def State.tkClaimed (s : State) (c : Nat) : Bool :=
  if c < 32 then s.probeClaims c else s.modeLive mPROBE && s.has CLAIM_HIT_CH (c - 32)

/-- CLAIM_SHARE marks channels 0 to 31 only (log entry 12). -/
def State.tkExclusive (s : State) (c : Nat) : Bool :=
  s.tkClaimed c && !(c < 32 && s.shared c)

/-- Demodulator `d` runs (R202). -/
def State.dmRuns (s : State) (d : Nat) : Bool :=
  let c := s.get (DM_CFG_FA d)
  s.modeLive mPROBE && s.domOn dDEMOD && s.bit (DM_CFG_EN d) && s.probeClaims c && !s.oddOfPair c

/-- Tick `t` lies in [lo, hi) modulo 2^48. -/
def tickIn (t lo hi : Tick) : Bool := tickLe lo t && tickLt t hi

/-- Gates whose gate set is enabled. -/
def State.gateSet (s : State) (d : Nat) : List Nat :=
  (List.range 8).filter (fun g => s.bit (DM_GOPEN_EN d g))

/-- The time S of a shot for demodulator `d`: the wrap's tick and the step within it (R207). -/
def State.shotTime (s : State) (d : Nat) (t : Tick) (step : Nat) : Stamp :=
  Stamp.add { tick := t } (8 * step + 8 * s.get (PV_PIN_OFS (s.get (DM_CFG_PIN d))) : Nat)

/-- The gates of a shot (R208). -/
def State.openGates (s : State) (d : Nat) (shot : Stamp) : List Gate :=
  (s.gateSet d).map (fun g =>
    let lo := shot.tick + BitVec.ofNat 48 (s.get (DM_GOPEN_OPEN d g))
    { g := g, lo := lo, hi := lo + BitVec.ofNat 48 (max 1 (s.get (DM_GLEN_LEN d g))) })

/-- The gate windows of demodulator `d` in moments: those of its latest shots, and those of the shots
that are issued and not yet at the pins, which it takes once its open gates are over (R43, R208). -/
def State.gateWindows (s : State) (d : Nat) : List (Int × Int) :=
  let m := s.dmOf d
  let coming := (s.shotsAhead.map (fun i => s.shotTime d i.1 i.2)).filter (fun t =>
    m.gates.all (fun g => g.done || tickLe g.hi t.tick))
  m.windows ++ coming.flatMap (fun t => (s.openGates d t).map (fun g =>
    (s.elapsedAt g.lo, s.elapsedAt g.hi)))

/-- A PROBE gate window on channel `c`, widened by `ext` ticks at each end, holds tick `t`; the odd
member of a pair lies in the pair's windows (R43, R127, R208). -/
def State.inGate (s : State) (c ext : Nat) (t : Tick) : Bool :=
  let m := s.elapsedAt t
  (List.range 16).any (fun d => s.get (DM_CFG_FA d) == s.faLead c && s.bit (DM_CFG_EN d) &&
    (s.gateWindows d).any (fun w => decide (w.1 - ext ≤ m) && decide (m < w.2 + ext)))

/-- A condition on a shared channel is blind at tick `t` (R43). -/
def State.blanked (s : State) (c : Nat) (t : Tick) : Bool :=
  s.probeClaims c && s.shared c && s.inGate c (s.get CLAIM_BLANK_EXT) t

/-- The post-trigger part of a fired window is open on channel `c` (R122): from the commit of its
gathering on, and not in a standby, whose gatherings have no cuts (DESIGN CHOICE, log entry 19). -/
def State.postOpen (s : State) (c : Nat) : Bool :=
  s.trg.gaths.any (fun g => g.cuts.contains (BitVec.ofNat 5 c) && tickIn s.now g.t0 g.hi)

/-- A gate window of a demodulator attached to channel `c` is open (R122). -/
def State.gateOpen (s : State) (c : Nat) : Bool :=
  (List.range 16).any (fun d => s.get (DM_CFG_FA d) == c && s.dmRuns d &&
    (s.dmOf d).gates.any (fun g => !g.done && tickIn s.now g.lo g.hi))

/-- Loop `m` takes an input of kind `ty` from unit `sel` (R286, R289). -/
def State.loopTakes (s : State) (m ty sel : Nat) : Bool :=
  (s.get (LOOP_IN_ITYPE m) == ty && s.get (LOOP_IN_ISEL m) == sel) ||
    (s.bit (LOOP_STRUCT_FFEN m) && s.get (LOOP_FFIN_ITYPE m) == ty &&
      s.get (LOOP_FFIN_ISEL m) == sel)

/-! ### Register writes -/

/-- What a failed write leaves beside its status: PATCH_CTL.ERR (R447). -/
inductive WriteMark where
  | nothing
  | patchErr
  deriving DecidableEq, Repr

/-- A register write: refused with status, DETAIL and what it leaves, or the state after it. -/
abbrev WriteResult := Except (Nat × Nat × WriteMark) State

def refuseWrite (status detail : Nat) : WriteResult := .error (status, detail, .nothing)

/-- Sets a register's fields by their types (R4): the write of a register with no rule of its
own. An address at which no register stands ignores it (R439). -/
def State.plainWrite (s : State) (a : Nat) (v : W32) : State :=
  match regRow? a with
  | some r => s.wr a (r.afterWrite v (s.rd a))
  | none => s

/-- The word a plain write would leave. -/
def State.wouldBe (s : State) (a : Nat) (v : W32) : W32 :=
  match regRow? a with
  | some r => r.afterWrite v (s.rd a)
  | none => 0

/-- The state after a write that a command row brings alone: a refused write changes nothing but
its mark's owner, which the register path sets. -/
def WriteResult.orKeep (r : WriteResult) (s : State) : State :=
  match r with
  | .ok t => t
  | .error _ => s

/-- Fields of a register that a write changes. -/
def State.changes (s : State) (f : RF) (v : W32) : Bool :=
  f.read (s.wouldBe f.addr v) != s.get f

end Sys2Proof.Machine
end

