-- ==== Sys2Proof/Machine/Timekeeper.lean ====
section
/-! DEFINITION. Timekeeper (R82 to R112): stamping, hits and hit blocks, intervals, grading. -/
namespace Sys2Proof.Machine

/-- The channel sees edges (R82, R83). -/
def State.seesEdges (s : State) (c : Nat) : Bool :=
  s.bit (CH_CFG_EN c) && s.domOn (tkDomain c) &&
    (if c < 32 then s.get (CH_CFG_SRC c) == 0 && s.bit (FA_CFG_EN c) && s.domOn (faDomain c) &&
        !s.oddOfPair c
     else s.get (CH_CFG_SRC c) != 3)

/-- A RESET interval is in progress on fast channel `c` (R120). -/
def State.inReset (s : State) (c : Nat) : Bool := (s.faOf c).resetEnd.isSome

/-- SLOPE is both (R85). -/
def State.slopeBoth (s : State) (c : Nat) : Bool := s.get (CH_CFG_SLOPE c) == 2

/-- An active crossing in this direction is a leading edge under SLOPE (R85, R86). -/
def State.leads (s : State) (c : Nat) (falling : Bool) : Bool :=
  s.slopeBoth c || falling == (s.get (CH_CFG_SLOPE c) == 1)

/-- Word of a grading table entry: buffer, entry (R111). -/
def gradeEntry (c buf b : Nat) : RF :=
  if b % 2 == 0 then GRADE_TAB_EVEN c (64 * buf + b / 2) else GRADE_TAB_ODD c (64 * buf + b / 2)

/-- The stamp of an edge in tick `t` and raw bin `b` (R88). -/
def State.stampOf (s : State) (c : Nat) (t : Tick) (b : Nat) : Stamp :=
  Stamp.add { tick := t }
    (s.get (gradeEntry c (s.get (GRADE_STAT_BUF c)) b) - Config.pathDelay c +
      asSigned 16 (s.get (CH_TRIM_TRIM c)))

def maxWidth : Nat := 0x3FFFFF

/-- A width in fine units, saturated (R96). -/
def widthOf (d : Int) : BitVec 22 := BitVec.ofNat 22 (min maxWidth d.toNat)

/-- Gives the newest hit that still runs its width. -/
def endWidth (w : BitVec 22) : List Hit → List Hit
  | [] => []
  | [h] => [{ h with width := h.width.orElse (fun _ => some w) }]
  | h :: l => h :: endWidth w l

/-- Ends the width of a running hit at a stamp; the width is a time, which no step changes (R96). -/
def State.endHit (s : State) (c : Nat) (at_ : Stamp) : State :=
  match (s.tkOf c).run.getLast? with
  | some h => s.modTk c (fun k => { k with
      run := endWidth (widthOf (s.elapsed at_ - h.moment)) k.run })
  | none => s

/-- The channel stops seeing edges, or its discriminator is forced released: a running width ends
at the first instant of tick `t` (R83, R123). -/
def State.tkRelease (s : State) (c : Nat) (t : Tick) : State :=
  (s.endHit c { tick := t }).modTk c (fun k => { k with active := false })

/-- Channel `c` starts or stops between state `old` and the present one (R83): at a stop a running
width ends; at a start the input is taken as released, and edges count from the next tick on. -/
def State.tkFollow (old : State) (c : Nat) (s : State) : State :=
  if old.seesEdges c == s.seesEdges c then s
  else if s.seesEdges c then
    s.modTk c (fun k => { k with active := false, inj := [], since := s.tb.up })
  else (s.tkRelease c s.now).modTk c (fun k => { k with inj := [] })

/-- The same for several channels. -/
def State.tkFollowAll (old : State) (l : List Nat) (s : State) : State :=
  l.foldl (fun s c => old.tkFollow c s) s

/-- A write to CH_CFG. -/
def State.writeChCfg (s : State) (c : Nat) (v : W32) : State :=
  s.tkFollow c (s.plainWrite (CH_CFG c).addr v)

/-- A write to IV_CFG: a unit that is off has no interval open (log entry 16). -/
def State.writeIvCfg (s : State) (u : Nat) (v : W32) : State :=
  let s := s.plainWrite (IV_CFG u).addr v
  if s.bit (IV_CFG_EN u) then s
  else { s with iv := s.iv.modify u (fun _ => {}) }

/-! ### Intervals (R102 to R105) -/

/-- Payload of an interval record (R104). -/
def intervalWord (stop : Nat) (ovf extra : Bool) (coarse : Nat) (dfine : Int) : W64 :=
  packWord [(stop, 58, 6), (b2n ovf, 57, 1), (b2n extra, 56, 1), (coarse, 32, 24),
    (asCode 11 dfine, 21, 11)]

/-- Publishes an interval record and closes the interval; EN clears after one without CONT (R103,
R104). A standby publishes none (R48). A record that queue 0C0h refuses is lost, marks its stream with
OVF and is not counted (DESIGN CHOICE, log entry 43: R374 has no row for it). -/
def State.publishInterval (s : State) (u : Nat) (start : Stamp) (gen : Nat) (hold : Bool)
    (word : W64) : State :=
  let s := { s with iv := s.iv.modify u (fun v => { v with start := none, extra := false }) }
  let s := if s.bit (IV_CFG_CONT u) then s else s.putB (IV_CFG_EN u) false
  if s.standby then s
  else
    let (r, s) := s.makeRec 1 (0x40 + u) start [word] (gen := gen)
    let (ok, s) := s.publish 0xC0 { r with holdover := hold } gen
    s.when ok (fun s => s.count (IV_COUNT_COUNT u))

/-- No stop within 2^24 - 1 tick periods (R105; DEDUCED, log entry 43: the counter counts periods, so
a step does not change the interval). -/
def State.intervalOverflow (s : State) (u : Nat) : State :=
  let v := s.iv.getD u {}
  match v.start with
  | some (st, t, gen) =>
    let s := s.advanceUp (t + 0xFFFFFF)
    s.publishInterval u st gen v.hold (intervalWord (s.get (IV_CFG_STOP u)) true v.extra 0xFFFFFF 0)
  | none => s

/-- Unit `u` sees a stamped hit on channel `c` (R102, R103): it may stop the open interval, then
start one. -/
def State.intervalHit (c : Nat) (st : Stamp) (s : State) (u : Nat) : State :=
  if !s.bit (IV_CFG_EN u) || !s.domOn (dTK 0) && !s.domOn (tkDomain c) then s
  else
    let v := s.iv.getD u {}
    let isStart := s.get (IV_CFG_START u) == c
    let isStop := s.get (IV_CFG_STOP u) == c
    let t := s.elapsedAt st.tick
    let s := match v.start with
      | some (a, ta, gen) =>
        if isStop && (decide (ta < t) || t == ta && decide (a.fine < st.fine)) then
          if 0xFFFFFF < t - ta then s.intervalOverflow u
          else s.publishInterval u a gen (v.hold || !s.traceAt st.tick)
            (intervalWord c false v.extra (t - ta).toNat ((st.fine.toNat : Int) - a.fine.toNat))
        else if isStart then
          { s with iv := s.iv.modify u (fun v => { v with extra := true }) }
        else s
      | none => s
    if isStart && s.bit (IV_CFG_EN u) && (s.iv.getD u {}).start.isNone then
      { s with iv := s.iv.modify u (fun v =>
        { v with start := some (st, t, s.tb.gen), extra := false, hold := !s.traceAt st.tick }) }
    else s

/-! ### Leading edges (R86 to R91) -/

/-- The coarse hit of every open gate that names the channel (R213). -/
def State.gateHit (s : State) (c : Nat) (st : Stamp) : State :=
  (List.range 16).foldl (fun s d =>
    if s.get (DM_CFG_TKCH d) == c then
      s.modDm d (fun m => { m with gates := m.gates.map (fun g =>
        if !g.done && g.hit.isNone && tickIn st.tick g.lo g.hi then { g with hit := some st }
        else g) })
    else s) s

/-- An edge less than 2 ticks after an injected one: its hit carries pile-up and its FINE is only
held to 64 fine units (R91). -/
def State.nearInjection (s : State) (c : Nat) (t : Tick) : Bool :=
  (s.tkOf c).inj.any (fun e => decide (e.1 ≤ s.elapsedAt t ∧ s.elapsedAt t < e.1 + 2))

/-- An edge of any kind arrives in tick `t`; an injection of the last 32 ticks is spoiled (R89,
R90). -/
def State.sawEdge (s : State) (c : Nat) (t : Tick) (active : Bool) : State :=
  let e := s.elapsedAt t
  s.modTk c (fun k => { k with
    active := active, edge := some e
    inj := k.inj.map (fun i => (i.1, i.2.1, i.2.2 || decide (i.1 ≤ e ∧ e ≤ i.1 + 32))) })

/-- The engine calibrates the pin that this channel loops back (R177). -/
def State.calibrating (s : State) (c : Nat) : Bool :=
  match s.pat.cal with
  | some (pins, _) => 32 ≤ c && pins.getLsbD (c - 32)
  | none => false

/-- Stamps a leading edge of tick `t` (R88, R91, R96, R102). -/
def State.stampEdge (s : State) (c : Nat) (t : Tick) (st : Stamp) (falling pile : Bool) : State :=
  let s := s.when (s.slopeBoth c) (fun s => s.endHit c st)
  let h : Hit := { stamp := st, moment := s.elapsed st, came := s.elapsedAt t, falling := falling
                   pile := pile, hold := !s.traceAt st.tick, gen := s.tb.gen
                   cal := s.calibrating c }
  let s := s.modTk c (fun k => { k with last := some h.moment, run := k.run ++ [h] })
  let s := (s.count (HIT_CNT_COUNT c)).branchInput (.hit (BitVec.ofNat 6 c))
  let s := s.gateHit c st
  (List.range 16).foldl (State.intervalHit c st) s

/-- Sets the pile-up bit of the newest hit (R87). -/
def pileLast : List Hit → List Hit
  | [] => []
  | [h] => [{ h with pile := true }]
  | h :: l => h :: pileLast l

/-- A crossing toward active on a channel that sees edges, from the tick after its start on (R83 to
R91, R123). With SLOPE both a falling crossing leaves the input released (R85). -/
def State.leadingEdge (s : State) (c : Nat) (t : Tick) (bin : Nat) (falling : Bool) : State :=
  if !s.seesEdges c || decide (s.elapsedAt t ≤ (s.tkOf c).since) || (c < 32 && s.inReset c) ||
      !s.leads c falling || (!s.slopeBoth c && (s.tkOf c).active) then s
  else
    let s := s.advanceTo t
    let near := s.nearInjection c t
    let (f, s) := s.fresh
    let st := s.stampOf c t bin
    let st := if near then st.add ((f % 129 : Nat) - 64) else st
    let last := (s.tkOf c).last
    let s := s.sawEdge c t (!(s.slopeBoth c && falling))
    match last with
    | none => s.stampEdge c t st falling near
    | some l =>
      let d := s.elapsed st - l
      if d < s.get (CH_LEVEL_HOLDOFF c) * 1024 then
        s.count (HOLD_CNT_COUNT c)
      else if d < 12800 then
        (s.bump (LOSS_CNT_PILE_CNT c)).modTk c (fun k =>
          if k.run.isEmpty then { k with buf := pileLast k.buf } else { k with run := pileLast k.run })
      else s.stampEdge c t st falling near

/-- The release crossing ends the width of the stamped hit (R85, R96). -/
def State.releaseCrossing (s : State) (c : Nat) (t : Tick) (bin : Nat) : State :=
  if !s.seesEdges c || decide (s.elapsedAt t ≤ (s.tkOf c).since) || s.slopeBoth c ||
      (c < 32 && s.inReset c) then s
  else
    let s := s.advanceTo t
    (s.endHit c (s.stampOf c t bin)).sawEdge c t false

/-! ### Hit release and blocks (R97 to R101) -/

/-- The channel's hits are published (R101); a standby publishes none. A mode that drains still
publishes (DEDUCED from R46, log entry 43). -/
def State.publishesHits (s : State) (c : Nat) : Bool :=
  !s.standby &&
    ((s.modeLive mLISTEN && !s.tkExclusive c) ||
      (s.tkClaimed c && s.bit (CH_CFG_PROBE_REC c)))

/-- The oldest hit of the channel leaves for the island buffer, once its width is known or
saturated and 13 ticks have passed since its edge; a full buffer loses it (R97, R98). -/
def State.hitRelease (s : State) (c : Nat) : State :=
  match (s.tkOf c).run with
  | [] => s
  | h :: rest =>
    let full := decide ((maxWidth : Int) < s.tb.up * 1024 - h.moment)
    if h.width.isNone && !full then s
    else
      let s := s.advanceUp (h.came + 13)
      let h := { h with width := h.width.orElse (fun _ => some (BitVec.ofNat 22 maxWidth)) }
      let s := s.modTk c (fun k => { k with run := rest })
      if h.cal || !s.publishesHits c then s
      else if 64 ≤ (s.tkOf c).buf.length then
        ((s.bump (LOSS_CNT_LOST_CNT c)).markOvf (streamKey 1 c)).raise (64 + 2 * c)
      else s.modTk c (fun k => { k with buf := k.buf ++ [h] })

/-- A hit word (R355). -/
def hitWord (c : Nat) (first : Tick) (h : Hit) : W64 :=
  packWord [(c, 58, 6), (b2n h.falling, 57, 1), (b2n h.pile, 56, 1),
    ((h.stamp.tick - first).toNat, 32, 24), (h.stamp.fine.toNat, 22, 10),
    ((h.width.getD 0).toNat, 0, 22)]

/-- Closes the open block: its record is offered to the channel's queue, and waits when it is
refused (R98 to R101, R374). -/
def State.closeBlock (s : State) (c : Nat) : State :=
  match (s.tkOf c).block with
  | [] => s
  | h :: l =>
    let s := s.modTk c (fun k => { k with block := [] })
    let (r, s) := s.makeRec 1 c { tick := h.stamp.tick }
      ((h :: l).map (hitWord c h.stamp.tick)) (gen := h.gen)
    let it : Item := { words := recWords { r with holdover := h.hold }, gen := h.gen }
    let (ok, s) := s.offer (0x80 + c) it
    if ok then s else s.modTk c (fun k => { k with closed := some it })

/-- A closed block that waits finds room (R98, R374). -/
def State.retryBlock (s : State) (c : Nat) : State :=
  match (s.tkOf c).closed with
  | some it =>
    if (s.admission (0x80 + c) (itemGrains it)).isSome then s
    else
      let (ok, s) := s.offer (0x80 + c) it
      if ok then s.modTk c (fun k => { k with closed := none }) else s
  | none => s

/-- The next hit cannot join the open block (R100): offset, step, wrap or TRACE. -/
def blockEnds (first next : Hit) : Bool :=
  decide (0xFFFFFF < (next.stamp.tick - first.stamp.tick).toNat) || next.gen != first.gen ||
    decide (next.stamp.tick.toNat < first.stamp.tick.toNat) || next.hold != first.hold

/-- Assembly takes a hit from the buffer into the open block (R98, R100). -/
def State.hitAssemble (s : State) (c : Nat) : State :=
  match (s.tkOf c).closed, (s.tkOf c).buf with
  | none, h :: rest =>
    let ends := match (s.tkOf c).block with
      | f :: _ => blockEnds f h
      | [] => false
    let s := s.when ends (fun s => s.closeBlock c)
    if (s.tkOf c).closed.isSome then s
    else
      let s := s.modTk c (fun k => { k with buf := rest, block := k.block ++ [h] })
      if max 1 (s.get HB_CFG_MAXLEN) ≤ (s.tkOf c).block.length then s.closeBlock c else s
  | _, _ => s

/-- A block closes by a step, a wrap or a TRACE change, or else by age (R100). -/
def State.hitBlockClose (s : State) (c : Nat) : State :=
  match (s.tkOf c).closed, (s.tkOf c).block with
  | none, f :: _ =>
    let other := f.gen != s.tb.gen || f.hold == s.bit TB_STATUS_TRACE ||
      decide (s.now.toNat < f.stamp.tick.toNat)
    let s := if other then s
      else s.advanceUp (f.moment / 1024 + (max 1 (s.get HB_CFG_AGE) * 64 : Nat))
    s.closeBlock c
  | _, _ => s

/-- PROBE owns the channel's hits; LISTEN owns the others (R101). -/
def State.probeOwnsHits (s : State) (c : Nat) : Bool :=
  s.tkExclusive c || s.tkClaimed c && s.bit (CH_CFG_PROBE_REC c) && !s.modeLive mLISTEN

/-- Hits that LISTEN or PROBE, as `probe` says, has still to hand to the channels' queues (R46): run,
buffer, open block or a block that waits. -/
def State.hitsLeft (s : State) (probe : Bool) : Bool :=
  (List.range 64).any (fun c =>
    let k := s.tkOf c
    s.probeOwnsHits c == probe && s.publishesHits c &&
      (!k.run.isEmpty || !k.buf.isEmpty || k.closed.isSome))

/-- The owner mode has drained: its channels' open blocks close (R100). -/
def State.closeOwned (s : State) (probe : Bool) : State :=
  (List.range 64).foldl (fun s c =>
    if s.probeOwnsHits c == probe && (s.tkOf c).closed.isNone then s.closeBlock c else s) s

/-! ### Grading (R89 to R95, R106, R107) -/

/-- An injection attempt (R89). While TK_CFG.GRADE_EN is 0 none acts, GRADE pending or not (DESIGN
CHOICE, log entry 43). -/
def State.inject (s : State) (c : Nat) (t : Tick) (bin : BitVec 7) : State :=
  let k := s.tkOf c
  let m := s.elapsedAt t
  let quiet := match k.edge with
    | some e => decide (32 < m - e)
    | none => true
  if s.seesEdges c && s.bit TK_CFG_GRADE_EN && !k.active && quiet && decide (k.since < m) then
    (s.advanceTo t).modTk c (fun k => { k with inj := k.inj ++ [(m, bin, false)] })
  else s

def histTotal (h : List (Nat × Nat)) : Nat := h.foldl (fun n e => n + e.2) 0

/-- The table of a complete histogram (R92): twice the running total before each bin, in 1/64 fine
units over 2, is kept exact; a bin without samples takes the entry of the next one that has a
width. -/
def gradeTable (hist : List (Nat × Nat)) : List (Option Nat) :=
  let entry (b c : Nat) : Option Nat :=
    let n := sparseGet hist b 0
    if n == 0 then none else some ((2 * c + n + 64) / 128)
  let rows := (List.range 128).foldl (fun (acc : List (Option Nat) × Nat) b =>
    (acc.1 ++ [entry b acc.2], acc.2 + sparseGet hist b 0)) ([], 0)
  (rows.1.reverse.foldl (fun (acc : List (Option Nat) × Option Nat) e =>
    let e := e.orElse (fun _ => acc.2)
    (e :: acc.1, e)) ([], none)).1

/-- The table with an open entry for the bins that no bin with a width follows (log entry 13). -/
def State.closedTable (s : State) (t : List (Option Nat)) : List Nat × State :=
  let (f, s) := s.fresh
  (t.map (fun e => e.getD (f % 1024)), s)

/-- A pending GRADE hears that channel `c` has swapped or rejected (R107). -/
def State.gradeDone (s : State) (c : Nat) (swapped : Bool) : State :=
  s.modAtq (fun a => { a with pend := a.pend.map (fun p => match p.waits with
    | .grade todo done rej since =>
      if todo.getLsbD c then
        { p with waits := .grade (setBit todo c false)
                   (if swapped then setBit done c true else done) (rej || !swapped) since }
      else p
    | _ => p) })

/-- 32 ticks after an injection its bin is added, or discarded when an edge came (R90 to R93). -/
def State.gradeSample (s : State) (c : Nat) : State :=
  match (s.tkOf c).inj with
  | [] => s
  | (t, b, spoiled) :: rest =>
    let s := (s.advanceUp (t + 32)).modTk c (fun k => { k with inj := rest })
    if spoiled || !s.seesEdges c then s
    else
      let h := (s.tkOf c).hist
      let h := sparsePut h b.toNat (sparseGet h b.toNat 0 + 1) 0
      if histTotal h < 65536 then
        (s.modTk c (fun k => { k with hist := h })).put (GRADE_STAT_FILL c) (histTotal h)
      else
        let s := (s.modTk c (fun k => { k with hist := [] })).put (GRADE_STAT_FILL c) 0
        if h.any (fun e => decide (2048 < e.2)) then
          ((s.putB (GRADE_STAT_REJECT c) true).gradeDone c false).raise (65 + 2 * c)
        else
          let (t, s) := s.closedTable (gradeTable h)
          s.modTk c (fun k => { k with newTab := some t })

/-- Writes a table into a buffer of a channel. R92 gives 1,024 to a last bin of at most 64 samples,
which the 10 bits of an entry (R111) do not hold: such an entry is open (log entry 13). -/
def State.putTable (s : State) (c buf : Nat) (t : List Nat) : State :=
  let (f, s) := s.fresh
  (List.range 128).foldl (fun s b =>
    let e := t.getD b 0
    s.put (gradeEntry c buf b) (if e < 1024 then e else f)) s

/-- The accepted table swaps in at the next tick boundary (R94). -/
def State.tableSwap (s : State) (c : Nat) : State :=
  match (s.tkOf c).newTab with
  | none => s
  | some t =>
    let idle := 1 - s.get (GRADE_STAT_BUF c)
    let s := s.advanceTo (s.now + 1)
    let s := (s.putTable c idle t).modTk c (fun k => { k with newTab := none, fast := false })
    let s := (s.put (GRADE_STAT_BUF c) idle).put (GRADE_LAST_TICK_L c) s.now.toNat
    let s := (s.put (GRADE_STAT_SWAPS c) (s.get (GRADE_STAT_SWAPS c) + 1)).putB
      (GRADE_STAT_VALID c) true
    let s := s.gradeDone c true
    s.when (s.bit TK_CFG_SWAP_EVT) (fun s => s.raise (65 + 2 * c))

/-- GRADE after its general checks (R106, R107): a refusal, or the state in which it waits. The EN of
a channel whose domain is off reads 0, so the domain is looked at first (DEDUCED, log entry 43). -/
def State.gradeCmd (s : State) (c : Cmd) : (Nat × Nat) ⊕ State :=
  let chans := setBits (param c 0)
  let p1 := param c 1
  if chans.isEmpty then .inl (stBadParam, 0)
  else if chans.any (fun k => !s.domOn (tkDomain k)) then .inl (stStateConflict, 0x11)
  else if chans.any (fun k => !s.bit (CH_CFG_EN k)) then .inl (stBadParam, 0)
  else .inr (chans.foldl (fun s k =>
    let s := s.when (bitOf p1 1) (fun s =>
      (s.modTk k (fun t => { t with hist := [] })).put (GRADE_STAT_FILL k) 0)
    s.when (bitOf p1 0) (fun s => s.modTk k (fun t => { t with fast := true }))) s)

/-! ### The commands -/

def execLeadingEdge (c : BitVec 6) (t : Tick) (bin : BitVec 7) (falling : Bool) (s : State) :
    Host.Outcome State Fault Refusal :=
  .next (s.leadingEdge c.toNat t bin.toNat falling)

def execIntervalOverflow (u : BitVec 4) (s : State) : Host.Outcome State Fault Refusal :=
  .next (s.intervalOverflow u.toNat)

def execReleaseCrossing (c : BitVec 6) (t : Tick) (bin : BitVec 7) (s : State) :
    Host.Outcome State Fault Refusal :=
  .next (s.releaseCrossing c.toNat t bin.toNat)

def execHitRelease (c : BitVec 6) (s : State) : Host.Outcome State Fault Refusal :=
  .next (s.hitRelease c.toNat)

def execHitAssemble (c : BitVec 6) (s : State) : Host.Outcome State Fault Refusal :=
  .next (s.hitAssemble c.toNat)

def execHitBlockClose (c : BitVec 6) (s : State) : Host.Outcome State Fault Refusal :=
  .next (s.hitBlockClose c.toNat)

def execInjectionAttempt (c : BitVec 6) (t : Tick) (bin : BitVec 7) (s : State) :
    Host.Outcome State Fault Refusal :=
  .next (s.inject c.toNat t bin)

def execGradeSample (c : BitVec 6) (s : State) : Host.Outcome State Fault Refusal :=
  .next (s.gradeSample c.toNat)

def execTableSwap (c : BitVec 6) (s : State) : Host.Outcome State Fault Refusal :=
  .next (s.tableSwap c.toNat)

/-- GRADE_STALE (R95): MAXAGE seconds without a swap; 0 disables the check. A channel that sees no
edges does no grading and is not marked (DESIGN CHOICE, log entry 43). -/
def execGradeStale (c : BitVec 6) (s : State) : Host.Outcome State Fault Refusal :=
  .next (if s.get TK_CFG_MAXAGE == 0 || !s.seesEdges c.toNat then s
    else (s.putB (GRADE_STAT_STALE c.toNat) true).raise (65 + 2 * c.toNat))

end Sys2Proof.Machine
end

