-- ==== Sys2Proof/Machine/Echo.lean ====
section
/-! DEFINITION. Echo demodulators (R202 to R229): the chain, shots and gates, time of arrival,
averages, decisions and echo records. -/
namespace Sys2Proof.Machine

/-! ### The chain (R204 to R206) -/

/-- DEC as it acts (R205). -/
def State.dmDec (s : State) (d : Nat) : Nat := max 1 (min 64 (s.get (DM_CFG_DEC d)))

/-- FTW as it acts (R204). -/
def State.dmFtw (s : State) (d : Nat) : Nat :=
  min (s.get (DM_NCO_FTW d)) (if s.paired (s.get (DM_CFG_FA d)) then 0x40000000 else 0x20000000)

/-- Samples that enter one filter output: 64 CIC outputs of fourth order. -/
def State.dmSpan (s : State) (d : Nat) : Nat := 63 * s.dmDec d + 4 * (s.dmDec d - 1) + 1

/-- The exponent of the CIC's scale: the smallest e with 2^e at least DEC^4 (R205). -/
def cicShift (dec : Nat) : Nat :=
  ((List.range 25).find? (fun e => decide (dec ^ 4 ≤ 2 ^ e))).getD 24

/-- Four integrators in a row: their new values and the last one. -/
def integrate (v : Int × Int) : List (Int × Int) → List (Int × Int) × (Int × Int)
  | [] => ([], v)
  | i :: l =>
    let w := (i.1 + v.1, i.2 + v.2)
    ((w :: (integrate w l).1), (integrate w l).2)

/-- Four combs in a row: what they hold next and the last difference. -/
def combs (v : Int × Int) : List (Int × Int) → List (Int × Int) × (Int × Int)
  | [] => ([], v)
  | c :: l =>
    let w := (v.1 - c.1, v.2 - c.2)
    ((v :: (combs w l).1), (combs w l).2)

/-- Largest whole number whose square is at most `n`, below 2^40. -/
def isqrt (n : Nat) : Nat :=
  (List.range 40).foldr (fun k r => if (r + 2 ^ k) * (r + 2 ^ k) ≤ n then r + 2 ^ k else r) 0

/-- A magnitude, the rounding of the root open. -/
def State.rootOpen (s : State) (n : Nat) : Nat × State :=
  if isqrt n * isqrt n == n then (isqrt n, s) else (isqrt n + s.fresh.1 % 2, s.fresh.2)

/-- Tap i of a demodulator as a complex number (R228). -/
def State.tap (s : State) (d i : Nat) : Int × Int :=
  (asSigned 16 (s.get (DM_TAP_RE d i)), asSigned 16 (s.get (DM_TAP_IM d i)))

/-- The matched filter's sum over the newest 64 CIC outputs (R206). -/
def State.filterSum (s : State) (d : Nat) (line : List (Int × Int)) : Int × Int :=
  ((List.range 64).zip line).foldl (fun acc e =>
    let h := s.tap d e.1
    (acc.1 + h.1 * e.2.1 - h.2 * e.2.2, acc.2 + h.1 * e.2.2 + h.2 * e.2.1)) (0, 0)

/-- One filter output enters the gates that its label lies in (R208, R210, R211). -/
def gateTakes (t : Tick) (y : Int × Int) (spoil clip : Bool) (g : Gate) : Gate :=
  if g.done || !tickIn t g.lo g.hi then g
  else
    let mag (z : Int × Int) : Int := z.1 * z.1 + z.2 * z.2
    let better := match g.best with
      | some (_, z) => decide (mag z < mag y)
      | none => true
    { g with
      best := if better then some (g.count, y) else g.best
      count := g.count + 1, spoil := g.spoil || spoil, clip := g.clip || clip }

/-- What the chain holds before its first sample is open: 80 complex values. -/
def State.primeChain (s : State) (d : Nat) : State :=
  let v (k : Nat) : Int × Int :=
    ((Config.fresh (s.ev.free + 2 * k) : Nat), (Config.fresh (s.ev.free + 2 * k + 1) : Nat))
  (s.modDm d (fun m => { m with
    live := true, sinceFlag := 1000000, sinceClip := 1000000
    integ := (List.range 4).map v, comb := (List.range 4).map (fun k => v (k + 4))
    line := (List.range 64).map (fun k => v (k + 8)) })).modEv
    (fun e => { e with free := e.free + 144 })

/-- A running demodulator takes one sample: mixer, CIC, filter, gates. A flagged sample, RESET or
GAP, contributes nothing and spoils the gates it enters (R134, R211). -/
def State.dmSample (s : State) (d : Nat) (t : Tick) (w : BitVec 16) (gap : Bool) : State :=
  let s := if (s.dmOf d).live then s else s.primeChain d
  let m := s.dmOf d
  let flagged := gap || w.getLsbD 1
  let x : Int := if flagged then 0 else asSigned 14 (w.toNat / 4)
  let (mix, s) := if flagged then ((0, 0), s)
    else s.turn (2 ^ 32 - s.dmFtw d * t.toNat % 2 ^ 32) (x, 0)
  let dec := s.dmDec d
  let n := t.toNat / (if s.paired (s.get (DM_CFG_FA d)) then 2 else 4)
  let sinceFlag := if flagged then 0 else m.sinceFlag + 1
  let sinceClip := if w.getLsbD 0 && !gap then 0 else m.sinceClip + 1
  let (integ, top) := integrate mix m.integ
  let s := s.modDm d (fun m => { m with
    sinceFlag := sinceFlag, sinceClip := sinceClip, integ := integ })
  if n % dec != dec - 1 then s
  else
    let (comb, diff) := combs top m.comb
    let (re, s) := s.roundOpen diff.1 (2 ^ cicShift dec)
    let (im, s) := s.roundOpen diff.2 (2 ^ cicShift dec)
    let line := ((if dec == 1 then mix else (re, im)) :: m.line).take 64
    let sum := s.filterSum d line
    let (yr, s) := s.roundOpen sum.1 (2 ^ s.get (DM_FIR_SHIFT d))
    let (yi, s) := s.roundOpen sum.2 (2 ^ s.get (DM_FIR_SHIFT d))
    let span := s.dmSpan d
    s.modDm d (fun m => { m with
      comb := comb, line := line
      gates := m.gates.map (gateTakes t (yr, yi) (decide (sinceFlag < span))
        (decide (sinceClip < span))) })

/-! ### Time of arrival (R212 to R214) -/

/-- The phase-referred part of R212. `num / nh` is tau_c; answers TOF in 1/256 fine unit, RESID and
AMB. Values the spec does not state (FTW 0, a TOF outside its field) are open. -/
def State.arrival (s : State) (ftw pref phi : Nat) (num : Int) (nh : Nat) :
    (Nat × Nat × Bool) × State :=
  if ftw == 0 then
    let (a, s) := s.fresh
    let (b, s) := s.fresh
    let (c, s) := s.fresh
    ((a, b, c % 2 == 1), s)
  else
    let dp : Int := Int.ofNat ((pref + 2 ^ 32 - phi % 2 ^ 32) % 2 ^ 32) * 1024
    let n := num * ftw - dp * nh
    let k := (2 * n + 2 ^ 42 * nh) / (2 ^ 43 * nh)
    let (tof, s) := s.roundNear ((dp + k * 2 ^ 42) * 256) ftw
    let r := n - k * 2 ^ 42 * nh
    let (res, s) := s.roundOpen r (2 ^ 34 * nh)
    let (a, s) := s.fresh
    ((if 0 ≤ tof ∧ tof < 2 ^ 40 then tof.toNat else a, asCode 8 res,
      decide (3 * 2 ^ 42 * (nh : Int) < 8 * r.natAbs)), s)

/-- ftw x s / 2^10 of R212, its fraction rounded in an open direction. -/
def State.referral (s : State) (ftw : Nat) (shot : Stamp) : Nat × State :=
  let (p, s) := s.roundOpen (Int.ofNat (ftw * shot.units)) 1024
  ((p % 2 ^ 32).toNat, s)

/-- COFS as a signed number. -/
def State.cofs (s : State) (d : Nat) : Int := asSigned 32 (s.get (DM_COFS_COFS d))

/-- The result of a closed gate of a shot (R206, R210 to R214). A gate with no output has no peak,
so its values are open. -/
def State.gateResult (s : State) (d : Nat) (shot : Stamp) (g : Gate) : GateRes × State :=
  let (o1, s) := s.fresh
  let (o2, s) := s.fresh
  let (idx, y) := g.best.getD (o1, ((o2 : Int), (o1 : Int)))
  let (mag, s) := s.rootOpen (y.1 * y.1 + y.2 * y.2).toNat
  let (p, s) := s.referral (s.dmFtw d) shot
  let (a, s) := s.argument y
  let phi := (a + p) % 2 ^ 32
  let base : GateRes :=
    { g := g.g, spoil := g.spoil, clip := g.clip
      edge := if g.count == 0 then o2 % 2 == 1 else idx == 0 || idx + 1 == g.count
      mag := BitVec.ofNat 24 (saturate 24 mag), phase := BitVec.ofNat 32 phi
      peak := BitVec.ofNat 17 idx }
  match g.hit with
  | none => ({ base with nohit := true }, s)
  | some h =>
    let ((tof, res, amb), s) := s.arrival (s.dmFtw d) (s.get (DM_PREF_PREF d)) phi
      (stampDiff h shot - s.cofs d) 1
    ({ base with tof := BitVec.ofNat 40 tof, resid := BitVec.ofNat 8 res, amb := amb }, s)

/-! ### Decisions (R217 to R219) -/

/-- Q of a compare stage (R217). -/
def gateQuantity (qty : Nat) (r : GateRes) : Nat :=
  if qty == 0 then r.mag.toNat
  else if qty == 1 then r.phase.toNat
  else if qty == 2 then r.tof.toNat / 256
  else r.peak.toNat

/-- A stage's verdict with a window that may wrap (R217). -/
def inWindow (lo hi q : Nat) : Bool :=
  if lo ≤ hi then decide (lo ≤ q ∧ q ≤ hi) else decide (lo ≤ q ∨ q ≤ hi)

/-- Stage `k` reports on a result of demodulator `d`, or does not; the report goes to the sequencer
as decision line `k` (R217, R218). -/
def State.reportStage (d : Nat) (avg : Bool) (r : GateRes) (s : State) (k : Nat) : State :=
  if !s.bit (CMP_CFG_EN k) || s.get (CMP_CFG_DEMOD k) != d || s.get (CMP_CFG_GATE k) != r.g ||
      s.bit (CMP_CFG_AVG k) != avg || r.spoil || (r.nohit && s.get (CMP_CFG_QTY k) == 2) then s
  else
    let v := inWindow (s.get (CMP_LO_LO k)) (s.get (CMP_HI_HI k))
      (gateQuantity (s.get (CMP_CFG_QTY k)) r)
    let s := if v then (s.mark DM_LTRUE_LINES k).unmark DM_LFALSE_LINES k
      else (s.mark DM_LFALSE_LINES k).unmark DM_LTRUE_LINES k
    let s := if v then s.bump (CMP_CNT_TRUE_CNT k) else s.bump (CMP_CNT_FALSE_CNT k)
    (s.modDm d (fun m => if v then { m with lt := setBit m.lt k true }
      else { m with lf := setBit m.lf k true })).branchInput (.decision (BitVec.ofNat 5 k) v)

def State.reportAll (s : State) (d : Nat) (avg : Bool) (r : GateRes) : State :=
  (List.range 32).foldl (State.reportStage d avg r) s

/-! ### Records (R221 to R223) -/

/-- The words of one gate (R222); `gn16` is GN's top bit in an averaged record. -/
def gateWords (gn16 : Bool) (r : GateRes) : List W64 :=
  [packWord [(b2n r.spoil, 63, 1), (b2n r.clip, 62, 1), (b2n r.nohit, 61, 1), (b2n r.amb, 60, 1),
    (b2n r.edge, 59, 1), (b2n gn16, 58, 1), (r.mag.toNat, 32, 24), (r.phase.toNat, 0, 32)],
   packWord [(r.tof.toNat, 24, 40), (r.resid.toNat, 16, 8), (r.peak.toNat % 65536, 0, 16)]]

/-- TEMP, AGE and TFAULT of a shot: of the latest result that the port completed before the shot
tick (R221). -/
def State.tempAt (s : State) (d : Nat) (shot : Tick) : BitVec 24 × Nat × Bool :=
  let p := s.spOf (s.get (DM_TEMP_TPORT d))
  let m := s.elapsedAt shot
  match [p.last, p.before].find? (fun r => r.any (fun r => decide (r.done < m))) with
  | some (some r) =>
    if r.fault then (0x800000, 0xFFFFFF, true)
    else (r.value, if r.done + 2 ^ 40 < m then 0xFFFFFF else saturate 24 ((shot - r.tick).toNat / 64),
      false)
  | _ => (0x800000, 0xFFFFFF, true)

/-- The temperature word (R221). -/
def tempWord (t : BitVec 24 × Nat × Bool) : W64 :=
  packWord [(t.1.toNat, 40, 24), (t.2.1, 16, 24), (b2n t.2.2, 0, 1)]

/-- Publishes an echo record (R222, R223): `avg` for an averaged one. -/
def State.echoRecord (s : State) (d : Nat) (avg : Bool) (shot : Stamp) (no : W32) (n : Nat)
    (temp : BitVec 24 × Nat × Bool) (hold : Bool) (lt lf : W32) (slip : Nat × Tick × Tick)
    (gates : List GateRes) : Bool × State :=
  let tx := s.bit (DM_TEMP_TPEN d)
  let gates := ((List.range 8).map (fun g => gates.filter (fun r => r.g == g))).flatten
  let mask := gates.foldl (fun a r => a + 2 ^ r.g) 0
  let d0 := packWord [(no.toNat, 32, 32), (n % 65536, 16, 16), (mask, 8, 8),
    (b2n (slip.1 != 0), 7, 1), (b2n tx, 6, 1), (b2n (65536 ≤ n), 5, 1)]
  let d1 := packWord [(lt.toNat, 32, 32), (lf.toNat, 0, 32)]
  let sw := if slip.1 == 0 then [] else
    [packWord [(slip.2.1.toNat, 16, 48), (saturate 16 slip.1, 0, 16)],
     packWord [(slip.2.2.toNat, 16, 48)]]
  let tw := if tx then [tempWord temp] else []
  let gw := (gates.map (fun r => gateWords (avg && 65536 ≤ r.peak.toNat) r)).flatten
  let (r, s) := s.makeRec 4 (if avg then 16 + d else d) shot (d0 :: d1 :: (sw ++ tw ++ gw))
    (tx && temp.2.2)
  let s := s.modDm d (fun m => if avg then { m with slipA := (0, 0, 0) }
    else { m with slipS := (0, 0, 0) })
  let (ok, s) := s.publish (s.get (DM_OUT_QUEUE d)) { r with holdover := hold }
  if ok then (true, s) else (false, (s.putB (DM_STAT_LOST d) true).raise (448 + d))

/-! ### Averages (R215, R216) -/

/-- Keeps the two latest results of a gate for the loops (R290). -/
def keepResult (r : GateRes) (t : Tick) (l : List (GateRes × Tick)) : List (GateRes × Tick) :=
  (r, t) :: ((l.filter (fun e => e.1.g == r.g)).take 1 ++ l.filter (fun e => e.1.g != r.g))

/-- The averaged result of one gate (R215). -/
def State.averageResult (s : State) (d g : Nat) : GateRes × State :=
  let a := (s.dmOf d).sums.getD g {}
  if a.gn == 0 then ({ g := g, spoil := true, nohit := true }, s)
  else
    let (root, s) := s.rootOpen (a.re * a.re + a.im * a.im).toNat
    let (mag, s) := s.roundOpen root a.gn
    let (phi, s) := s.argument (a.re, a.im)
    let base : GateRes :=
      { g := g, spoil := false, clip := a.clip, mag := BitVec.ofNat 24 (saturate 24 mag.toNat)
        phase := BitVec.ofNat 32 phi, peak := BitVec.ofNat 17 a.gn }
    if a.nhit == 0 then ({ base with nohit := true }, s)
    else
      let ((tof, res, amb), s) := s.arrival (s.dmFtw d) (s.get (DM_PREF_PREF d)) phi a.tau a.nhit
      ({ base with tof := BitVec.ofNat 40 tof, resid := BitVec.ofNat 8 res, amb := amb }, s)

/-- An ambiguous gate (R214). -/
def State.ambiguous (s : State) (d : Nat) (r : GateRes) : State :=
  if r.amb then (s.putB (DM_STAT_AMBIG d) true).raise (448 + d) else s

/-- Publishes the running average with the shots it holds and starts again from zero (R215, R216,
R229). Without a shot nothing is published. -/
def State.publishAverage (s : State) (d : Nat) : State :=
  let m := s.dmOf d
  match m.avgFirst with
  | none => s
  | some (shot, no) =>
    let s := s.modDm d (fun m => { m with lt := 0, lf := 0 })
    let (res, s) := (s.gateSet d).foldl (fun (acc : List GateRes × State) g =>
      let (r, s) := acc.2.averageResult d g
      (acc.1 ++ [r], (s.ambiguous d r).reportAll d true r)) ([], s)
    let s := s.modDm d (fun m => { m with
      average := res.foldl (fun l r => keepResult r s.now l) m.average })
    let a := s.dmOf d
    let s := if s.bit (DM_OUT_PUB_AVG d) then
        let (ok, s) := s.echoRecord d true shot no m.avgN m.avgTemp m.avgHold a.lt a.lf m.slipA res
        s.when ok (fun s => s.raise (464 + d))
      else s
    (s.modDm d (fun m => { m with
      avgN := 0, avgFirst := none, sums := List.replicate 8 {}, avgHold := false })).put
      (DM_FILL_FILL d) 0

/-- Two sums of a gate added. -/
def GateSum.add (a b : GateSum) : GateSum :=
  { re := a.re + b.re, im := a.im + b.im, gn := a.gn + b.gn, tau := a.tau + b.tau
    nhit := a.nhit + b.nhit, clip := a.clip || b.clip }

/-- Notes what a closed gate adds to the running sums once its shot is processed (R215). -/
def State.sumGate (s : State) (d : Nat) (shot : Stamp) (g : Gate) (r : GateRes) : State :=
  match r.spoil, g.best with
  | false, some (_, y) =>
    let (p, s) := s.referral (s.dmFtw d) shot
    let (z, s) := s.turn p y
    let tau := match g.hit with
      | some h => stampDiff h shot - s.cofs d
      | none => 0
    let sum : GateSum := { re := z.1, im := z.2, gn := 1, tau := tau
                           nhit := if g.hit.isSome then 1 else 0, clip := g.clip }
    s.modDm d (fun m => { m with part := m.part.set r.g sum })
  | _, _ => s

/-- The last gate of a shot has closed, or it has none: the single-shot record, then the average
when it is full (R215, R222). -/
def State.finishShot (s : State) (d : Nat) : State :=
  let m := s.dmOf d
  match m.shot with
  | none => s
  | some (shot, no) =>
    let s := if s.bit (DM_OUT_PUB_SS d) then
        (s.echoRecord d false shot no 1 m.temp m.hold m.lt m.lf m.slipS m.results).2
      else s
    let s := s.modDm d (fun m => { m with gates := [], results := [], shot := none })
    if !s.bit (DM_AVG_EN d) then s
    else
      let s := s.modDm d (fun x => { x with
        avgN := x.avgN + 1, avgHold := x.avgHold || m.hold
        sums := (List.range 8).map (fun g => (x.sums.getD g {}).add (x.part.getD g {}))
        avgFirst := x.avgFirst.orElse (fun _ => some (shot, no))
        avgTemp := if x.avgFirst.isNone then m.temp else x.avgTemp })
      let n := (s.dmOf d).avgN
      if s.get (DM_AVG_NM1 d) + 1 ≤ n then s.publishAverage d
      else s.put (DM_FILL_FILL d) n

/-- GATE_CLOSE (R210 to R218): forms the gate's result, reports it and finishes the shot after the
last gate. -/
def State.gateClose (s : State) (d g : Nat) : State :=
  let m := s.dmOf d
  match m.shot, m.gates.find? (fun x => x.g == g && !x.done) with
  | some (shot, _), some gate =>
    let s := s.advanceTo (gate.hi - 1)
    let (r, s) := s.gateResult d shot gate
    let s := s.modDm d (fun m => { m with
      gates := m.gates.map (fun x => if x.g == g then { x with done := true } else x)
      results := m.results ++ [r], hold := m.hold || !s.bit TB_STATUS_TRACE
      single := keepResult r s.now m.single })
    let s := s.when r.spoil (fun s =>
      ((s.bump (DM_CNT_SPOIL d)).putB (DM_STAT_SPOILED d) true).raise (448 + d))
    let s := s.ambiguous d r
    let s := s.reportAll d false r
    let s := if s.bit (DM_AVG_EN d) then s.sumGate d shot gate r else s
    if (s.dmOf d).gates.all (fun x => x.done) then s.finishShot d else s
  | _, _ => s

/-! ### Shots (R207 to R209) -/

/-- A SHOT vector starts: demodulator `d` takes the shot, or skips it (R207, R209). -/
def State.shotArrives (t : Tick) (step : Nat) (no : W32) (s : State) (d : Nat) : State :=
  if !s.dmRuns d then s
  else if (s.dmOf d).gates.any (fun g => !g.done) then
    ((s.bump (DM_CNT_SKIP d)).putB (DM_STAT_SKIPPED d) true).raise (448 + d)
  else
    let shot := s.shotTime d t step
    let s := s.count (DM_SHOTS_COUNT d)
    let gates := s.openGates d shot
    let s := s.modDm d (fun m => { m with
      shot := some (shot, no), gates := gates, results := [], lt := 0, lf := 0
      part := List.replicate 8 {}
      windows := gates.map (fun g => (s.elapsedAt g.lo, s.elapsedAt g.hi)) ++
        m.windows.filter (fun w => decide ((s.tb.up : Int) < w.2 + 2 ^ 20))
      hold := !s.traceAt shot.tick, temp := s.tempAt d shot.tick })
    if gates.isEmpty then s.finishShot d else s

/-- Every demodulator sees the shot (R207). -/
def State.shot (s : State) (t : Tick) (step : Nat) (no : W32) : State :=
  (List.range 16).foldl (State.shotArrives t step no) s

/-! ### Ends -/

/-- The demodulator keeps nothing of its shot and its average; its gate windows end now. -/
def State.dmDiscard (s : State) (d : Nat) : State :=
  (s.modDm d (fun m => { m with
    gates := [], results := [], shot := none, live := false, avgN := 0, avgFirst := none
    sums := List.replicate 8 {}, part := List.replicate 8 {}, avgHold := false
    windows := m.windows.map (fun w => (w.1, min w.2 s.tb.up)) })).put (DM_FILL_FILL d) 0

/-- EN is cleared: the average is published with the shots it holds; the shot in progress is none of
them (R216). -/
def State.dmEnd (s : State) (d : Nat) : State := (s.publishAverage d).dmDiscard d

/-- FAULT, and the loss of control: averages in progress and open gates are discarded (R216,
R224). -/
def State.dmDiscardAll (s : State) : State :=
  (List.range 16).foldl (fun s d => s.dmDiscard d) s

/-- No gate of a running demodulator is open (R46). -/
def State.gatesClosed (s : State) : Bool :=
  (List.range 16).all (fun d => !s.dmRuns d || (s.dmOf d).gates.all (fun g => g.done))

/-- A result of port `p` has completed: the shots after it that have already been taken carry it
(R221). -/
def State.tempCompleted (s : State) (p : Nat) : State :=
  (List.range 16).foldl (fun s d =>
    match (s.dmOf d).shot with
    | some (shot, _) =>
      if s.get (DM_TEMP_TPORT d) == p && decide ((s.tb.up : Int) < s.elapsedAt shot.tick) then
        s.modDm d (fun m => { m with temp := s.tempAt d shot.tick })
      else s
    | none => s) s

/-- PROBE has drained: gates are finished, each average in progress is published (R46, R216). -/
def State.dmProbeOff (s : State) : State :=
  (List.range 16).foldl (fun s d => s.dmEnd d) s

/-- PROBE switches on: demodulators whose channel is not claimed (R203). -/
def State.dmProbeOn (s : State) : State :=
  (List.range 16).foldl (fun s d =>
    let c := s.get (DM_CFG_FA d)
    if s.bit (DM_CFG_EN d) && (!s.has CLAIM_FA_CH c || s.oddOfPair c) then s.raise (448 + d)
    else s) s

/-- UNCLAIMED as a read of DM_STAT shows it (R203). -/
def State.dmUnclaimed (s : State) (d : Nat) : Bool :=
  s.bit (DM_CFG_EN d) && s.modeLive mPROBE &&
    (!s.has CLAIM_FA_CH (s.get (DM_CFG_FA d)) || s.oddOfPair (s.get (DM_CFG_FA d)))

/-- A write to a demodulator's own settings (R225): DM_CFG to DM_TEMP, a gate set or a tap. -/
def State.writeDemod (s : State) (d a : Nat) (v : W32) : WriteResult :=
  let new := s.wouldBe a v
  let old := s.rd a
  let onlyEn := a == (DM_CFG d).addr && (new ^^^ old) &&& 0x7FFFFFFF == 0
  if s.modeOn mPROBE && s.bit (DM_CFG_EN d) && !onlyEn then refuseWrite stStateConflict 0x22
  else
    let was := s.bit (DM_CFG_EN d)
    let ends := a == (DM_CFG d).addr && was && !bitOf v 31
    let s := s.when ends (fun s => s.dmEnd d)
    .ok (s.plainWrite a v)

/-! ### The commands -/

def execGateClose (d : BitVec 4) (g : BitVec 3) (s : State) : Host.Outcome State Fault Refusal :=
  .next (s.gateClose d.toNat g.toNat)

end Sys2Proof.Machine
end

