-- ==== Sys2Proof/Machine/Fast.lean ====
section
/-! DEFINITION. Fast acquisition (R113 to R138): sampling, rings, the reset switch, interleaved
pairs and the writes that a mode refuses. -/
namespace Sys2Proof.Machine

/-! ### Rings (R130 to R132) -/

def ringBase (c : Nat) : Nat := 0x400000 + 0x20000 * c

/-- Byte address in the capture memory of the slot of label `t` on channel `c` (R130). -/
def State.ringSlot (s : State) (c : Nat) (t : Tick) : Nat :=
  if s.paired c then ringBase (c / 2 * 2) + 2 * (t.toNat / 2 % 131072)
  else ringBase c + 2 * (t.toNat / 4 % 65536)

/-- GAP in the slots of capture memory that `p` names by their byte addresses (R132). -/
def State.gapWhere (s : State) (p : Nat → Bool) : State :=
  { s with mem := s.mem.filter (fun e => !p e.1)
           fa := s.fa.map (fun f => { f with late := f.late.filter (fun e => !p e.1) }) }

/-- GAP in every slot of a range of capture memory. -/
def State.gapRange (s : State) (lo hi : Nat) : State :=
  s.gapWhere (fun a => lo ≤ a && a < hi)

/-- The ring writes whose lag is over are in the rings (R125). -/
def State.settleRings (s : State) : State :=
  (List.range 32).foldl (fun s c =>
    let due := (s.faOf c).late.filter (fun e => decide (e.2.2 ≤ (s.tb.up : Int)))
    if due.isEmpty then s
    else (due.foldl (fun s e => s.setMemHalf e.1 e.2.1) s).modFa c (fun f => { f with
      late := f.late.filter (fun e => decide ((s.tb.up : Int) < e.2.2)) })) s

/-- A word goes to its ring slot, 0 to 64 ticks after the label (R125). -/
def State.ringPut (s : State) (c : Nat) (t : Tick) (w : BitVec 16) : State :=
  let (lag, s) := s.fresh
  let a := s.ringSlot c t
  s.modFa (c / 2 * 2) (fun f => { f with
    late := f.late.filter (fun e => e.1 != a) ++ [(a, w, s.elapsedAt t + (lag % 65 : Nat))] })

/-- The sample word of label `t` of the count after `gen` steps, be it in its slot or on its way
there. -/
def State.ringWord (s : State) (c : Nat) (t : Tick) (gen : Nat := s.tb.gen) : BitVec 16 :=
  let a := s.ringSlot c t
  match (s.faOf (c / 2 * 2)).late.find? (fun e =>
      e.1 == a && decide (e.2.2 ≤ s.elapsedAt t gen + 64)) with
  | some e => e.2.1
  | none => s.memHalf a

/-- The slot of label `t` has been overwritten by the sample that comes 262,144 ticks after it
(R130, R157); the write of that sample may still be on its way (R125). -/
def State.slotLost (s : State) (c : Nat) (t : Tick) (gen : Nat) : Bool :=
  let a := s.ringSlot c t
  decide (s.elapsedAt t gen + 262144 ≤ s.tb.up) &&
    !(s.faOf (c / 2 * 2)).late.any (fun e => e.1 == a && decide ((s.tb.up : Int) < e.2.2))

/-- The rings of a pair read GAP (R132). -/
def State.gapPair (s : State) (k : Nat) : State :=
  s.gapRange (ringBase (2 * k)) (ringBase (2 * k + 2))

/-- Whether a slot's byte address belongs to a label that a forward step from tick `t` by `k`
skips (R132). -/
def State.skippedSlot (s : State) (t : Tick) (k : Nat) (a : Nat) : Bool :=
  let c := (a - 0x400000) / 0x20000
  let per := if s.paired c then 2 else 4
  let n := if s.paired c then 131072 else 65536
  let slot := (a - ringBase (if s.paired c then c / 2 * 2 else c)) / 2
  let first := (t.toNat + per - 1) / per
  let last := (t.toNat + k + per - 1) / per
  0x400000 ≤ a && a < 0x800000 && decide ((slot + n - first % n) % n < last - first)

/-- Slots that a forward step skips read GAP (R132). -/
def State.gapSkipped (s : State) (t : Tick) (k : Nat) : State :=
  s.gapWhere (s.skippedSlot t k)

/-! ### Samples (R115, R119, R124, R131, R135) -/

def gapWord : BitVec 16 := 3

/-- The sample word of a converter output with label `t` on channel `c` (R131). -/
def State.sampleWord (s : State) (c : Nat) (t : Tick) (code : BitVec 14) : BitVec 16 :=
  let reset := match (s.faOf c).resetEnd with
    | some e => decide (s.elapsedAt t < e)
    | none => false
  BitVec.ofNat 16 (code.toNat * 4 + b2n reset * 2 + b2n (code == 0x2000 || code == 0x1FFF))

/-- A field of FA_RST as it is in force: a write takes effect at the next sample (R129). -/
def State.faRst (s : State) (c : Nat) (f : RF) : Nat :=
  match (s.faOf c).old with
  | some (w, _, u) => if s.tb.up < u then f.read w else s.get f
  | none => s.get f

/-- A field of FA_RSTT as it is in force. -/
def State.faRstt (s : State) (c : Nat) (f : RF) : Nat :=
  match (s.faOf c).old with
  | some (_, w, u) => if s.tb.up < u then f.read w else s.get f
  | none => s.get f

/-- RAIL as it acts (R119). -/
def State.rail (s : State) (c : Nat) : Nat := min 6 (s.faRst c (FA_RST_RAIL c))

/-- The sample has a near-rail magnitude (R119). -/
def State.nearRail (s : State) (c : Nat) (code : BitVec 14) : Bool :=
  decide ((s.rail c + 9) * 8192 ≤ code.toInt.natAbs * 16)

/-- Channel `c` is in charge mode. -/
def State.charge (s : State) (c : Nat) : Bool := s.bit (FA_CFG_FE c)

/-- One sample of channel `c` (an even channel for a pair; `second` when it is the odd converter's):
ring, counters, taps, demodulators. -/
def State.takeSample (s : State) (c : Nat) (t : Tick) (code : BitVec 14) (second : Bool := false) :
    State :=
  let runs := s.faRuns c
  let w := if runs then s.sampleWord c t code else gapWord
  let s := s.when (s.domOn dCAPMEM) (fun s => s.ringPut c t w)
  let clip := runs && w.getLsbD 0
  let s := s.when clip (fun s => s.count (FA_CLIP_COUNT c))
  let good := if w.getLsbD 1 then (s.faOf c).good else some (code.toInt)
  let m := s.elapsedAt t
  let s := s.modFa c (fun f => { f with
    good := good, taps := ((m, good) :: f.taps).take 257, clipped := clip || second && f.clipped
    near := if !runs then f.near else if w.getLsbD 1 then 0
      else if s.nearRail c code then f.near + 1 else 0 })
  (List.range 16).foldl (fun s d =>
    if s.get (DM_CFG_FA d) == c && s.dmRuns d then s.dmSample d t w (!runs) else s) s

/-- Matching of a pair learns from a pair of samples that carry neither flag (R128). -/
def State.learnPair (s : State) (c : Nat) (t : Tick) (even odd : BitVec 14) : State :=
  let clean := s.faRuns c && s.sampleWord c t even &&& 3 == 0 && s.sampleWord c (t + 2) odd &&& 3 == 0
  s.when clean (fun s => s.modFa c (fun f => { f with
    pairs := min (2 ^ 20) (f.pairs + 1), learnt := true }))

/-- SAMPLING_INSTANT (R124, R127, R130, R132): the converters' outputs at a tick that is a multiple
of 4; the odd converter of a pair samples 2 ticks later. -/
def State.samplingInstant (s : State) (t : Tick) (codes : List (BitVec 14)) : State :=
  if t.toNat % 4 != 0 then s
  else
    let s := (s.advanceTo t).settleRings
    let s := (List.range 16).foldl (fun s d =>
      if s.dmRuns d || !(s.dmOf d).live then s else s.modDm d (fun m => { m with live := false })) s
    (List.range 32).foldl (fun s c =>
      if s.oddOfPair c then
        (s.takeSample (c - 1) (t + 2) (codes.getD c 0) true).learnPair (c - 1) t
          (codes.getD (c - 1) 0) (codes.getD c 0)
      else s.takeSample c t (codes.getD c 0)) s

/-! ### The reset switch (R117 to R123, R135) -/

/-- PERIOD in ticks (R118). -/
def State.resetPeriod (s : State) (c : Nat) : Nat := max 1 (s.faRst c (FA_RST_PERIOD c)) * 4096

/-- A reset may act on channel `c`: charge mode, running, its own settings in force (R117,
R127). -/
def State.resets (s : State) (c : Nat) : Bool := s.faRuns c && s.charge c && !s.oddOfPair c

/-- A reset falls due, to start `wait` ticks from now or later; one that falls due in a RESET interval
is absorbed (R120, R121). -/
def State.resetDue (s : State) (c : Nat) (near : Bool) (wait : Nat := 1) : State :=
  if !s.resets c || s.inReset c then s
  else s.modFa c (fun f => { f with due := match f.due with
    | some (n, t) => some (near || n, min t (s.tb.up + wait : Nat))
    | none => some (near, (s.tb.up + wait : Nat)) })

/-- A RESET interval is to come or in progress when the channel starts (R117). -/
def State.startReset (s : State) (c : Nat) : State := s.resetDue c false

/-- Ends of what is open on the channel and defers a periodic reset (R122). -/
def State.openEnds (s : State) (c : Nat) : List Tick :=
  ((s.trg.gaths.filter (fun g => g.cuts.contains (BitVec.ofNat 5 c) &&
    tickIn s.now g.t0 g.hi)).map (fun g => g.hi)) ++
  ((List.range 16).filter (fun d => s.get (DM_CFG_FA d) == c && s.dmRuns d)).flatMap (fun d =>
    ((s.dmOf d).gates.filter (fun g => !g.done && tickIn s.now g.lo g.hi)).map (fun g => g.hi))

/-- The first moment at or after the present one that lies a whole number of periods after the
previous reset (R118). -/
def State.periodicAt (s : State) (c : Nat) : Int :=
  let p : Int := s.resetPeriod c
  let n := (s.tb.up - (s.faOf c).lastEnd + p - 1) / p
  (s.faOf c).lastEnd + max 1 n * p

/-- PERIODIC_RESET_DUE (R117, R118, R122). -/
def State.periodicDue (s : State) (c : Nat) : State :=
  if !s.resets c || !bitOf (BitVec.ofNat 2 (s.faRst c (FA_RST_POLICY c))) 0 || s.inReset c ||
      (s.faOf c).deferred.isSome then s
  else
    let s := s.advanceUp (s.periodicAt c)
    if s.faRst c (FA_RST_DEFER c) != 0 && (s.postOpen c || s.gateOpen c) then
      (s.modFa c (fun f => { f with deferred := some s.tb.up })).putB (FA_STAT_DEFERRED c) true
    else s.resetDue c false

/-- NEAR_RAIL_RESET_DUE (R117, R119): two consecutive checked samples near the rail. -/
def State.nearRailDue (s : State) (c : Nat) : State :=
  if !bitOf (BitVec.ofNat 2 (s.faRst c (FA_RST_POLICY c))) 1 || (s.faOf c).near < 2 then s
  else s.resetDue c true

/-- A deferred reset falls due at last, to start at once (R122). -/
def State.releaseDeferred (s : State) (c : Nat) : State :=
  ((s.modFa c (fun f => { f with deferred := none })).putB (FA_STAT_DEFERRED c) false).resetDue c
    false 0

/-- DEFERRED_RESET_FIRE (R122): at the first tick on which nothing is open, or once DEFER is 0. -/
def State.deferredFire (s : State) (c : Nat) : State :=
  if (s.faOf c).deferred.isNone then s
  else if s.faRst c (FA_RST_DEFER c) == 0 then s.releaseDeferred c
  else
    let s := (s.openEnds c).foldl State.advanceTo s
    if s.postOpen c || s.gateOpen c then s else s.releaseDeferred c

/-- DEFER_LIMIT (R122): one further period has passed. -/
def State.deferLimit (s : State) (c : Nat) : State :=
  match (s.faOf c).deferred with
  | some t => (s.advanceUp (t + s.resetPeriod c)).releaseDeferred c
  | none => s

/-- The smallest multiple of 4 at or after a tick. -/
def nextFour (t : Tick) : Tick := BitVec.ofNat 48 ((t.toNat + 3) / 4 * 4)

/-- CLOSE as it acts, plus RECOV (R120). -/
def State.resetLength (s : State) (c : Nat) : Nat :=
  max 16 (s.faRstt c (FA_RSTT_CLOSE c)) + s.faRstt c (FA_RSTT_RECOV c)

/-- RESET_START (R120 to R123, R135). -/
def State.resetStart (s : State) (c : Nat) : State :=
  match (s.faOf c).due with
  | none => s
  | some (near, u) =>
    if !s.resets c then s.modFa c (fun f => { f with due := none })
    else
      let s := s.advanceUp u
      let s := s.advanceTo (nextFour s.now)
      let s := s.modFa c (fun f => { f with
        due := none, deferred := none, near := 0
        resetEnd := some (s.tb.up + s.resetLength c : Nat) })
      let s := (s.putB (FA_STAT_RST_ACT c) true).putB (FA_STAT_DEFERRED c) false
      let s := (s.bump (FA_STAT_RST_CNT c)).tkRelease c s.now
      s.when (near || s.faRst c (FA_RST_RST_EVT c) != 0) (fun s => s.raise (192 + 2 * c))

/-- The RESET interval ends at the present tick (R118, R120). -/
def State.endReset (s : State) (c : Nat) : State :=
  (s.modFa c (fun f => { f with resetEnd := none, lastEnd := s.tb.up })).putB (FA_STAT_RST_ACT c)
    false

/-- RESET_END (R118, R120). -/
def State.resetStop (s : State) (c : Nat) : State :=
  match (s.faOf c).resetEnd with
  | some e => (s.advanceUp e).endReset c
  | none => s

/-- The switch has no more part in the channel: what waits for a reset is dropped, and a RESET
interval ends (R117). -/
def State.resetsOff (s : State) (c : Nat) : State :=
  let s := (s.modFa c (fun f => { f with due := none, deferred := none, near := 0 })).putB
    (FA_STAT_DEFERRED c) false
  s.when (s.inReset c) (fun s => s.endReset c)

/-! ### Writes (R117, R127 to R129) -/

/-- Lowest mode bit that holds fast channel `c` (R129). -/
def State.faHeldBy (s : State) (c : Nat) : Option Nat :=
  if s.modeOn mLISTEN && !s.faExclusive c then some mLISTEN
  else if s.modeOn mPROBE && s.has CLAIM_FA_CH c then some mPROBE
  else if s.modeOn mREGULATE && (List.range 16).any (fun m => s.has CE_STAT_RUNNING m &&
      s.loopTakes m 0 c) then some mREGULATE
  else none

/-- A write to FA_CFG (R117, R129). -/
def State.writeFaCfg (s : State) (c : Nat) (v : W32) : WriteResult :=
  let front := [FA_CFG_FE c, FA_CFG_CF c, FA_CFG_VRANGE c, FA_CFG_ZIN c, FA_CFG_BW c].any
    (fun f => s.changes f v)
  match s.faHeldBy c, front with
  | some n, true => refuseWrite stStateConflict (0x20 + n)
  | _, _ =>
    let was := s.resets c
    let t := s.plainWrite (FA_CFG c).addr v
    let t := t.when (was && !t.resets c) (fun t => t.resetsOff c)
    let t := t.when (!was && t.resets c) (fun t => t.startReset c)
    .ok (s.tkFollow c t)

/-- Claims of both members of interleaved pairs agree (R42). -/
def State.pairClaims (s : State) : State :=
  (List.range 16).foldl (fun s k =>
    if !s.has FA_GCFG_ILV k then s
    else if s.has CLAIM_FA_CH (2 * k) || s.has CLAIM_FA_CH (2 * k + 1) then
      (s.mark CLAIM_FA_CH (2 * k)).mark CLAIM_FA_CH (2 * k + 1)
    else s) s

/-- ILV bit `k` changes (R127, R128, R132): GAP in both rings, matching from the stored
estimates. -/
def State.changeIlv (s : State) (k : Nat) : State :=
  let s := (s.gapPair k).modFa (2 * k) (fun f => { f with pairs := 0, learnt := false })
  let s := (s.putB (FA_STAT_MATCH_OK (2 * k)) false).wr (FA_MATCH (2 * k)).addr
    (if s.has FA_GCFG_ILV k then Config.testWord (FA_MATCH (2 * k)).addr else 0)
  s.when (s.has FA_GCFG_ILV k) (fun s => s.resetsOff (2 * k + 1))

/-- A write to FA_GCFG (R127, R129): a pair that a mode holds refuses it. -/
def State.writeFaGcfg (s : State) (v : W32) : WriteResult :=
  let new := FA_GCFG_ILV.read (s.wouldBe FA_GCFG.addr v)
  let changed := (List.range 16).filter (fun k => new.testBit k != s.has FA_GCFG_ILV k)
  let held := (changed.flatMap (fun k => [2 * k, 2 * k + 1])).filterMap s.faHeldBy
  match held with
  | n :: l => refuseWrite stStateConflict (0x20 + l.foldl min n)
  | [] =>
    let t := (changed.foldl State.changeIlv (s.plainWrite FA_GCFG.addr v)).pairClaims
    .ok (s.tkFollowAll (changed.map (fun k => 2 * k + 1)) t)

/-- A write to FA_RST or FA_RSTT: its fields take effect at the next sample (R129); STRB fires a
reset (R117). -/
def State.writeFaRst (s : State) (c a : Nat) (v : W32) : WriteResult :=
  let u : Int := (s.tb.up + (4 - s.now.toNat % 4) : Nat)
  let keep := match (s.faOf c).old with
    | some (w, w', x) => if s.tb.up < x then (w, w', x) else (s.rd (FA_RST c).addr, s.rd (FA_RSTT c).addr, u)
    | none => (s.rd (FA_RST c).addr, s.rd (FA_RSTT c).addr, u)
  let s := (s.modFa c (fun f => { f with old := some keep })).plainWrite a v
  .ok (s.when (a == (FA_RST c).addr && bitOf v 27) (fun s => s.resetDue c false))

/-- A write to a claim register (R42, R45). -/
def State.writeClaim (s : State) (a : Nat) (v : W32) : WriteResult :=
  if s.modeOn mPROBE then refuseWrite stStateConflict 0x22
  else .ok ((s.plainWrite a v).pairClaims)

/-- MATCH_OK_CHANGE (R128, R135, R137): the matching of a running pair shows its estimates, which
move only when it has learnt from samples, and whether the last 2^20 pairs kept them within the limits;
a change of that raises source 193 + 4k. -/
def State.matchOk (s : State) (k : Nat) (ok : Bool) (est : W32) : State :=
  let f := s.faOf (2 * k)
  if !s.has FA_GCFG_ILV k || !s.faRuns (2 * k) || !f.learnt || (ok && f.pairs < 2 ^ 20) then s
  else
    let was := s.bit (FA_STAT_MATCH_OK (2 * k))
    let s := (s.putB (FA_STAT_MATCH_OK (2 * k)) ok).wr (FA_MATCH (2 * k)).addr est
    let s := s.modFa (2 * k) (fun f => { f with learnt := false, pairs := if ok then f.pairs else 0 })
    s.when (was != ok) (fun s => s.raise (193 + 4 * k))

/-! ### The commands -/

def execSamplingInstant (t : Tick) (codes : List (BitVec 14)) (s : State) :
    Host.Outcome State Fault Refusal :=
  .next (s.samplingInstant t codes)

def execPeriodicResetDue (c : BitVec 5) (s : State) : Host.Outcome State Fault Refusal :=
  .next (s.periodicDue c.toNat)

def execNearRailResetDue (c : BitVec 5) (s : State) : Host.Outcome State Fault Refusal :=
  .next (s.nearRailDue c.toNat)

def execDeferredResetFire (c : BitVec 5) (s : State) : Host.Outcome State Fault Refusal :=
  .next (s.deferredFire c.toNat)

def execDeferLimit (c : BitVec 5) (s : State) : Host.Outcome State Fault Refusal :=
  .next (s.deferLimit c.toNat)

def execResetStart (c : BitVec 5) (s : State) : Host.Outcome State Fault Refusal :=
  .next (s.resetStart c.toNat)

def execResetEnd (c : BitVec 5) (s : State) : Host.Outcome State Fault Refusal :=
  .next (s.resetStop c.toNat)

/-- CLIP_SAMPLE (R135): the source of a clipped sample that the channel has taken. -/
def execClipSample (c : BitVec 5) (s : State) : Host.Outcome State Fault Refusal :=
  .next (if (s.faOf c.toNat).clipped then s.raiseLimited (193 + 2 * c.toNat)
    else s)

def execMatchOkChange (k : BitVec 4) (ok : Bool) (est : W32) (s : State) :
    Host.Outcome State Fault Refusal :=
  .next (s.matchOk k.toNat ok est)

end Sys2Proof.Machine
end

