-- ==== Sys2Proof/Machine/Sensor.lean ====
section
/-! DEFINITION. Sensor ports and the turns of the converter cores (R230 to R266): which ports are
scanned, their states, urgent requests, impedance slots and writes to a port's settings. -/
namespace Sys2Proof.Machine

/-! ### Ports (R230 to R236, R241, R251, R252) -/

def psOFF : Nat := 0
def psWAIT : Nat := 1
def psSETTLE : Nat := 2
def psCONVERT : Nat := 3
def psFAULT : Nat := 4
def psSLAVE : Nat := 5

def State.portState (s : State) (p : Nat) : Nat := s.get (PS_STAT_STATE p)

/-- PS_CFG.MODE (R231). -/
def State.portMode (s : State) (p : Nat) : Nat := s.get (PS_CFG_MODE p)

/-- MODE gives the port a converter input: BR6 only on an even port (R231, R232). -/
def State.modeValid (s : State) (p : Nat) : Bool :=
  let m := s.portMode p
  1 ≤ m && m ≤ 8 && !(m == 5 && p % 2 == 1)

/-- What sets CFGERR (R231, R232, R236). -/
def State.cfgBad (s : State) (p : Nat) : Bool :=
  9 ≤ s.portMode p || (s.portMode p == 5 && p % 2 == 1) || 9 ≤ s.get (PS_AUX_TCTYPE p)

/-- TCTYPE as it acts (R236). -/
def State.tcType (s : State) (p : Nat) : Nat :=
  if 9 ≤ s.get (PS_AUX_TCTYPE p) then 0 else s.get (PS_AUX_TCTYPE p)

/-- A port with this PS_CFG alternates phases (R237). -/
def phasesBy (p : Nat) (cfg : W32) : Bool :=
  let m := (PS_CFG_MODE p).read cfg
  (m == 1 || m == 2 || m == 4 || m == 5) && (PS_CFG_REV p).read cfg != 0

/-- The port alternates phases (R237). -/
def State.usesPhases (s : State) (p : Nat) : Bool := phasesBy p (s.rd (PS_CFG p).addr)

/-- The mode excites the sensor (R252). -/
def State.excited (s : State) (p : Nat) : Bool :=
  let m := s.portMode p
  1 ≤ m && m ≤ 5

/-- The port is the slave of a BR6 port (R232). -/
def State.isSlave (s : State) (p : Nat) : Bool := p % 2 == 1 && s.portMode (p - 1) == 5

/-- Entries of core k's scan list, as ports (R260). -/
def State.scanList (s : State) (k : Nat) : List Nat :=
  (List.range (min 8 (s.get (PC_SCAN_LEN k)))).map (fun i =>
    2 * k + b2n ((s.get (PC_SCAN_ENTRY k)).testBit i))

/-- Core `k` helps its partner (R266). -/
def State.helping (s : State) (k : Nat) : Bool := s.bit (PC_ILV_ACTIVE (k ^^^ 1))

/-- The port is a PROBE temperature port (R221). -/
def State.tempPort (s : State) (p : Nat) : Bool :=
  s.modeLive mPROBE && (List.range 16).any (fun d =>
    s.bit (DM_TEMP_TPEN d) && s.get (DM_TEMP_TPORT d) == p)

/-- The port is named as a loop input while REGULATE is on. -/
def State.loopPort (s : State) (p : Nat) : Bool :=
  s.modeOn mREGULATE && (List.range 16).any (fun m => s.bit (LOOP_CFG_EN m) && s.loopTakes m 1 p)

/-- The first three cases of R251; while SURVEY drains, the running conversion completes (R46). -/
def State.scannedBase (s : State) (p : Nat) : Bool :=
  ((s.modeOn mSURVEY || (s.draining mSURVEY && s.portState p == psCONVERT)) &&
    (s.scanList (p / 2)).contains p) || s.loopPort p || s.tempPort p

/-- XDEG and TDEG as they act; a TPORT that names the port itself acts as TDEG 0 (R274). -/
def State.tdeg (s : State) (p : Nat) : Nat :=
  if s.get (PC_PORT_TPORT p) == p then 0 else min 2 (s.get (PC_PORT_TDEG p))

/-- The port is scanned (R251, R266). -/
def State.scanned (s : State) (p : Nat) : Bool :=
  !s.helping (p / 2) &&
    (s.scannedBase p || (List.range 16).any (fun q => q != p && s.scannedBase q &&
      ((s.portMode q == 7 && s.tcType q != 0 && s.get (PS_AUX_CJPORT q) == p) ||
       (s.get (PC_PORT_LIN q) == 1 && s.tdeg q != 0 && s.get (PC_PORT_TPORT q) == p))))

/-- The port may leave OFF (R241, R251, R252). -/
def State.portMay (s : State) (p : Nat) : Bool :=
  s.bit (PS_CFG_EN p) && s.modeValid p && s.scanned p && s.domOn (dSP (p / 8)) && s.domOn dPCV &&
    s.readyOrActive && s.cstate != csYIELDED && !(s.standby && s.excited p && !s.bit PS_GCFG_SBY_EXC)

/-! ### Cores -/

def cIDLE : Nat := 0
def cSETTLE : Nat := 1
def cCONVERT : Nat := 2
def cSLOT : Nat := 3
def cHELP : Nat := 4

def State.coreState (s : State) (k : Nat) : Nat := s.get (PC_CSTAT_STATE k)

/-- Port in hand of a core. -/
def State.corePort (s : State) (k : Nat) : Nat := s.get (PC_CSTAT_PORT k)

def State.setCore (s : State) (k st : Nat) : State := s.put (PC_CSTAT_STATE k) st

def State.setPort (s : State) (p st : Nat) : State := s.put (PS_STAT_STATE p) st

/-- Drops a port's pairing partner (R238). -/
def State.dropPair (s : State) (p : Nat) : State := s.modSp p (fun x => { x with prev := none })

/-- The core lets go of what it has in hand; an interleave's partner stops with it (R266). -/
def State.freeCore (s : State) (k : Nat) : State :=
  let s := (s.setCore k cIDLE).modPc k (fun c => { c with
    serving := none, recheck := false, conv := none })
  if s.bit (PC_ILV_ACTIVE k) then
    (s.setCore (k ^^^ 1) cIDLE).modPc (k ^^^ 1) (fun c => { c with serving := none, conv := none })
  else s

/-- The core has the port in hand. -/
def State.inHand (s : State) (p : Nat) : Bool :=
  let k := p / 2
  s.corePort k == p && (s.coreState k == cSETTLE || s.coreState k == cCONVERT ||
    s.coreState k == cSLOT)

/-! ### Requests that are not served (R264) -/

/-- The loops that asked for a port hear that it is not served (R264). -/
def State.loopNotServed (s : State) (p : Nat) : State :=
  (List.range 16).foldl (fun s m =>
    s.modCe m (fun l => { l with
      notServed := l.notServed ||
        (s.get (LOOP_IN_ITYPE m) == 1 && s.get (LOOP_IN_ISEL m) == p && s.bit (LOOP_IN_PREQ m))
      notServedFf := l.notServedFf ||
        (s.get (LOOP_FFIN_ITYPE m) == 1 && s.get (LOOP_FFIN_ISEL m) == p &&
          s.bit (LOOP_FFIN_PREQ m)) })) s

/-- A request that is not served (R264). -/
def State.notServed (s : State) (u : Urgent) : State :=
  let s := s.when u.loop (fun s => s.loopNotServed u.port.toNat)
  s.raise (384 + u.port.toNat / 2)

/-- The requests that core `k` and its helping partner are serving. -/
def State.servings (s : State) (k : Nat) : List Urgent :=
  ((s.pcOf k).serving.toList ++
    (if s.bit (PC_ILV_ACTIVE k) then (s.pcOf (k ^^^ 1)).serving.toList else [])).map (fun e => e.1)

def mergeUrgent (a b : Urgent) : Urgent :=
  { a with loop := a.loop || b.loop, snap := a.snap || b.snap, cmd := a.cmd || b.cmd }

/-- Adds a request to those that wait: it merges with one for its port (R261). -/
def addUrgent (u : Urgent) (l : List Urgent) : List Urgent :=
  if l.any (fun x => x.port == u.port) then
    l.map (fun x => if x.port == u.port then mergeUrgent x u else x)
  else l ++ [u]

/-- The requests being served wait again, to be served by the next conversion of their port: their
conversion has been given up. -/
def State.requeue (s : State) (k : Nat) : State :=
  let us := s.servings k
  let s := s.modPc k (fun c => { c with
    serving := none, urgents := us.foldl (fun l u => addUrgent u l) c.urgents })
  if s.bit (PC_ILV_ACTIVE k) then s.modPc (k ^^^ 1) (fun c => { c with serving := none }) else s

/-- A port leaves for OFF or SLAVE: a conversion in hand is discarded without a record, and its
requests are not served (R250, R264). -/
def State.stopPort (s : State) (p dest : Nat) : State :=
  let us := if s.inHand p then s.servings (p / 2) else []
  let s := s.when (s.inHand p) (fun s => s.freeCore (p / 2))
  us.foldl State.notServed ((s.setPort p dest).dropPair p)

/-- Brings one port's state in line with its settings, modes and domain (R241). -/
def State.refreshPort (s : State) (p : Nat) : State :=
  if s.isSlave p then (if s.portState p == psSLAVE then s else s.stopPort p psSLAVE)
  else if !s.portMay p then (if s.portState p == psOFF then s else s.stopPort p psOFF)
  else if s.portState p == psOFF || s.portState p == psSLAVE then
    (s.setPort p psWAIT).modSp p (fun x => { x with prev := none, settle := true, impAt := s.tb.up })
  else s

def State.refreshPorts (s : State) : State := (List.range 16).foldl State.refreshPort s

/-- Every port that is no slave goes OFF (R252). -/
def State.portsOff (s : State) : State :=
  (List.range 16).foldl (fun s p =>
    if s.isSlave p || s.portState p == psOFF then s else s.stopPort p psOFF) s

/-- OSR by RATE (R256). -/
def osrOf (rate : Nat) : Nat :=
  [8, 24, 64, 104, 264, 664, 1664, 2664, 6664, 10664, 26664, 66664].getD rate 88888

/-- Modulator samples of a conversion (R256, R266); each takes 625 ticks. -/
def State.convSamples (s : State) (p : Nat) : Nat :=
  let r := s.get (PC_PORT_RATE p)
  3 * osrOf (if r == 0 && s.bit (PC_ILV_ACTIVE (p / 2)) then 1 else r) + 8

/-- Phase of the port's next conversion: true is B (R237, R238). -/
def State.nextPhase (s : State) (p : Nat) : Bool :=
  s.usesPhases p && (match (s.spOf p).prev with
    | some (ph, _) => !ph
    | none => false)

/-- A settling delay is needed (R240). -/
def State.needSettle (s : State) (p : Nat) : Bool :=
  s.get (PS_CFG_SETTLE p) != 0 &&
    ((s.spOf p).settle || (s.pcOf (p / 2)).prevPort != some (BitVec.ofNat 4 p, s.nextPhase p))

/-- What a conversion of port `p` that starts now runs under. -/
def State.convNow (s : State) (p : Nat) : Conv :=
  { cfg := s.rd (PS_CFG p).addr, exc := s.rd (PS_EXC p).addr, aux := s.rd (PS_AUX p).addr
    d := s.convSamples p }

/-- What the conversion in hand of core `k` runs under. -/
def State.convOf (s : State) (k : Nat) : Conv := (s.pcOf k).conv.getD (s.convNow (s.corePort k))

/-- A conversion of port `p` that core `k` starts now takes the request that waits for the port
(R261, R266). -/
def State.takeRequest (s : State) (k p : Nat) : Option (Urgent × Tick) × State :=
  match (s.pcOf k).urgents.find? (fun u => u.port.toNat == p) with
  | some u => (some (u, s.now), s.modPc k (fun c => { c with urgents := c.urgents.erase u }))
  | none => (none, s)

/-- The conversion of port `p` starts; an interleave's partner follows half a conversion later
(R266). -/
def State.startConversion (s : State) (p : Nat) : State :=
  let k := p / 2
  let ph := s.nextPhase p
  let s := (s.setPort p psCONVERT).setCore k cCONVERT
  let s := s.modSp p (fun x => { x with phase := ph, settle := false })
  let (u, s) := s.takeRequest k p
  let s := s.modPc k (fun c => { c with
    convStart := s.now, old := false, recheck := false, conv := some (s.convNow p)
    serving := c.serving.orElse (fun _ => u) })
  if s.bit (PC_ILV_ACTIVE k) then
    ((s.setCore (k ^^^ 1) cHELP).put (PC_CSTAT_PORT (k ^^^ 1)) p).modPc (k ^^^ 1) (fun c => { c with
      convStart := s.now + BitVec.ofNat 48 (s.convSamples p / 2 * 625), old := false
      conv := some (s.convNow p), serving := none })
  else s

/-! ### Urgent requests (R261 to R264) -/

/-- The port is the one that an interleave of its core converts (R265). -/
def State.interleaved (s : State) (p : Nat) : Bool :=
  s.bit (PC_ILV_ACTIVE (p / 2)) && s.get (PC_ILV_PORT (p / 2)) == p % 2

/-- Interleaving has taken the port out of service: a port of the helping core, or the other port of
the core that is helped (R264). -/
def State.outOfService (s : State) (p : Nat) : Bool :=
  s.helping (p / 2) || (s.bit (PC_ILV_ACTIVE (p / 2)) && !s.interleaved p)

/-- The port can be served. -/
def State.servable (s : State) (p : Nat) : Bool :=
  let st := s.portState p
  (st == psWAIT || st == psSETTLE || st == psCONVERT) && !s.outOfService p

/-- A settling that an urgent request of the other port interrupts is abandoned; its port keeps its
turn (R261). -/
def State.abandonSettling (s : State) (k p : Nat) : State :=
  if s.coreState k == cSETTLE && s.corePort k != p && (s.pcOf k).serving.isNone then
    let q := s.corePort k
    let s := s.when (s.portState q == psSETTLE) (fun s => s.setPort q psWAIT)
    (s.setCore k cIDLE).modPc k (fun c => { c with recheck := false })
  else s

/-- The helping core's first conversion is still to start (R266). -/
def State.helperAhead (s : State) (k : Nat) : Bool :=
  s.bit (PC_ILV_ACTIVE k) && s.coreState (k ^^^ 1) == cHELP && tickLt s.now (s.pcOf (k ^^^ 1)).convStart

/-- An urgent request for a port (R261, R264, R266). -/
def State.urgent (s : State) (u : Urgent) : State :=
  let p := u.port.toNat
  let k := p / 2
  let joins (e : Option (Urgent × Tick)) (t : Tick) : Option (Urgent × Tick) := match e with
    | some (x, t) => some (mergeUrgent x u, t)
    | none => some (u, t)
  if !s.servable p then s.notServed u
  else if (s.pcOf k).urgents.any (fun x => x.port == u.port) then
    s.modPc k (fun c => { c with urgents := addUrgent u c.urgents })
  else if s.coreState k == cSETTLE && s.corePort k == p && !(s.pcOf k).recheck then
    s.modPc k (fun c => { c with serving := joins c.serving u.since })
  else if s.helperAhead k then
    s.modPc (k ^^^ 1) (fun c => { c with serving := joins c.serving c.convStart })
  else
    (s.modPc k (fun c => { c with urgents := c.urgents ++ [u] })).abandonSettling k p

/-- A snapshot at a gathering's commit: every port of PC_SNAP is requested. -/
def State.snapshot (s : State) : State :=
  (setBits (BitVec.ofNat 16 (s.get PC_SNAP_PORTS))).foldl (fun s p =>
    s.urgent { port := BitVec.ofNat 4 p, since := s.now, snap := true }) s

/-! ### Turns (R260, R262) -/

/-- The cycle of core `k`'s turns as ports (R44, R260, R266). -/
def State.turnOrder (s : State) (k : Nat) : List Nat :=
  if s.bit (PC_ILV_ACTIVE k) then [2 * k + s.get (PC_ILV_PORT k)]
  else
    let others := [2 * k, 2 * k + 1].filter s.scanned
    if s.modeOn mSURVEY then
      s.scanList k ++ others.filter (fun p => !(s.scanList k).contains p)
    else others

/-- The port may take a scan turn (R248, R260). -/
def State.turnable (s : State) (p : Nat) : Bool :=
  s.portState p == psWAIT || (s.portState p == psFAULT && s.bit (PS_FLT_AUTOCLR p))

/-- The first turn at or after position `i` of the cycle: its position and port. -/
def State.nextTurn (s : State) (k : Nat) : Option (Nat × Nat) :=
  let order := s.turnOrder k
  let n := order.length
  let i := (s.pcOf k).scan
  ((List.range n).map (fun j => ((i + j) % n, order.getD ((i + j) % n) 0))).find? (fun e =>
    s.turnable e.2)

/-- The core's multiplexer goes to port `p`; leaving the port of its previous conversion is a change of
port (R240). -/
def State.muxTo (s : State) (k p : Nat) : State :=
  (s.put (PC_CSTAT_PORT k) p).modPc k (fun c => { c with
    prevPort := c.prevPort.filter (fun e => e.1.toNat == p) })

/-- PERIOD as it acts, in ticks (R246). -/
def State.impPeriod (s : State) (p : Nat) : Nat := min 100 (s.get (PS_IMP_PERIOD p)) * 1250000

/-- t_IMP (R253) in ticks. -/
def tImp : Nat := 400000

/-- A test slot of the port may start (R246, R252). -/
def State.mayTest (s : State) (p : Nat) : Bool :=
  let st := s.portState p
  s.get (PS_IMP_PERIOD p) != 0 && !s.standby && !s.outOfService p &&
    (st == psWAIT || st == psFAULT || (s.interleaved p && st != psOFF))

/-- The port's next test must start by now for its result to come within PERIOD of the last (R246). -/
def State.testDue (s : State) (p : Nat) : Bool :=
  s.mayTest p && decide ((s.spOf p).impAt + s.impPeriod p ≤ s.tb.up + tImp)

/-- A turn of port `p` begins. -/
def State.beginTurn (s : State) (k p : Nat) : State :=
  let s := s.muxTo k p
  if s.portState p == psFAULT then
    ((s.setCore k cSETTLE).modSp p (fun x => { x with clean := true })).modPc k (fun c =>
      { c with recheck := true, convStart := s.now })
  else if s.needSettle p then
    ((s.setCore k cSETTLE).setPort p psSETTLE).modPc k (fun c =>
      { c with recheck := false, convStart := s.now })
  else s.startConversion p

/-- SCAN_TURN (R246, R247, R260, R261): the core takes the next urgent request, or the next scan turn,
unless an impedance test is due first. -/
def State.scanTurn (s : State) (k : Nat) : State :=
  if s.coreState k != cIDLE || s.helping k || !s.domOn dPCV then s
  else
    let dead := (s.pcOf k).urgents.filter (fun u => s.portState u.port.toNat != psWAIT)
    let s := s.modPc k (fun c => { c with
      urgents := c.urgents.filter (fun u => s.portState u.port.toNat == psWAIT) })
    let s := dead.foldl State.notServed s
    match (s.pcOf k).urgents with
    | u :: rest =>
      let s := s.modPc k (fun c => { c with urgents := rest, serving := some (u, s.now) })
      s.beginTurn k u.port.toNat
    | [] =>
      if [2 * k, 2 * k + 1].any s.testDue then s
      else match s.nextTurn k with
      | some (i, p) => (s.modPc k (fun c => { c with scan := i, serving := none })).beginTurn k p
      | none => s

/-- The turn in hand is over: the scan moves on; an urgent conversion counts as its port's turn
when that turn is next (R262). -/
def State.endTurn (s : State) (k p : Nat) : State :=
  let was := (s.pcOf k).serving.isSome
  let s := s.freeCore k
  if !was then s.modPc k (fun c => { c with scan := c.scan + 1 })
  else
    match s.nextTurn k with
    | some (i, q) => if q == p then s.modPc k (fun c => { c with scan := i + 1 }) else s
    | none => s

/-- SETTLING_END (R240, R248). -/
def State.settlingEnd (s : State) (k : Nat) : State :=
  if s.coreState k != cSETTLE then s
  else
    let p := s.corePort k
    let s := s.advanceTo ((s.pcOf k).convStart + BitVec.ofNat 48 (s.get (PS_CFG_SETTLE p) * 5000))
    if !(s.pcOf k).recheck then s.startConversion p
    else if (s.spOf p).clean && !(s.spOf p).impOver then
      (((s.putB (PS_STAT_FAULT p) false).dropPair p).raise (321 + 4 * p)).startConversion p
    else s.endTurn k p

/-! ### Calibration jobs end early (R271) -/

/-- A calibration of the port whose results are not complete ends with DATA_ERROR: 01h for a fault
record, 02h for a restart among them. -/
def State.calBroken (s : State) (p detail : Nat) : State :=
  match (s.spOf p).cal with
  | some j =>
    if j.n ≤ j.count then s
    else (s.answer j.tag stDataError detail).modSp p (fun x => { x with cal := none })
  | none => s

/-! ### Settings (R238, R249, R250) -/

/-- CFGERR after a write (R231, R232, R236, R255). -/
def State.checkCfg (s : State) (p : Nat) : State :=
  let s := s.putB (PS_STAT_CFGERR p) (s.cfgBad p)
  s.when (s.cfgBad p) (fun s => s.raise (323 + 4 * p))

/-- The conversion in hand of port `p` has taken its last modulator sample. -/
def State.convOver (s : State) (p : Nat) : Bool :=
  let k := p / 2
  s.portState p == psCONVERT && s.corePort k == p && !s.bit (PC_ILV_ACTIVE k) &&
    tickLe ((s.pcOf k).convStart + BitVec.ofNat 48 ((s.convOf k).d * 625)) s.now

/-- A changed setting restarts a port in SETTLE or CONVERT (R249); an urgent request that waits for the
core's other port comes first (R250). -/
def State.restart (s : State) (p : Nat) : State :=
  let k := p / 2
  if !(s.portState p == psSETTLE || s.portState p == psCONVERT) then s
  else
    let s := s.modSp p (fun x => { x with restarts := x.restarts + 1 })
    let s := ((s.bump (PS_CNT_RESTART p)).calBroken p 2).raise (322 + 4 * p)
    let s := s.dropPair p
    if (s.pcOf k).urgents.any (fun u => u.port.toNat != p) then
      (s.requeue k).freeCore k |>.setPort p psWAIT
    else
      let u := (s.servings k).foldl (fun (b : Option Urgent) u => match b with
        | some x => some (mergeUrgent x u)
        | none => some u) none
      let t := match (s.pcOf k).serving with
        | some e => e.2
        | none => s.now
      (((s.freeCore k).setPort p psSETTLE).setCore k cSETTLE).modPc k (fun c => { c with
        convStart := s.now, serving := u.map (fun u => (u, t)) })

/-- What a change of a port's settings brings (R249, R250): a conversion that is over ends under the
settings it had, any other starts anew. -/
def State.settingChanged (s : State) (p : Nat) (done : Bool) : State :=
  if done then
    s.modPc (p / 2) (fun c => { c with conv := c.conv.map (fun v => { v with stale := true }) })
  else s.restart p

/-- A write to PS_CFG, PS_EXC or PS_AUX (R238, R249, R250). A slave's own registers are ignored
(R232). -/
def State.writePort (s : State) (p a : Nat) (v : W32) : WriteResult :=
  let changed := s.wouldBe a v != s.rd a
  let aux := a == (PS_CFG p).addr || a == (PS_AUX p).addr
  let done := s.convOver p
  let conv := (s.pcOf (p / 2)).conv.getD (s.convNow p)
  let s := s.when done (fun s => s.modPc (p / 2) (fun c => { c with conv := some conv }))
  let s := s.plainWrite a v
  if s.isSlave p then .ok s
  else
    let s := s.when aux (fun s => s.checkCfg p)
    if !changed then .ok s
    else
      let s := s.when (!done) (fun s => s.dropPair p)
      let s := (s.modSp p (fun x => { x with settle := true })).refreshPorts
      .ok (s.settingChanged p (done && s.portState p == psCONVERT))

/-- A write to PC_PORT: a change of RATE counts as one of R249 (R259); a TPORT that names the port
itself sets LINERR (R274) when a result is formed. -/
def State.writePcPort (s : State) (p : Nat) (v : W32) : WriteResult :=
  let changed := s.changes (PC_PORT_RATE p) v
  let done := s.convOver p
  let s := (s.plainWrite (PC_PORT p).addr v).refreshPorts
  .ok (if changed && !done then s.restart p else s)

/-- A write to PS_STAT (R248): with AUTOCLR 0 the fault clears and the port waits for its turn; with
AUTOCLR 1 only a scan turn clears it. -/
def State.writePsStat (s : State) (p : Nat) (v : W32) : WriteResult :=
  if !bitOf v 31 || !s.bit (PS_STAT_FAULT p) || (s.bit (PS_FLT_AUTOCLR p) && s.portState p == psFAULT)
    then .ok s
  else
    let s := s.putB (PS_STAT_FAULT p) false
    if s.portState p != psFAULT then .ok s
    else .ok (((s.setPort p psWAIT).modSp p (fun x => { x with prev := none, settle := true })).raise
      (321 + 4 * p))

/-- A write to PC_URG: urgent requests, lower port first (R261). -/
def State.writePcUrg (s : State) (v : W32) : WriteResult :=
  .ok ((setBits (v.extractLsb' 0 16)).foldl (fun s p =>
    s.urgent { port := BitVec.ofNat 4 p, since := s.now, cmd := true }) s)

/-- A write to a register of which the set of scanned ports depends. -/
def State.writeScan (s : State) (a : Nat) (v : W32) : WriteResult :=
  .ok ((s.plainWrite a v).refreshPorts)

/-- The interleave of core `k` ends: both cores let go of its port. -/
def State.endInterleave (s : State) (k : Nat) : State :=
  let p := 2 * k + s.get (PC_ILV_PORT k)
  if !s.bit (PC_ILV_ACTIVE k) then s
  else
    let s := s.when (s.inHand p) (fun s => s.setPort p (if s.portState p == psFAULT then psFAULT else psWAIT))
    ((s.requeue k).freeCore k).putB (PC_ILV_ACTIVE k) false

/-- Requests for ports that interleaving has taken out of service are not served (R264). -/
def State.turnAway (s : State) (k : Nat) : State :=
  let dead := (s.pcOf k).urgents.filter (fun u => s.outOfService u.port.toNat)
  dead.foldl State.notServed (s.modPc k (fun c => { c with
    urgents := c.urgents.filter (fun u => !dead.contains u) }))

/-- The interleave that PC_ILV of core `k` asks for is refused (R265). -/
def State.ilvRefused (s : State) (k : Nat) : Bool :=
  let p := 2 * k + s.get (PC_ILV_PORT k)
  s.usesPhases p || s.bit (PC_ILV_EN (k ^^^ 1)) || s.bit (PC_ILV_ACTIVE (k ^^^ 1)) || !s.scanned p

/-- The partner core lets go of the port it has in hand and its requests wait in vain (R264, R266). -/
def State.takeHelper (s : State) (q : Nat) : State :=
  let p := s.corePort q
  let s := s.when (s.inHand p && s.portState p != psFAULT) (fun s => s.setPort p psWAIT)
  ((s.requeue q).freeCore q).turnAway q

/-- A write to PC_ILV (R265). An interleave that runs ends; a refused one keeps EN clear (DESIGN CHOICE,
log entry 21). -/
def State.writePcIlv (s : State) (k : Nat) (v : W32) : WriteResult :=
  let new := s.wouldBe (PC_ILV k).addr v
  let q := k ^^^ 1
  let same := s.bit (PC_ILV_EN k) && (PC_ILV_PORT k).read new == s.get (PC_ILV_PORT k)
  if !bitOf new 31 then .ok (((s.endInterleave k).plainWrite (PC_ILV k).addr v).refreshPorts)
  else if same then .ok (s.plainWrite (PC_ILV k).addr v)
  else if [2 * q, 2 * q + 1].any (fun r => (List.range 16).any (fun m =>
      s.has CE_STAT_RUNNING m && s.loopTakes m 1 r)) then refuseWrite stStateConflict 0x23
  else if [2 * q, 2 * q + 1].any s.tempPort then refuseWrite stStateConflict 0x22
  else
    let s := (s.endInterleave k).plainWrite (PC_ILV k).addr v
    if s.ilvRefused k then
      .ok (((s.putB (PC_ILV_EN k) false).putB (PC_ILV_ILVERR k) true).raise (392 + k)).refreshPorts
    else
      let s := (s.takeHelper k).takeHelper q
      let s := s.putB (PC_ILV_ACTIVE k) true
      let s := (s.turnAway k).turnAway q
      .ok ((s.modSp (2 * k + s.get (PC_ILV_PORT k)) (fun x => { x with settle := true })).refreshPorts)

/-! ### Impedance slots (R246, R247) -/

/-- The mode has a lead path (R246). -/
def State.leadPath (s : State) (p : Nat) : Bool :=
  let m := s.portMode p
  m == 1 || m == 2 || m == 4 || m == 5

/-- IMPEDANCE_SLOT (R246, R247, R252): between turns, with no urgent request waiting; an
interleave stops for it. -/
def State.impedanceSlot (s : State) (k : Nat) (odd : Bool) : State :=
  let p := 2 * k + b2n odd
  let free := s.coreState k == cIDLE || (s.interleaved p && s.corePort k == p)
  if !free || !(s.pcOf k).urgents.isEmpty || !s.mayTest p then s
  else
    let s := s.when (s.interleaved p && s.portState p != psFAULT) (fun s =>
      ((s.requeue k).setPort p psWAIT).modSp p (fun x => { x with settle := true }))
    ((((s.freeCore k).setCore k cSLOT).muxTo k p)).modPc k (fun c => { c with convStart := s.now })

/-! ### What the pins carry (R231 to R235, R241, R245, R252) -/

/-- What a port's pin does (R231): a current source in microamperes, a voltage in millivolts, AGND,
a sense input, joined to the excitation pin beside it, or high impedance. -/
inductive SpDrive where
  | hiZ
  | current (ua : Nat)
  | voltage (mv : Nat)
  | agnd
  | sense
  | joined
  deriving DecidableEq, Repr

/-- IEXC and VEXC of a PS_EXC word as they act, in steps (R233). -/
def iexcOf (p : Nat) (w : W32) : Nat := max 1 (min 200 ((PS_EXC_IEXC p).read w))

def vexcOf (p : Nat) (w : W32) : Nat := max 100 (min 500 ((PS_EXC_VEXC p).read w))

/-- The excitation current in microamperes and voltage in millivolts (R233). -/
def State.excCurrent (s : State) (p : Nat) : Nat := 10 * iexcOf p (s.rd (PS_EXC p).addr)

def State.excVoltage (s : State) (p : Nat) : Nat := 10 * vexcOf p (s.rd (PS_EXC p).addr)

/-- The port is excited and checked: WAIT, SETTLE, CONVERT and FAULT (R234, R241). -/
def State.portAwake (s : State) (p : Nat) : Bool :=
  let st := s.portState p
  psWAIT ≤ st && st ≤ psFAULT

/-- EA, SA, SB and EB of a port by its state, mode and phase (R231, R232, R234, R241). -/
def State.spPins (s : State) (p : Nat) : SpDrive × SpDrive × SpDrive × SpDrive :=
  let i := SpDrive.current (s.excCurrent p)
  let v := SpDrive.voltage (s.excVoltage p)
  let b := (s.spOf p).phase
  let m := s.portMode p
  if s.portState p == psSLAVE then (.hiZ, .sense, .sense, .hiZ)
  else if !s.portAwake p then (.hiZ, .hiZ, .hiZ, .hiZ)
  else if m == 1 then (if b then (.agnd, .sense, .sense, i) else (i, .sense, .sense, .agnd))
  else if m == 2 then (i, .hiZ, .agnd, i)
  else if m == 3 then (i, .joined, .joined, .agnd)
  else if m == 4 || m == 5 then
    (if b then (.agnd, .sense, .sense, v) else (v, .sense, .sense, .agnd))
  else if 6 ≤ m && m ≤ 8 then (.hiZ, .sense, .sense, .hiZ)
  else (.hiZ, .hiZ, .hiZ, .hiZ)

/-- SB is tied to 2.5 V through 10 kOhm (R235). -/
def State.spBias (s : State) (p : Nat) : Bool :=
  s.portAwake p && (s.portMode p == 6 || s.portMode p == 7) && s.bit (PS_AUX_BIAS p)

/-- The pull current on SA and SB in nanoamperes (R245, R252); a slave's pins have the settings of the
port below (R232). -/
def State.spPull (s : State) (p : Nat) : Nat :=
  let q := if s.portState p == psSLAVE then p - 1 else p
  if s.standby || !s.portAwake q then 0
  else match s.get (PS_FLT_PULL q) with
    | 0 => 0
    | 1 => 10
    | _ => 100

/-- The test tone is on (R246). -/
def State.spTone (s : State) (p : Nat) : Bool :=
  s.coreState (p / 2) == cSLOT && s.corePort (p / 2) == p

/-! ### The commands -/

def execScanTurn (k : BitVec 3) (s : State) : Host.Outcome State Fault Refusal :=
  .next (s.scanTurn k.toNat)

def execSettlingEnd (k : BitVec 3) (s : State) : Host.Outcome State Fault Refusal :=
  .next (s.settlingEnd k.toNat)

def execImpedanceSlot (k : BitVec 3) (port : Bool) (s : State) : Host.Outcome State Fault Refusal :=
  .next (s.impedanceSlot k.toNat port)

end Sys2Proof.Machine
end

