-- ==== Sys2Proof/Machine/Precision.lean ====
section
/-! DEFINITION. Precision conversion (R256 to R285): results, calibration, linearisation, records
and the deadband, window and impedance faults, and the PWF pins. -/
namespace Sys2Proof.Machine

/-! ### Numbers (R268, R271, R273) -/

/-- A binary32 number: one times 2^149, which is whole, an infinity of a sign, or a NaN. -/
inductive F32 where
  | finite (v : Int)
  | infinite (negative : Bool)
  | nan
  deriving DecidableEq, Repr

/-- The number that a binary32 word is. -/
def f32Value (w : W32) : F32 :=
  let e := w.toNat / 2 ^ 23 % 256
  let m := w.toNat % 2 ^ 23
  if e == 255 then (if m == 0 then .infinite (w.getLsbD 31) else .nan)
  else
    let v : Int := Int.ofNat (if e == 0 then m else (m + 2 ^ 23) * 2 ^ (e - 1))
    .finite (if w.getLsbD 31 then -v else v)

/-- Nearest number of 53 bits, ties to even: the result of one binary64 operation. -/
def round53 (x : Int) : Int :=
  let a := x.natAbs
  let e := a.log2 - 52
  let q := a / 2 ^ e
  let r := a % 2 ^ e
  let q := if 2 ^ e < 2 * r || (2 * r == 2 ^ e && q % 2 == 1) then q + 1 else q
  if x < 0 then -((q * 2 ^ e : Nat) : Int) else ((q * 2 ^ e : Nat) : Int)

/-- `num / den` rounded to nearest, halves away from zero, where binary64 arithmetic may have moved
it by up to `err / den`: open between the two ends. -/
def State.roundWithin (s : State) (num err : Int) (den : Nat) : Int × State :=
  let lo := divRound (num - err) den
  let hi := divRound (num + err) den
  if lo == hi then (lo, s)
  else (lo + (s.fresh.1 % (hi - lo + 1).toNat : Nat), s.fresh.2)

/-- Limits a result to ±8,388,607 (R268, R273): the value and SAT. -/
def satResult (x : Int) : Int × Bool :=
  if 8388607 < x then (8388607, true)
  else if x < -8388607 then (-8388607, true)
  else (x, false)

/-- A value that is no number becomes an open result (log entry 21). -/
def State.noNumber (s : State) : (Int × Bool) × State := (satResult (asSigned 32 s.fresh.1), s.fresh.2)

/-- The binary32 word nearest to a quotient, ties to the even word (R270). -/
def f32Of (num : Int) (den : Nat) : W32 :=
  let a := num.natAbs
  -- the exponent e with 2^23 <= a / den * 2^-e < 2^24, e from -149 up
  let e := ((List.range 277).find? (fun e => decide (a * 2 ^ 149 < den * 2 ^ (24 + e)))).getD 276
  let m := a * 2 ^ 149
  let d := den * 2 ^ e
  let q := m / d
  let r := m % d
  let q := if d < 2 * r || (2 * r == d && q % 2 == 1) then q + 1 else q
  let w := if q < 2 ^ 23 then q else (e + 1) * 2 ^ 23 + (q - 2 ^ 23)
  BitVec.ofNat 32 (w + (if num < 0 then 2 ^ 31 else 0))

/-! ### Calibration sets (R268, R269) -/

/-- The test GAIN of a mode at a gain code as numerator and denominator (R269): full scale 2^30 reads
5,000,000 in DIFF, TC and LOOP; 1 mOhm at the set IEXC; 10 nV/V at the set VEXC. -/
def testGain (mode g iexc vexc : Nat) : Nat × Nat :=
  if 1 ≤ mode && mode ≤ 3 then (250000000, 2 ^ (g + 30) * iexc)
  else if mode == 4 || mode == 5 then (25000000000, 2 ^ (g + 30) * vexc)
  else (5000000, 2 ^ 30)

/-- The trim of a test GAIN, in parts of 2^24: under 1 % of it. -/
def testTrim (p g : Nat) : Nat := 2 ^ 24 - 2 ^ 17 + Config.testTrim p g % 2 ^ 18

/-- GAIN of a port's calibration set at gain code `g` (R268): what has been stored, or the test value in
the unit of the port's mode (R269). -/
def State.calGain (s : State) (p g : Nat) : W32 :=
  if (s.spOf p).gainSet.getLsbD g then s.rd (CAL_GAIN p g).addr
  else
    let e := s.rd (PS_EXC p).addr
    let t := testGain (s.portMode p) g (iexcOf p e) (vexcOf p e)
    f32Of ((t.1 * testTrim p g : Nat) : Int) (t.2 * 2 ^ 24)

/-- Stores GAIN of a calibration set. -/
def State.setCalGain (s : State) (p g : Nat) (w : W32) : State :=
  (s.wr (CAL_GAIN p g).addr w).modSp p (fun x => { x with gainSet := setBit x.gainSet g true })

/-- The calibrated value of a raw output under gain code `g` (R268). -/
def State.calibrate (s : State) (p g : Nat) (r : Int) : (Int × Bool) × State :=
  let d := r - asSigned 32 (s.get (CAL_OFS_OFS p g))
  match f32Value (s.calGain p g) with
  | .nan => s.noNumber
  | .infinite neg =>
    if d == 0 then s.noNumber
    else ((if (d < 0) != neg then -8388607 else 8388607, true), s)
  | .finite gain => (satResult (divRound (round53 (d * gain)) (2 ^ 149)), s)

/-! ### Linearisation (R272 to R277) -/

/-- A coefficient or table word in use (R275): the committed copy. -/
def State.inUse (s : State) (p a : Nat) : W32 := sparseGet (s.spOf p).use a (resetWord a)

/-- Registers of a port's linearisation shadow (R275). -/
def shadowAddrs (p : Nat) : List Nat :=
  (List.range 18).map (fun j => (PC_COEF p j).addr) ++
    (if p % 4 == 0 then (PWL_XMIN (p / 4)).addr :: (PWL_W (p / 4)).addr ::
      (List.range 65).map (fun i => (PWL_Y (p / 4) i).addr) else [])

/-- Copies a port's shadow into use (R275). -/
def State.commitShadow (s : State) (p : Nat) : State :=
  s.modSp p (fun x => { x with use := (shadowAddrs p).foldl (fun u a =>
    sparsePut u a (s.rd a) (resetWord a)) x.use })

/-- One term of the polynomial: a coefficient times a power product, which has its sign. -/
def F32.times (c : F32) (x : Int) : F32 := match c with
  | .finite v => .finite (v * x)
  | .infinite neg => if x == 0 then .nan else .infinite (neg != decide (x < 0))
  | .nan => .nan

def F32.value : F32 → Int
  | .finite v => v
  | _ => 0

/-- Binary64 adds the terms without rounding in whatever order: they are multiples of one power of two
and their sizes sum to less than 2^53 of it; no product of their parts is rounded either. -/
def sumExact (terms : List Int) : Bool :=
  let unit := Nat.gcd (terms.foldl (fun n t => Nat.gcd n t.natAbs) 0) (2 ^ 1000)
  decide (terms.foldl (fun n t => n + t.natAbs) 0 < 2 ^ 53 * unit)

/-- The polynomial of R273, evaluated exactly and rounded within what binary64 may change: nothing where
no operation rounds. -/
def State.polynomial (s : State) (p : Nat) (cal tv : Int) : (Int × Bool) × State :=
  let xd := min 5 (s.get (PC_PORT_XDEG p))
  let td := s.tdeg p
  let ks := (List.range 18).filter (fun k => k / 3 ≤ xd && k % 3 ≤ td)
  let terms := ks.map (fun k => (f32Value (s.inUse p (PC_COEF p k).addr)).times
    (cal ^ (k / 3) * tv ^ (k % 3) * 2 ^ (23 * (7 - k / 3 - k % 3))))
  let up := terms.contains (.infinite false)
  let down := terms.contains (.infinite true)
  if terms.contains .nan || (up && down) then s.noNumber
  else if up then ((8388607, true), s)
  else if down then ((-8388607, true), s)
  else
    let terms := terms.map F32.value
    let sum := terms.foldl (· + ·) 0
    let mag : Int := Int.ofNat (terms.foldl (fun n t => n + t.natAbs) 0)
    let (v, s) := s.roundWithin sum (if sumExact terms then 0 else mag / 2 ^ 46 + 1) (2 ^ 287)
    (satResult v, s)

/-- The piecewise-linear table of R276: value and RANGE. -/
def State.tableValue (s : State) (p : Nat) (cal : Int) : Int × Bool :=
  let m := p / 4
  let w := min 18 (s.inUse p (PWL_W m).addr).toNat % 32
  let y (i : Nat) : Int := asSigned 24 (s.inUse p (PWL_Y m i).addr).toNat
  let u := cal - asSigned 24 (s.inUse p (PWL_XMIN m).addr).toNat
  if u < 0 then (y 0, true)
  else if 64 * 2 ^ w ≤ u then (y 64, true)
  else
    let i := (u / 2 ^ w).toNat
    (y i + divRound ((y (i + 1) - y i) * (u % 2 ^ w)) (2 ^ w), false)

/-- Nominal R0 in Ohm (R277). -/
def State.rZero (s : State) (p : Nat) : Nat :=
  let c := s.get (PC_PORT_R0 p)
  if c == 1 then 500 else if c == 2 then 1000 else 100

/-- R(m) / R0 of a temperature of `m` thousandths of a degree by IEC 60751, times 10^27, with the A, B
and C of R277. -/
def rtdRatio (m : Int) : Int :=
  10 ^ 27 + 39083 * 10 ^ 17 * m - 5775 * 10 ^ 11 * m ^ 2 -
    (if m < 0 then 4183 * (m - 100000) * m ^ 3 else 0)

/-- The highest temperature from `lo` up whose resistance is no more than `cal` mOhm, searched among the
2^n that follow it. -/
def rtdSearch (r0 : Nat) (cal : Int) : Nat → Int → Int
  | 0, lo => lo
  | n + 1, lo =>
    if rtdRatio (lo + 2 ^ n) * r0 ≤ cal * 10 ^ 24 then rtdSearch r0 cal n (lo + 2 ^ n)
    else rtdSearch r0 cal n lo

/-- The temperature at which the function of R277 turns back, in thousandths of a degree. -/
def rtdTop : Int := 3383809

/-- The temperature of a resistance (R277), open within the error that R282 allows; above the highest
resistance that the function has it is open. -/
def State.rtdTemp (s : State) (r0 : Nat) (cal : Int) : Int × State :=
  if rtdRatio rtdTop * r0 ≤ cal * 10 ^ 24 then (rtdTop + (s.fresh.1 % 2 ^ 22 : Nat), s.fresh.2)
  else
    let lo := rtdSearch r0 cal 23 (-4000000)
    let lo := min lo (rtdTop - 1)
    let exact := rtdRatio lo * r0 == cal * 10 ^ 24
    let n := if exact then 5 else 4
    (lo - (if exact then 2 else 1) + (s.fresh.1 % n : Nat), s.fresh.2)

/-- A port of this PS_CFG and PS_AUX reads a thermocouple of a type, with its cold junction (R236). -/
def Conv.tcType (c : Conv) (p : Nat) : Nat :=
  let t := (PS_AUX_TCTYPE p).read c.aux
  if (PS_CFG_MODE p).read c.cfg != 7 || 9 ≤ t then 0 else t

/-- The port's mode has an IEC default (R277). -/
def Conv.hasIec (c : Conv) (p : Nat) : Bool :=
  let m := (PS_CFG_MODE p).read c.cfg
  (1 ≤ m && m ≤ 3) || c.tcType p != 0

/-- LIN as it acts (R272). -/
def State.lin (s : State) (p : Nat) (c : Conv) : Nat :=
  let l := s.get (PC_PORT_LIN p)
  if l == 3 && p % 4 != 0 then 0 else if l == 2 && !c.hasIec p then 0 else l

/-- The settings set LINERR (R272, R274). -/
def State.linBad (s : State) (p : Nat) (c : Conv) : Bool :=
  s.lin p c != s.get (PC_PORT_LIN p) || (s.get (PC_PORT_TDEG p) != 0 && s.get (PC_PORT_TPORT p) == p)

/-- tv of R274: nothing when the temperature port has no good result. -/
def State.tempValue (s : State) (p : Nat) (c : Conv) : Option Int :=
  if s.lin p c != 1 || s.tdeg p == 0 then some 0
  else match (s.spOf (s.get (PC_PORT_TPORT p))).last with
    | some r => if r.fault then none else some r.value.toInt
    | none => none

/-- VALUE, RANGE and SAT of a calibrated value (R272 to R277). -/
def State.linearise (s : State) (p : Nat) (c : Conv) (cal tv : Int) : (Int × Bool × Bool) × State :=
  let l := s.lin p c
  if l == 0 then ((cal, false, false), s)
  else if l == 1 then
    let ((v, sat), s) := s.polynomial p cal tv
    ((v, false, sat), s)
  else if l == 3 then
    let (v, r) := s.tableValue p cal
    ((v, r, false), s)
  else if c.tcType p != 0 then
    let v := Config.tcTemp (c.tcType p) ((PS_CFG_GAIN p).read c.cfg) cal
    (((satResult v).1, !Config.tcInRange (c.tcType p) v, false), s)
  else
    let (v, s) := s.rtdTemp (s.rZero p) cal
    (((satResult v).1, decide (v < -200000 ∨ 850000 < v), false), s)

/-! ### Records and the deadband (R278, R279, R362) -/

/-- What a served request leaves in the record (R263, R278). -/
structure Served where
  urg : Bool := false
  loop : Bool := false
  snap : Bool := false
  cmd : Bool := false
  wait : Nat := 0
  deriving DecidableEq, Repr

/-- The fields of the request being served; WAIT in units of 0.5 µs, its fraction rounded in an open
direction. -/
def State.servedBy (s : State) (k : Nat) : Served × State :=
  match (s.pcOf k).serving with
  | some (u, t) =>
    let (w, s) := s.roundOpen ((t - u.since).toNat : Int) 625
    ({ urg := true, loop := u.loop, snap := u.snap, cmd := u.cmd, wait := saturate 24 w.toNat }, s)
  | none => ({}, s)

/-- The deadband lets a result through (R362). -/
def State.dbPasses (s : State) (p : Nat) (r : PResult) (v : Served) : Bool :=
  if !s.bit (DB_CFG_EN p) then true
  else match (s.spOf p).deadband with
    | none => true
    | some d =>
      r.fault || d.fault || v.snap || v.cmd || r.range != d.range || r.sat != d.sat ||
        r.tfault != d.tfault || decide (s.get (DB_CFG_DELTA p) < (r.value.toInt - d.value).natAbs) ||
        (s.get (DB_HB_N p) != 0 && s.get (DB_HB_N p) ≤ d.since + 1)

/-- Queues a result's record, under gain code `g`, through the deadband (R278, R279). -/
def State.queueResult (s : State) (p g : Nat) (r : PResult) (v : Served) (helper : Bool)
    (raw : Int) : State :=
  if s.standby then s
  else if !s.dbPasses p r v then
    (s.bump (DB_CNT_SUPPR p)).modSp p (fun x => { x with
      deadband := x.deadband.map (fun d => { d with since := d.since + 1 }) })
  else
    let p0 := packWord [(r.value.toNat, 40, 24), (min 15 (s.spOf p).restarts, 36, 4),
      (b2n v.urg, 35, 1), (b2n helper, 34, 1), (b2n v.loop, 33, 1), (b2n v.snap, 32, 1),
      (b2n v.cmd, 31, 1), (g, 28, 3), (b2n r.range, 27, 1), (b2n r.sat, 26, 1),
      (b2n r.tfault, 25, 1), (v.wait, 0, 24)]
    let p1 := if s.bit (PC_OUT_RAWW p) then
      [packWord [(r.cal.toNat, 40, 24), (asCode 32 raw, 0, 32)]] else []
    let (c, s) := s.makeRec 3 p { tick := r.tick } (p0 :: p1) r.fault
    let (ok, s) := s.publish (s.get (PC_OUT_QUEUE p)) c
    if !ok then s
    else (s.bump (DB_CNT_QUEUED p)).modSp p (fun x => { x with
      deadband := some { value := r.value.toInt, fault := r.fault, range := r.range, sat := r.sat
                         tfault := r.tfault } })

/-- Publishes a result to every consumer (R278, R279, R284, R285); a fault record that is one of the
results of a calibration (`mine`) ends it (R271). -/
def State.publishResult (s : State) (p g : Nat) (r : PResult) (v : Served) (helper : Bool)
    (raw : Int) (mine : Bool) : State :=
  let s := s.queueResult p g r v helper raw
  let marked := (s.spOf p).marked
  let s := s.modSp p (fun x => { x with
    last := some r, before := (s.spOf p).last, restarts := 0, marked := r.range || r.sat })
  let s := (s.put (PC_LAST_VALUE p) r.value.toNat).putB (PC_LSTAT_VALID p) true
  let s := s.when r.range (fun s => s.putB (PC_LSTAT_RANGE p) true)
  let s := s.when r.sat (fun s => s.putB (PC_LSTAT_SAT p) true)
  let s := s.bump (PC_LSTAT_RESULTS p)
  let s := s.when ((r.range || r.sat) && !marked) (fun s => s.raise (400 + p))
  (s.when (r.fault && mine) (fun s => s.calBroken p 1)).tempCompleted p

/-- Publishes a fault sentinel (R244, R246): its CAL and RAW are open. -/
def State.sentinel (s : State) (p : Nat) (t : Tick) (v : Served) (mine : Bool) : State :=
  let (c, s) := s.fresh
  let (w, s) := s.fresh
  s.publishResult p (s.get (PS_CFG_GAIN p)) { value := 0x800000, cal := BitVec.ofNat 24 c, tick := t
                                              done := s.tb.up, fault := true } v false w mine

/-! ### Results (R236, R257, R258, R267) -/

/-- The helping core's correction (R267). -/
def State.helperRaw (s : State) (core : Nat) (r : Int) : Int × State :=
  let mo := asSigned 16 (s.get (PC_IMATCH_MO core))
  let mg := asSigned 16 (s.get (PC_IMATCH_MG core))
  let (d, s) := s.roundOpen (r * mg) (2 ^ 26)
  (r + 16 * mo + d, s)

/-- The lead drop that RTD2 subtracts (R231, R234): I x PS_LEAD in units of the raw output. -/
def State.lessLead (s : State) (p : Nat) (c : Conv) (r : Int) : Int × State :=
  if (PS_CFG_MODE p).read c.cfg != 3 then (r, s)
  else
    let (d, s) := s.roundOpen
      ((iexcOf p c.exc * s.get (PS_LEAD_LEAD p) * 2 ^ (30 + (PS_CFG_GAIN p).read c.cfg) : Nat) : Int)
      25000000
    (r - d, s)

/-- Limits a raw output (R257). -/
def limitRaw (r : Int) : Int := max (-(2 ^ 31 - 1)) (min (2 ^ 31 - 1) r)

/-- A result counts for a calibration that runs (R270, R271); `raw` is the conversion's output before
any correction. -/
def State.countCal (s : State) (p : Nat) (r raw : Int) (fresh helper : Bool) : State :=
  s.modSp p (fun x => { x with cal := x.cal.map (fun j =>
    if fresh && j.count < j.n then
      { j with sum := j.sum + r, count := j.count + 1
               helpSum := if helper then j.helpSum + r else j.helpSum
               helpCount := if helper then j.helpCount + 1 else j.helpCount
               helpRaw := if helper then j.helpRaw + raw else j.helpRaw }
    else j) })

/-- LINERR as a result sets it (R272, R274, R285). -/
def State.checkLin (s : State) (p : Nat) (c : Conv) : State :=
  if s.linBad p c then
    let was := s.bit (PC_LSTAT_LINERR p)
    (s.putB (PC_LSTAT_LINERR p) true).when (!was) (fun s => s.raise (400 + p))
  else s

/-- Forms and publishes the result of raw output `r` under the settings of its conversion (R236, R249,
R268, R272 to R274). -/
def State.formResult (s : State) (p : Nat) (c : Conv) (r : Int) (t : Tick) (v : Served)
    (helper mine : Bool) : State :=
  let g := (PS_CFG_GAIN p).read c.cfg
  let tc := c.tcType p
  let ((cal, sat1), s) := s.calibrate p g r
  let cj := match (s.spOf ((PS_AUX_CJPORT p).read c.aux)).last with
    | some x => if x.fault then none else some x.value.toInt
    | none => none
  let (cal, sat2) := match tc != 0, cj with
    | true, some e => satResult (cal + Config.emf tc g e)
    | _, _ => (cal, false)
  let s := s.checkLin p c
  let bad (tf : Bool) : PResult :=
    { value := 0x800000, cal := BitVec.ofInt 24 cal, tick := t, done := s.tb.up, fault := true
      tfault := tf, sat := sat1 || sat2 }
  if tc != 0 && cj.isNone then (s.publishResult p g (bad false) v helper r mine).raise (323 + 4 * p)
  else match s.tempValue p c with
    | none => s.publishResult p g (bad true) v helper r mine
    | some tv =>
      let ((x, range, sat3), s) := s.linearise p c cal tv
      s.publishResult p g
        { value := BitVec.ofInt 24 x, cal := BitVec.ofInt 24 cal, tick := t, done := s.tb.up
          fault := false, range := range, sat := sat1 || sat2 || sat3 } v helper r mine

/-- Tick of the middle modulator sample of a conversion of an even number of samples: either of the
two (R258). -/
def State.centroid (s : State) (start : Tick) (d : Nat) : Tick × State :=
  (start + BitVec.ofNat 48 ((d / 2 - s.fresh.1 % 2) * 625), s.fresh.2)

/-- A raw output joins its pairing partner (R237): the published raw value, its tick and whether
every conversion in it is fresh; nothing while a partner is missing. -/
def State.pairUp (s : State) (p : Nat) (c : Conv) (r : Int) (t : Tick) (fresh : Bool) :
    Option (Int × Tick × Bool) × State :=
  if !phasesBy p c.cfg then (some (r, t, fresh), s)
  else
    let ph := (s.spOf p).phase
    let prev := (s.spOf p).prev
    let s := s.modSp p (fun x => { x with prev := some (ph, r, t, fresh) })
    match prev with
    | some (ph', r', t', fresh') =>
      if ph' == ph then (none, s)
      else
        let a := if ph then r' else r
        let b := if ph then r else r'
        let (m, s) := s.roundOpen (if (PS_CFG_MODE p).read c.cfg == 2 then a + b else a - b) 2
        (some (m, t' + BitVec.ofNat 48 ((t - t').toNat / 2), fresh && fresh'), s)
    | none => (none, s)

/-- What follows a conversion of port `p` that has ended: on an interleaved port the core starts the
next one at once, which takes a request that waits for the port; any other turn is over (R260, R266). -/
def State.afterConversion (s : State) (k core p : Nat) : State :=
  if s.interleaved p then
    let (u, s) := s.takeRequest k p
    s.modPc core (fun x => { x with
      convStart := s.now, old := false, conv := some (s.convNow p), serving := u })
  else (s.setPort p psWAIT).endTurn k p

/-- CONVERSION_COMPLETE (R257 to R267): core `k`, or its helping partner, ends a conversion. Settings
written after its last sample apply to the next one, which pairs with none before it (R238, R250). -/
def State.conversionComplete (s : State) (k : Nat) (helper : Bool) (raw : Int) : State :=
  let core := if helper then k ^^^ 1 else k
  let runs := if helper then s.bit (PC_ILV_ACTIVE k) && s.coreState core == cHELP &&
      s.portState (s.corePort k) == psCONVERT
    else s.coreState k == cCONVERT
  if !runs then s
  else
    let p := s.corePort k
    let x := s.pcOf core
    let c := s.convOf core
    let s := s.advanceTo (x.convStart + BitVec.ofNat 48 (c.d * 625))
    let (t, s) := s.centroid x.convStart c.d
    let raw := limitRaw raw
    let (r, s) := if helper then s.helperRaw core raw else (raw, s)
    let (r, s) := s.lessLead p c r
    let r := limitRaw r
    let (v, s) := s.servedBy core
    let s := s.when v.urg (fun s => s.bump (PC_CSTAT_URGCNT k))
    let ph := (s.spOf p).phase
    let (res, s) := s.pairUp p c r t (!x.old)
    let s := match res with
      | some (y, ty, fresh) => (s.countCal p y raw fresh helper).formResult p c y ty v helper fresh
      | none => s
    let s := s.when c.stale (fun s => s.dropPair p)
    let s := s.modPc k (fun c => { c with prevPort := some (BitVec.ofNat 4 p, ph) })
    s.afterConversion k core p

/-! ### Faults (R242 to R248) -/

/-- The pins that a port's mode and phase let the window check see: EA, SA, SB, EB, SA', SB' from
bit 5 down (R231, R242). -/
def State.checkedPins (s : State) (p : Nat) : Nat :=
  let m := s.portMode p
  let b := (s.spOf p).phase
  let pins := if m == 1 then (if b then 0x1C else 0x38)
    else if m == 2 then 0x24
    else if m == 3 then 0x20
    else if m == 4 then 0x18
    else if m == 5 then 0x1B
    else if 6 ≤ m && m ≤ 8 then 0x18
    else 0
  pins &&& s.get (PS_FLT_PINS p)

/-- The checked pins that one modulator sample finds out of the window; it gives the voltages of EA, SA,
SB, EB, SA' and SB' in millivolts, in this order (R242). -/
def State.pinsOut (s : State) (p : Nat) (volts : List Int) : Nat :=
  let lo : Int := 20 * s.get (PS_FLT_CM_LO p)
  let hi : Int := 20 * s.get (PS_FLT_CM_HI p)
  if !s.bit (PS_FLT_FEN p) || !s.portAwake p then 0
  else s.checkedPins p &&& ((List.range 6).foldl (fun n i =>
    let v := volts.getD i 0
    2 * n + b2n (decide (v < lo) || decide (hi < v))) 0)

/-- The port enters FAULT with a cause; a conversion in hand is abandoned, and of the requests it served
the helping core's hear that they are not served (R243, R244, R246, R264, R266). -/
def State.portFault (s : State) (p cause pins : Nat) (t : Tick) (record : Bool) : State :=
  let k := p / 2
  let busy := s.inHand p && s.coreState k != cSLOT
  let mine := !(s.coreState k == cCONVERT && (s.pcOf k).old)
  let lost := if busy && s.bit (PC_ILV_ACTIVE k) then (s.pcOf (k ^^^ 1)).serving.toList else []
  let (v, s) := if busy then s.servedBy k else ({}, s)
  let s := ((s.putB (PS_STAT_FAULT p) true).put (PS_STAT_CAUSE p) cause).put (PS_STAT_PINS p) pins
  let s := ((s.setPort p psFAULT).dropPair p).modSp p (fun x => { x with settle := true })
  let s := s.raise (320 + 4 * p)
  let s := s.when record (fun s => s.sentinel p t v mine)
  let s := if busy then s.endTurn k p else s
  lost.foldl (fun s e => s.notServed e.1) s

/-- WINDOW_FAULT (R243, R244, R248): eight samples in a row, the last at tick `t`, each with a checked
pin out of the window. -/
def State.windowFault (s : State) (p : Nat) (samples : List (List Int)) (t : Tick) : State :=
  let st := s.portState p
  if samples.length != 8 || samples.any (fun v => s.pinsOut p v == 0) then s
  else
    let hit := s.pinsOut p (samples.getD 7 [])
    let s := s.advanceTo t
    if st == psFAULT then s.modSp p (fun x => { x with clean := false })
    else s.portFault p 1 hit t (st == psSETTLE || st == psCONVERT)

/-- WINDOW_GLITCH (R245, R248): a run of fewer samples ends. -/
def State.windowGlitch (s : State) (p : Nat) (samples : List (List Int)) : State :=
  if samples.isEmpty || 8 ≤ samples.length || samples.any (fun v => s.pinsOut p v == 0) then s
  else (s.bump (PS_CNT_GLITCH p)).modSp p (fun x => { x with clean := false })

/-- IMPEDANCE_RESULT (R246, R248): the slot ends with its results, and a fault when one is over its
limit. -/
def State.impedanceResult (s : State) (k loop lead : Nat) : State :=
  if s.coreState k != cSLOT then s
  else
    let p := s.corePort k
    let s := s.advanceTo ((s.pcOf k).convStart + BitVec.ofNat 48 tImp)
    let lead := if s.leadPath p then lead else 0
    let s := (s.put (PS_IMPR_LOOP p) (saturate 16 loop)).put (PS_IMPR_LEAD p) (saturate 16 lead)
    let overLoop := decide (s.get (PS_IMP_LOOP_MAX p) < loop)
    let overLead := s.get (PS_IMP_LEAD_MAX p) != 0 && decide (s.get (PS_IMP_LEAD_MAX p) < lead)
    let s := s.modSp p (fun x => { x with impOver := overLoop || overLead, impAt := s.tb.up })
    let s := s.freeCore k
    if (overLoop || overLead) && s.portState p != psFAULT then
      s.portFault p (if overLoop then 2 else 3) 0 s.now true
    else s

/-! ### Calibration commands (R267, R270, R271) -/

/-- CAL_ZERO and CAL_FULL after their general checks: a refusal, or the state in which the
calibration runs. -/
def State.calCmd (s : State) (c : Cmd) (full : Bool) : (Nat × Nat) ⊕ State :=
  let p := bits (param c 0) 19 16
  let n := bits (param c 0) 15 0
  let fs := bits (param c 1) 23 0
  let st := s.portState p
  if c.p.length != (if full then 2 else 1) then .inl (stBadParam, 6)
  else if n == 0 then .inl (stBadParam, 0)
  else if !(st == psWAIT || st == psSETTLE || st == psCONVERT) then .inl (stStateConflict, 0x50)
  else if (s.spOf p).cal.isSome then .inl (stBusy, 0)
  else if full && (fs == 0 || fs == 0x800000) then .inl (stBadParam, 0)
  else
    let k := p / 2
    let s := s.modSp p (fun x => { x with
      cal := some { full := full, tag := c.tag, n := n, fs := asSigned 24 fs, since := s.tb.up }
      prev := x.prev.map (fun e => (e.1, e.2.1, e.2.2.1, false)) })
    let s := s.when (s.corePort k == p && s.coreState k == cCONVERT) (fun s =>
      s.modPc k (fun x => { x with old := true }))
    .inr (s.when (s.interleaved p && !s.helperAhead k) (fun s =>
      s.modPc (k ^^^ 1) (fun x => { x with old := true })))

/-- The helping core's match after a calibration of an interleaved port (R267): it moves by what
makes both means equal, rounded in an open direction; MG acts on the output before its correction. -/
def State.matchHelper (s : State) (p : Nat) (j : CalJob) : State :=
  let k := p / 2
  let core := k ^^^ 1
  let main := j.sum - j.helpSum
  let mainN := j.count - j.helpCount
  if !s.bit (PC_ILV_ACTIVE k) || j.helpCount == 0 || mainN == 0 then s
  else
    let diff := main * j.helpCount - j.helpSum * mainN
    if !j.full then
      let (d, s) := s.roundOpen diff (16 * mainN * j.helpCount)
      s.put (PC_IMATCH_MO core) (asCode 16 (asSigned 16 (s.get (PC_IMATCH_MO core)) + d))
    else if j.helpRaw == 0 then s
    else
      let sign : Int := if j.helpRaw < 0 then -1 else 1
      let (d, s) := s.roundOpen (sign * diff * 2 ^ 26) (mainN * j.helpRaw.natAbs)
      s.put (PC_IMATCH_MG core) (asCode 16 (asSigned 16 (s.get (PC_IMATCH_MG core)) + d))

/-- CAL_RESULTS_DONE (R270, R271). -/
def State.calDone (s : State) (p : Nat) : State :=
  match (s.spOf p).cal with
  | none => s
  | some j =>
    if j.count < j.n then s
    else
      let g := s.get (PS_CFG_GAIN p)
      let s := s.modSp p (fun x => { x with cal := none })
      let ofs := asSigned 32 (s.get (CAL_OFS_OFS p g))
      let d := j.sum - ofs * j.n
      if j.full && decide (d.natAbs < 2 ^ 20 * j.n) then s.answer j.tag stLimit 1
      else
        let (o, s) := s.roundNear j.sum j.n
        let s := if j.full then
            s.setCalGain p g (f32Of (if d < 0 then -(j.fs * j.n) else j.fs * j.n) d.natAbs)
          else s.put (CAL_OFS_OFS p g) (asCode 32 o)
        let s := s.matchHelper p j
        s.answer j.tag stOk 0 [packWord [(s.get (CAL_OFS_OFS p g), 32, 32),
          ((s.calGain p g).toNat, 0, 32)]]

/-- 60 s in ticks (R271). -/
def calLimit : Nat := 75000000000

/-- CAL_TIMEOUT (R271). -/
def State.calTimeout (s : State) (p : Nat) : State :=
  match (s.spOf p).cal with
  | some j =>
    if j.n ≤ j.count then s
    else ((s.advanceUp (j.since + calLimit)).answer j.tag stTimedOut
      (min 255 (j.n - j.count))).modSp p (fun x => { x with cal := none })
  | none => s

/-- A write to PC_LCOMMIT (R275). -/
def State.writeLcommit (s : State) (v : W32) : WriteResult :=
  .ok ((setBits (v.extractLsb' 0 16)).foldl State.commitShadow s)

/-! ### PWF pins (R280, R281) -/

/-- The pin may drive (R281). -/
def State.pwfOn (s : State) (n : Nat) : Bool :=
  s.bit (PWF_CFG_EN n) && s.modeOn mSURVEY && !s.standby && s.readyOrActive && s.domOn dPCV

/-- Sets a pin's wave; in open-drain mode it only sinks current (R281). -/
def State.setPwf (s : State) (n : Nat) (w : Pwf) : State :=
  (s.modPins (fun x => { x with pwf := s.pins.pwf.set n { w with od := s.bit (PWF_CFG_OD n) } }))

/-- Pins that may not drive go high impedance, the others follow OD (R281). -/
def State.refreshPwf (s : State) : State :=
  (List.range 8).foldl (fun s n =>
    s.setPwf n (if s.pwfOn n then s.pins.pwf.getD n {} else {})) s

/-- The wave of pin `n` for a value (R280). -/
def State.pwfWave (s : State) (n : Nat) (v : Int) : Pwf × State :=
  let lo := asSigned 24 (s.get (PWF_VLO_VLO n))
  let hi := asSigned 24 (s.get (PWF_VHI_VHI n))
  if hi ≤ lo then ({ level := 0 }, s)
  else
    let den := (hi - lo).toNat
    let num := max 0 (min (hi - lo) (v - lo))
    if !s.bit (PWF_CFG_MODE n) then
      let per := max 1 (s.get (PWF_CFG_PER n)) * 100
      if num == 0 then ({ level := 0 }, s)
      else if num == hi - lo then ({ level := 1 }, s)
      else
        let (h, s) := s.roundNear (num * per) den
        ({ level := 3, high := h.toNat, period := per }, s)
    else
      let fl : Int := min 50000 (s.get (PWF_FRQ_FLO n))
      let fh : Int := min 50000 (s.get (PWF_FRQ_FHI n))
      -- frequency in units of 1 / den Hz, at least 1 Hz
      let f := max (den : Int) (2 * (fl * den + num * (fh - fl)))
      let (per, s) := s.roundNear (10000000 * den) f.toNat
      let (h, s) := s.roundOpen per 2
      ({ level := 3, high := h.toNat, period := per.toNat }, s)

/-- PWF_PERIOD_START (R280, R281). Before its port has a result the pin shows an open level. -/
def State.pwfPeriod (s : State) (n : Nat) : State :=
  if !s.pwfOn n then s.setPwf n {}
  else match (s.spOf (s.get (PWF_CFG_PORT n))).last with
    | none => s.fresh.2.setPwf n { level := BitVec.ofNat 2 (s.fresh.1 % 2) }
    | some r =>
      if r.fault then
        let f := s.get (PWF_CFG_FSTATE n)
        if f == 1 then s.setPwf n { level := 0 }
        else if f == 2 then s.setPwf n { level := 1 }
        else s
      else
        let (w, s) := s.pwfWave n r.value.toInt
        s.setPwf n w

/-- A write to PWF_CFG: EN = 0 leaves the pin high impedance (R281). -/
def State.writePwfCfg (s : State) (n : Nat) (v : W32) : WriteResult :=
  .ok ((s.plainWrite (PWF_CFG n).addr v).refreshPwf)

/-! ### The commands -/

def execConversionComplete (k : BitVec 3) (helper : Bool) (raw : Int) (s : State) :
    Host.Outcome State Fault Refusal :=
  .next (s.conversionComplete k.toNat helper raw)

def execWindowFault (p : BitVec 4) (samples : List (List Int)) (t : Tick) (s : State) :
    Host.Outcome State Fault Refusal :=
  .next (s.windowFault p.toNat samples t)

def execWindowGlitch (g : PinSamples) (s : State) : Host.Outcome State Fault Refusal :=
  .next (s.windowGlitch g.port.toNat g.samples)

def execImpedanceResult (k : BitVec 3) (loop lead : BitVec 16) (s : State) :
    Host.Outcome State Fault Refusal :=
  .next (s.impedanceResult k.toNat loop.toNat lead.toNat)

def execCalResultsDone (p : BitVec 4) (s : State) : Host.Outcome State Fault Refusal :=
  .next (s.calDone p.toNat)

def execCalTimeout (p : BitVec 4) (s : State) : Host.Outcome State Fault Refusal :=
  .next (s.calTimeout p.toNat)

def execPwfPeriodStart (n : BitVec 3) (s : State) : Host.Outcome State Fault Refusal :=
  .next (s.pwfPeriod n.toNat)

end Sys2Proof.Machine
end

