-- ==== Sys2Proof/Machine/Trigger.lean ====
section
/-! DEFINITION. Triggering and capture (R139 to R166): conditions, arming sets, FIREs, gatherings,
cuts, overflow marks, TRIGIN and TRIGOUT. -/
namespace Sys2Proof.Machine

def armIDLE : Nat := 0
def armPENDING : Nat := 1
def armARMED : Nat := 2

def State.armState (s : State) : Nat := s.get TRG_STAT_ARMST

def State.armTick (s : State) : Tick :=
  BitVec.ofNat 48 (s.get TRG_ARMT_HI_TICK_H * 2 ^ 32 + s.get TRG_ARMT_LO_TICK_L)

def State.settle (s : State) : Tick := BitVec.ofNat 48 (s.get TRG_SET_SETTLE)

def State.armRoot (s : State) : BitVec 6 := BitVec.ofNat 6 (s.get TRG_STAT_ROOT)

def State.members (s : State) : W64 :=
  BitVec.ofNat 64 (s.get TRG_MEM_HI_MEM_H * 2 ^ 32 + s.get TRG_MEM_LO_MEM_L)

/-- This unit is named by a MEMBERS bitmap: itself, or its partner while it is the active of a pair
(R147). -/
def State.isMember (s : State) (m : W64) : Bool :=
  m.getLsbD s.unitId || (s.cstate == csACTIVE && m.getLsbD Config.partnerId)

/-! ### Conditions (R139 to R142) -/

/-- A sample word that no condition sees: RESET, or GAP (R131, R141). -/
def flagged (w : BitVec 16) : Bool := w.getLsbD 1

/-- The signed sample of a word. -/
def sampleOf (w : BitVec 16) : Int := asSigned 14 (w.toNat / 4)

def State.tcLevel (s : State) (n : Nat) : Int := asSigned 24 (s.get (TC_LEVEL_LEVEL n))

/-- TC_MASK as a set of hit channels. -/
def State.tcMask (s : State) (n c : Nat) : Bool :=
  if c < 32 then s.has (TC_MASK_LO_MASK_L n) c else s.has (TC_MASK_HI_MASK_H n) (c - 32)

/-- The hits that condition `n` sees with stamps in (t - WINDOW, t] (R139, R141). -/
def State.seenHits (s : State) (n : Nat) (t : Tick) (l : List (BitVec 6 × Tick)) :
    List (Nat × Tick) :=
  (l.map (fun e => (e.1.toNat, e.2))).filter (fun e =>
    s.tcMask n e.1 && !s.tkExclusive e.1 && !(e.1 < 32 && s.blanked e.1 e.2) &&
      tickLe e.2 t && decide ((t - e.2).toNat < s.get (TC_WIN_WINDOW n)))

/-- Whether the input meets condition `n`, and its met-tick (R139, R141). -/
def State.meets (s : State) (n : Nat) (i : CondInput) : Option Tick :=
  let ty := s.get (TC_CFG_TYPE n)
  let mode := s.get (TC_CFG_MODE n)
  let src := s.get (TC_CFG_SRC n)
  let onlyIf (b : Bool) (t : Tick) : Option Tick := if b then some t else none
  match i with
  | .sample t prev cur =>
    let lv := s.tcLevel n
    let x := sampleOf cur
    let y := sampleOf prev
    onlyIf (ty == 0 && src < 32 && !s.faExclusive src && !s.oddOfPair src && !s.blanked src t &&
      !flagged cur &&
      (if mode == 0 then decide (lv ≤ x)
       else if mode == 1 then decide (x ≤ lv)
       else if mode == 2 then !flagged prev && decide (lv ≤ x ∧ y < lv)
       else !flagged prev && decide (x ≤ lv ∧ lv < y))) t
  | .hits t l =>
    let seen := s.seenHits n t l
    let last := seen.any (fun e => e.2 == t)
    if ty == 1 then onlyIf (last && max 1 (s.get (TC_WIN_MULT n)) ≤ seen.length) t
    else onlyIf (ty == 2 && last && (List.range 64).all (fun c =>
      !s.tcMask n c || seen.any (fun e => e.1 == c))) t
  | .precision t prev cur fault =>
    let lv := s.tcLevel n
    onlyIf (ty == 3 && src < 16 && !fault &&
      (if mode % 2 == 0 then decide (lv ≤ cur.toInt ∧ prev.toInt < lv)
       else decide (cur.toInt ≤ lv ∧ lv < prev.toInt))) t
  | .trigin t rising =>
    onlyIf (ty == 4 && (mode == 2 || rising == (mode != 1))) t
  | .remoteFire unit t =>
    onlyIf (ty == 5 && (mode == 1 || unit.toNat == src)) (t + BitVec.ofNat 48 (s.get (TC_WIN_WINDOW n)))
  | .periodic t =>
    let p := 16 * s.get (TC_PERIOD_PERIOD n)
    onlyIf (ty == 6 && p != 0 && t.toNat % p == 0) t
  | .command t =>
    let asked := s.trg.routed.contains (BitVec.ofNat 5 n, t) ||
      s.atq.pend.any (fun p => p.waits == .fire (BitVec.ofNat 5 n) t)
    onlyIf (ty == 7 && asked) t

/-! ### Markers and records (R143, R144, R156) -/

/-- Ports that a marker is forwarded on: every live tree port but the one it came in on (R143,
R144). The head's spine leads to no unit; an ARM stays in ROOT's subtree. -/
def State.markerPorts (s : State) (m : TrigMark) (from_ : Option Nat) : List Nat :=
  [0, 1, 2, 3].filter (fun n => s.gxLive n && some n != from_ &&
    !(n == 0 && (s.isHead || (m.kind == 1 && m.root.toNat == s.unitId))))

/-- Queues a marker for the ports it is forwarded on. -/
def State.flood (s : State) (m : TrigMark) (from_ : Option Nat) : State :=
  (s.markerPorts m from_).foldl (fun s n =>
    s.modGx n (fun g => { g with txMarks := g.txMarks ++ [m] })) s

/-- Publishes a trigger marker record (R156); a standby publishes none (R147). -/
def State.markRecord (s : State) (kind : Nat) (st : Stamp) (m : TrigMark) (p1 : W64)
    (gen : Nat := s.tb.gen) : State :=
  if s.standby then s
  else
    let p0 := packWord [(kind, 60, 4), (m.origin.toNat, 54, 6), (m.root.toNat, 48, 6),
      (m.tick.toNat, 0, 48)]
    let (r, s) := s.makeRec 9 0x60 st [p0, p1] (gen := gen)
    s.publishWait (s.get TRG_CFG_QUEUE) r gen

/-! ### Cuts (R152 to R157) -/

/-- The window of a gathering whose T0 lies before a step that comes in it (R153). -/
def clipStep (step : Tick) (g : Gathering) : Gathering :=
  if tickLt g.t0 step && tickLt step g.hi then { g with hi := step, cut := true } else g

/-- Channels that a gathering cuts (R152). -/
def State.cutChannels (s : State) : List (BitVec 5) :=
  ((List.range 32).filter (fun c => s.has TRG_CAP_CH c && !s.faExclusive c && !s.oddOfPair c &&
    s.bit (FA_CFG_EN c))).map (fun c => BitVec.ofNat 5 c)

/-- The window of a gathering (R152, R153), found in moments, which neither a step nor a wrap moves: it
ends at a step that T0 lies before, starts at one that T0 does not lie before, and does not start
before LISTEN was switched on. -/
def State.window (s : State) (g : Gathering) : Gathering :=
  let t0 := s.elapsedAt g.t0 g.gen
  let lo := t0 - (4 * s.get TRG_WIN_PRE : Nat)
  let hi := t0 + (4 * s.get TRG_WIN_POST : Nat)
  let (lo', hi') := match s.tb.lastStep with
    | some (_, u) => if t0 < u then (lo, min hi u) else (max lo u, hi)
    | none => (lo, hi)
  let lo' := max lo' s.trg.since
  let label (m : Int) : Tick := g.t0 + BitVec.ofInt 48 (m - t0)
  { g with lo := label lo', hi := label hi', cut := lo' != lo || hi' != hi }

/-- INFLIGHT follows the gatherings (R165). -/
def State.syncInflight (s : State) : State :=
  s.put TRG_STAT_INFLIGHT (s.trg.gaths.countP (fun g => !g.cuts.isEmpty))

/-- Labels of a channel's samples in [lo, hi) (R124, R127, R152). -/
def labels (per : Nat) (lo hi : Tick) : List Tick :=
  let first := (lo.toNat + per - 1) / per
  let last := (lo.toNat + (hi - lo).toNat + per - 1) / per
  if tickLt lo hi then
    (List.range (last - first)).map (fun i => BitVec.ofNat 48 ((first + i) * per))
  else []

/-- Splits a list into pieces of `n`, the last one shorter. -/
def chunks {α : Type} (n : Nat) : Nat → List α → List (List α)
  | 0, _ => []
  | k + 1, l => if l.isEmpty then [] else l.take n :: chunks n k (l.drop n)

/-- ceil(log2 n) for n up to 4,096 (R154). -/
def clog2 (n : Nat) : Nat := ((List.range 13).find? (fun e => decide (n ≤ 2 ^ e))).getD 12

/-- An averaged output of a run of sample words (R154). -/
def averageOf (l : List (BitVec 16)) : Nat :=
  if l.contains gapWord then 3
  else
    let sum := l.foldl (fun a w => a + sampleOf w) 0
    asCode 24 (sum / 2 ^ (clog2 l.length - 10)) * 256 + b2n (l.any (fun w => w.getLsbD 1)) * 2 +
      b2n (l.any (fun w => w.getLsbD 0))

/-- A capture's outputs on one channel: label of each output's first sample, and its value
(R152, R154). -/
def State.outputs (s : State) (c : Nat) (g : Gathering) : List (Tick × Nat) :=
  let per := if s.paired c then 2 else 4
  let ls := (labels per g.lo g.hi).map (fun t => (t, s.ringWord c t g.gen))
  let n := s.get TRG_AVG_NM1 + 1
  if n == 1 then ls.map (fun e => (e.1, e.2.toNat))
  else ((chunks n ls.length ls).filter (fun r => r.length == n)).map (fun r =>
    ((r.map (fun e => e.1)).headD 0, averageOf (r.map (fun e => e.2))))

/-- Packs output values of `w` bits into words, earliest in the low bits (R155). -/
def packValues (w : Nat) (l : List Nat) : List W64 :=
  (chunks (64 / w) l.length l).map (fun r =>
    packWord ((List.range r.length).zip r |>.map (fun e => (e.2, e.1 * w, w))))

/-- D0 of a capture (R155). -/
def captureD0 (g : Gathering) : W64 :=
  packWord [(g.t0.toNat, 16, 48), (g.origin.toNat, 10, 6), (g.id.toNat, 5, 5)]

/-- The records of a capture as stamp and payload, in order (R155). -/
def captureParts (g : Gathering) (nm1 : Nat) (outs : List (Tick × Nat)) :
    List (Tick × List W64) :=
  let w := if nm1 == 0 then 16 else 32
  let per := if nm1 == 0 then 4084 else 2042
  let pre := outs.countP (fun e => tickLt e.1 g.t0)
  let parts := if outs.isEmpty then [[]] else chunks per outs.length outs
  (List.range parts.length).zip parts |>.map (fun e =>
    ((e.2.map (fun o => o.1)).headD g.lo,
     captureD0 g :: packWord [(outs.length, 47, 17), (pre, 30, 17), (e.1 * per, 13, 17),
       (b2n g.cut, 12, 1), (nm1, 0, 12)] :: packValues w (e.2.map (fun o => o.2))))

/-- Publishes the records of a capture on channel `c`, the last of them with `ovf`; tells how many
were taken. It stops at the first that is refused. -/
def State.publishParts (c gen : Nat) (hold ovf : Bool) :
    List (Tick × List W64) → Nat → State → Nat × State
  | [], n, s => (n, s)
  | (t, p) :: rest, n, s =>
    let (r, s1) := s.makeRec 2 c { tick := t } p false (!rest.isEmpty) (ovf && rest.isEmpty)
    let (ok, l, s2) := s1.storeItem (s.get TRG_CFG_QUEUE)
      { words := recWords { r with holdover := hold }, gen := gen }
    if ok then State.publishParts c gen hold ovf rest (n + 1) (s2.raiseAll l) else (n, s)

/-- The channel's cut is over. The claim that waited for it takes effect (R46). -/
def State.endCut (s : State) (c : BitVec 5) (g : Gathering) : State :=
  let s := (s.modTrg (fun x => { x with gaths := s.trg.gaths.map (fun h =>
    if h == g then { h with cuts := h.cuts.filter (· != c) } else h) })).syncInflight
  if s.trg.gaths.any (fun h => h.cuts.contains c) then s
  else (s.modTrg (fun x => { x with claimWait := setBit s.trg.claimWait c.toNat false }))

/-- Publishes an overflow mark (R151, R157). -/
def State.overflowMark (s : State) (source : Nat) (g : Gathering) (delivered missing cause : Nat) :
    State :=
  if s.standby then s
  else
    let (t, s) := s.lagged s.now
    let (r, s) := s.makeRec 7 source { tick := t } [captureD0 g,
      packWord [(delivered, 47, 17), (missing, 30, 17), (cause, 22, 8)]]
    (((s.publish (s.get TRG_CFG_QUEUE) r).2).bump TRG_OVF_MARKS).raise 262

/-- The unfinished gathering that a channel's next cut belongs to, the oldest. -/
def State.cutOf (s : State) (c : BitVec 5) : Option Gathering :=
  (s.trg.gaths.filter (fun g => g.cuts.contains c)).getLast?

/-- Ends a cut with `n` of its records published, the last with OVF and without CONT, and a mark
(R157). -/
def State.cutShort (s : State) (c : BitVec 5) (g : Gathering) (n delivered : Nat) (cause : Nat) :
    State :=
  let outs := s.outputs c.toNat g
  let parts := (captureParts g (s.get TRG_AVG_NM1) outs).take n
  let s := if s.standby then s else (State.publishParts c.toNat g.gen g.hold true parts 0 s).2
  (s.overflowMark c.toNat g delivered (outs.length - delivered) cause).endCut c g

/-- Outputs in the first `n` records of a capture. -/
def State.outputsIn (s : State) (n total : Nat) : Nat :=
  min total (n * (if s.get TRG_AVG_NM1 == 0 then 4084 else 2042))

/-- CUT_COMPLETE (R152 to R157): the window is in the ring and the channel's records are published;
a record that its queue cannot take, or a slot that the ring has overwritten, ends the capture. How
many records an overwritten window still gives is open, but not all. -/
def State.cutComplete (s : State) (c : BitVec 5) : State :=
  match s.cutOf c with
  | none => s
  | some g =>
    let s := (s.advanceUp (s.elapsedAt g.hi g.gen)).settleRings
    let outs := s.outputs c.toNat g
    let parts := captureParts g (s.get TRG_AVG_NM1) outs
    if s.standby then s.endCut c g
    else if !outs.isEmpty && s.slotLost c.toNat g.lo g.gen then
      let (f, s) := s.fresh
      let n := f % parts.length
      s.cutShort c g n (s.outputsIn n outs.length) 2
    else
      let (n, s') := State.publishParts c.toNat g.gen g.hold false parts 0 s
      if n == parts.length then s'.endCut c g
      else s.cutShort c g n (s.outputsIn n outs.length) 1

/-- CAPTURE_OVERFLOW (R157): a capture stops with `delivered` outputs published, and at least one
missing. -/
def State.captureOverflow (s : State) (c : BitVec 5) (cause : OvfCause) (delivered : Nat) : State :=
  match s.cutOf c with
  | none => s
  | some g =>
    let all := s.outputs c.toNat g
    let total := all.length
    let d := min delivered (total - 1)
    let per := if s.get TRG_AVG_NM1 == 0 then 4084 else 2042
    let full := captureParts g (s.get TRG_AVG_NM1) all
    let n := (d + per - 1) / per
    let last := (all.take d).drop ((n - 1) * per)
    let parts := full.take (n - 1) ++ (if n == 0 then [] else
      [((last.map (fun o => o.1)).headD g.lo,
        ((full.getD (n - 1) (0, [])).2.take 2) ++
          packValues (if s.get TRG_AVG_NM1 == 0 then 16 else 32) (last.map (fun o => o.2)))])
    let s := if s.standby then s else
      (State.publishParts c.toNat g.gen g.hold true parts 0 s).2
    (s.overflowMark c.toNat g d (total - d) (match cause with
      | .fullQueue => 1
      | .ringOverrun => 2)).endCut c g

/-! ### Arm state (R145, R146) -/

/-- Returns to IDLE (R145, R166). -/
def State.armIdle (s : State) : State :=
  if s.armState == armIDLE then s else (s.put TRG_STAT_ARMST armIDLE).raise 266

/-- FIRE commands whose condition can no longer be met by an armed unit are answered as not armed
(DESIGN CHOICE, log entry 23). -/
def State.endFires (s : State) : State :=
  (s.atq.pend.filter (fun p => match p.waits with
    | .fire _ _ => true
    | _ => false)).foldl (fun s p => s.answer p.tag stStateConflict 0x41) s

/-- Disarms: the set is no longer in force and takes no further FIRE; FIREs already made are still
decided, and DISARMs that wait still take their ticks (R46, R145). -/
def State.disarmSet (s : State) : State :=
  ((s.modTrg (fun x => { x with ended := none, setNo := x.setNo + 1 })).armIdle).endFires

/-- A new arming set is in force (R145); what waits of earlier ones stays with them. -/
def State.newSet (s : State) (armTick : Tick) : State :=
  s.modTrg (fun x => { x with
    setNo := x.setNo + 1, armWide := s.wide armTick, slots := [], ended := none
    spent := x.spent.filter (fun n => x.fires.any (fun f => f.set == n)) })

/-- Takes the settings of an ARM marker and arms (R145). -/
def State.takeArm (s : State) (m : TrigMark) (master : Bool) : State :=
  let s := ((s.put TRG_STAT_ROOT m.root.toNat).putB TRG_STAT_MASTER master).putB TRG_STAT_ONCE m.once
  let s := (s.put TRG_SET_HOLD m.hold.toNat).put TRG_SET_SETTLE m.settle.toNat
  let s := (s.put TRG_ARMT_LO_TICK_L (m.tick.toNat % 2 ^ 32)).put TRG_ARMT_HI_TICK_H
    (m.tick.toNat / 2 ^ 32)
  let s := (s.put TRG_MEM_LO_MEM_L (m.members.toNat % 2 ^ 32)).put TRG_MEM_HI_MEM_H
    (m.members.toNat / 2 ^ 32)
  let s := s.newSet m.tick
  if tickLt s.now m.tick then (s.put TRG_STAT_ARMST armPENDING).putB TRG_STAT_LATE false
  else ((s.put TRG_STAT_ARMST armARMED).putB TRG_STAT_LATE true).raise 257

/-- ARM_MARKER (R143, R145 to R147): forwarded; a member arms or not, and acknowledges. -/
def State.armMarker (s : State) (m : TrigMark) (port : Nat) : State :=
  let s := s.flood m (some port)
  let ack (a : ArmAck) (s : State) : State :=
    (s.modTrg (fun x => { x with acked := (m.origin, a) :: s.trg.acked }))
  if s.standby then
    if m.members.getLsbD Config.partnerId || m.members.getLsbD s.unitId then ack .onTime s else s
  else if !s.isMember m.members then s
  else if s.armState != armIDLE || !s.modeOn mLISTEN || !s.readyOrActive then ack .notArmed s
  else
    let s := s.takeArm m false
    ack (if s.armState == armPENDING then .onTime else .late) s

/-- ARM_TICK_REACHED (R145). -/
def State.armTickReached (s : State) : State :=
  if s.armState != armPENDING then s
  else ((s.advanceTo s.armTick).put TRG_STAT_ARMST armARMED).raise 256

/-! ### FIREs and gatherings (R148 to R151, R156, R161, R164) -/

/-- The gathering that a FIRE is judged against: of its set, the latest at or before its tick. -/
def State.judgedBy (s : State) (f : FireReq) : Option Gathering :=
  (s.trg.gaths.filter (fun g => g.set == f.set && g.loc == f.loc && decide (g.wide ≤ f.wide))).foldl
    (fun b g => match b with
      | some x => if x.wide < g.wide then some g else b
      | none => some g) none

def fateOPENED : Nat := 0
def fateJOINED : Nat := 1
def fateHELD : Nat := 2
def fateLATE : Nat := 3

/-- The gathering that an opening FIRE makes. -/
def State.gatheringOf (s : State) (f : FireReq) : Gathering :=
  s.window
    { t0 := f.mark.tick, origin := f.mark.origin, id := f.mark.trigId, loc := f.loc
      cuts := s.cutChannels, hold := !s.traceAt f.mark.tick f.gen
      set := f.set, wide := f.wide, gen := f.gen }

/-- The TRIGOUT pulse of a gathering (R161). -/
def State.triggerOut (s : State) (f : FireReq) : State :=
  if !s.bit TRG_IO_TO_EN || s.standby then s
  else
    let t := f.mark.tick + BitVec.ofNat 48 (s.get TRG_IO_DELAY)
    let late := decide (s.elapsedAt t f.gen < s.tb.up)
    let at_ := if late then s.now else t + BitVec.ofInt 48 (s.steppedSince f.gen)
    (s.modTrg (fun x => { x with pulses := x.pulses ++ [at_] })).when late (fun s => s.raise 265)

/-- Commits the gathering of an opening FIRE (R149, R151, R161). -/
def State.commit (s : State) (f : FireReq) : State :=
  let g := s.gatheringOf f
  let tooMany := 8 ≤ s.trg.gaths.countP (fun g => !g.cuts.isEmpty)
  let (miss, s) := s.fresh
  let s := if tooMany then s.overflowMark 0x60 g 0 miss 3 else s
  let g := if tooMany || s.standby then { g with cuts := [] } else g
  let s := ((s.modTrg (fun x => { x with
    gaths := g :: s.trg.gaths
    windows := (g.cuts, s.elapsedAt g.lo g.gen, s.elapsedAt g.hi g.gen) ::
      s.trg.windows.filter (fun w => decide ((s.tb.up : Int) < w.2.2 + 524288))
    })).syncInflight).bump TRG_STAT_GATH
  let s := ((s.raise 258).snapshot).triggerOut f
  if f.once then
    (s.modTrg (fun x => { x with spent := f.set :: x.spent })).when
      (f.set == s.trg.setNo && s.armState == armARMED) State.armIdle
  else s

/-- Answers the FIRE commands of a decided FIRE (R164). One that opens nothing because ONCE is
spent is answered as not armed. -/
def State.answerFire (s : State) (f : FireReq) (g : Option Gathering) (fate : Nat) : State :=
  f.tags.foldl (fun s tag => match g with
    | some g => s.answer tag stOk 0 [packWord [(g.t0.toNat, 16, 48), (fate, 0, 2)]]
    | none => s.answer tag stStateConflict 0x41) s

/-- Decides a FIRE (R149, R150): its fate, the commit it brings, its record and replies. One that
would open a gathering of a spent ONCE set is ignored; which FATE its record shows is open. -/
def State.decideFire (s : State) (f : FireReq) (late : Bool) : State :=
  let w : Nat := max 8 f.hold
  let j := s.judgedBy f
  let d := match j with
    | some g => (f.wide - g.wide).toNat
    | none => w + 1
  let opens := decide (w < d)
  let ignored := opens && s.trg.spent.contains f.set
  let fate := if opens then fateOPENED else if d ≤ 8 then fateJOINED else fateHELD
  let s := s.when (fate == fateHELD) (fun s => s.bump TRG_OVF_HELD)
  let s := if opens && !ignored then s.commit f else s
  let s := s.when late (fun s => s.raise 259)
  let (x, s) := if ignored && !late then s.fresh else (0, s)
  let shown := if late then fateLATE else if ignored then x % 4 else fate
  let s := s.when f.own (fun s =>
    s.markRecord (if f.loc then 4 else 2) { tick := f.mark.tick, fine := f.mark.fine } f.mark
      (packWord [(f.mark.srcMask.toNat, 32, 32), (f.mark.trigId.toNat, 27, 5), (shown, 0, 2)]) f.gen)
  s.answerFire f (if ignored then none else if opens then s.trg.gaths.head? else j) shown

/-- FIRE `a` is taken before FIRE `b`: the one whose decision comes first, in order of (tick, unit)
within a set (R149). -/
def fireBefore (a b : FireReq) : Bool :=
  let ta := a.mark.tick + a.settle
  let tb := b.mark.tick + b.settle
  tickLt ta tb || (ta == tb && decide (a.mark.origin.toNat < b.mark.origin.toNat))

/-- The first FIRE in order. -/
def firstFire : List FireReq → Option FireReq
  | [] => none
  | f :: l => match firstFire l with
    | some g => if fireBefore g f then some g else some f
    | none => some f

/-- FIRE_DECIDE (R149): the counter reaches the first FIRE's tick + SETTLE. -/
def State.fireDecide (s : State) : State :=
  match firstFire s.trg.fires with
  | none => s
  | some f =>
    let s := s.advanceTo (f.mark.tick + f.settle)
    (s.modTrg (fun x => { x with fires := s.trg.fires.erase f })).decideFire f false

/-- A FIRE of the set in force joins those that wait, or is decided at once when it is late (R149,
R150). -/
def State.queueFire (s : State) (f : FireReq) : State :=
  let t := f.mark.tick
  let f := { f with
    set := s.trg.setNo, hold := s.get TRG_SET_HOLD, settle := s.settle, once := s.bit TRG_STAT_ONCE
    wide := s.wide t, gen := s.genOf t }
  if tickLt (t + f.settle) s.now then s.decideFire f true
  else (s.modTrg (fun x => { x with fires := x.fires ++ [f] }))

/-- The set in force takes a FIRE of tick `t`: the unit waits for ARM_TICK or is armed, ONCE has
returned it to IDLE, or a DISARM that `t` lies before has (R149, R164). -/
def State.takesFire (s : State) (t : Tick) : Bool :=
  s.armState != armIDLE || s.trg.spent.contains s.trg.setNo || (match s.trg.ended with
    | some e => decide (s.wide t < e)
    | none => false)

/-- FIRE_MARKER (R144, R149, R150). -/
def State.fireMarker (s : State) (m : TrigMark) (port : Nat) : State :=
  let s := s.flood m (some port)
  if s.takesFire m.tick && m.root == s.armRoot then
    s.queueFire { mark := m, own := false, loc := false }
  else s

/-! ### Met conditions make triggers (R140, R142, R148) -/

/-- FINE of the hit that channel `c` had at tick `t`, where it is the channel's latest leading
edge. -/
def State.hitFine (s : State) (t : Tick) (c : Nat) : Option Nat :=
  match (s.tkOf c).last with
  | some m => if m / 1024 == s.elapsedAt t then some (m % 1024).toNat else none
  | none => none

/-- Puts a number into its place in a rising list. -/
def insertNat (n : Nat) : List Nat → List Nat
  | [] => [n]
  | m :: l => if n ≤ m then n :: m :: l else m :: insertNat n l

/-- FINE of the hit that completes condition `n` at tick `t` (R139, R142), of the hits that the
condition sees: among those of that tick, in the order of their stamps, the one that makes up MULT, or
for a coincidence the last of a channel that had none before. -/
def State.completingFine (s : State) (n : Nat) (t : Tick) (l : List (BitVec 6 × Tick)) : Option Nat :=
  let seen := s.seenHits n t l
  let now := seen.filter (fun e => e.2 == t)
  let before := seen.filter (fun e => e.2 != t)
  let fines := now.map (fun e => s.hitFine t e.1)
  if fines.any Option.isNone then none
  else
    let sorted (l : List (Nat × Tick)) : List Nat :=
      (l.filterMap (fun e => s.hitFine t e.1)).foldr insertNat []
    if s.get (TC_CFG_TYPE n) == 1 then
      (sorted now)[max 1 (s.get (TC_WIN_MULT n)) - 1 - before.length]?
    else
      let new := sorted (now.filter (fun e => !before.any (fun b => b.1 == e.1)))
      if new.isEmpty then (sorted now).head? else new.getLast?

/-- FINE of a met condition: the completing hit's, else 0 (R142); open where the model has not kept
that hit's stamp. -/
def State.metFine (s : State) (n : Nat) (i : CondInput) : Fine × State :=
  match i with
  | .hits t l => match s.completingFine n t l with
    | some f => (BitVec.ofNat 10 f, s)
    | none => (BitVec.ofNat 10 s.fresh.1, s.fresh.2)
  | .sample _ _ _ => (0, s)
  | .precision _ _ _ _ => (0, s)
  | .trigin _ _ => (0, s)
  | .remoteFire _ _ => (0, s)
  | .periodic _ => (0, s)
  | .command _ => (0, s)

/-- Takes back a trigger of a slot that is still being formed. -/
def State.withdraw (s : State) (f : FireReq) : State :=
  let s := (s.modTrg (fun x => { x with fires := s.trg.fires.erase f }))
  { s with gx := s.gx.map (fun g => { g with txMarks := g.txMarks.filter (· != f.mark) }) }

/-- Makes the trigger of a slot: its marker floods the tree, or it stays local (R148). -/
def State.formTrigger (s : State) (f : FireReq) : State :=
  let loc := !s.bit (TC_CFG_SCOPE f.mark.trigId.toNat)
  let f := { f with loc := loc }
  (if loc then s else s.flood f.mark none).queueFire f

/-- Moment of the first tick of the slot that tick `t` lies in (R142). -/
def State.slotOf (s : State) (t : Tick) : Int :=
  s.elapsedAt (t - BitVec.ofNat 48 (t.toNat % 4))

/-- The trigger of a slot while it is being formed: the slot is not over, or the counter has not
moved since its first condition was met (log entry 14). -/
def State.forming (s : State) (k : Int) : Option FireReq :=
  if decide ((s.tb.up : Int) < k + 4) || s.trg.slots.contains (k, s.tb.up) then
    s.trg.fires.find? (fun f => f.own && f.slot == k)
  else none

/-- A met condition makes a trigger, or joins the one of its slot (R142). -/
def State.trigger (s : State) (n : Nat) (t : Tick) (i : CondInput) (tags : List (BitVec 16)) :
    State :=
  let k := s.slotOf t
  let (fine, s) := s.metFine n i
  match s.forming k with
  | some f =>
    let lower := decide (n < f.mark.trigId.toNat)
    let m := { f.mark with
      srcMask := setBit f.mark.srcMask n true
      trigId := if lower then BitVec.ofNat 5 n else f.mark.trigId
      tick := if lower then t else f.mark.tick, fine := if lower then fine else f.mark.fine }
    (s.withdraw f).formTrigger { f with mark := m, tags := f.tags ++ tags }
  | none =>
    if s.trg.slots.any (fun e => e.1 == k) then
      match s.trg.fires.find? (fun f => f.own && f.slot == k) with
      | some f => (s.modTrg (fun x => { x with fires := s.trg.fires.map (fun h =>
          if h == f then { h with tags := h.tags ++ tags } else h) }))
      | none =>
        let f : FireReq := { mark := { kind := 2, origin := 0, root := 0, tick := t }
                             own := true, loc := false, tags := tags
                             set := s.trg.setNo, wide := s.wide t }
        s.answerFire f (s.judgedBy f) fateJOINED
    else
      let s := (s.modTrg (fun x => { x with slots := (k, s.tb.up) :: s.trg.slots }))
      s.formTrigger
        { own := true, loc := false, tags := tags, slot := k
          mark := { kind := 2, origin := BitVec.ofNat 6 s.unitId, root := s.armRoot, tick := t
                    srcMask := setBit 0 n true, trigId := BitVec.ofNat 5 n, fine := fine } }

/-- The FIRE commands that asked for condition `n` at tick `t`. -/
def State.fireTags (s : State) (n : Nat) (t : Tick) : List (BitVec 16) :=
  (s.atq.pend.filter (fun p => p.waits == .fire (BitVec.ofNat 5 n) t)).map (fun p => p.tag)

/-- A condition is met at a tick (R140): counted, its source raised, and a trigger made by an armed
unit that is no standby (R147). -/
def State.metAt (s : State) (n : Nat) (t : Tick) (i : CondInput) (tags : List (BitVec 16)) :
    State :=
  let s := s.advanceTo t
  let s := s.count (TC_CNT_COUNT n)
  let s := match i with
    | .remoteFire _ _ => s.raise 260
    | _ => s
  let s := s.raise (288 + n)
  if s.armState == armARMED && decide (s.trg.armWide ≤ s.wide t) && !s.standby then
    s.trigger n t i tags
  else tags.foldl (fun s tag => s.answer tag stStateConflict 0x41) s

/-- CONDITION_MET (R139 to R142). A FIRE command whose condition its tick does not meet, because
LISTEN is off or TC_CFG has changed since, is answered as not armed (log entry 23). -/
def State.conditionMet (s : State) (n : Nat) (i : CondInput) : State :=
  let tags := match i with
    | .command t => s.fireTags n t
    | _ => []
  match (if s.modeOn mLISTEN && s.bit (TC_CFG_EN n) then s.meets n i else none) with
  | none => tags.foldl (fun s tag => s.answer tag stStateConflict 0x41) s
  | some t =>
    let s := match i with
      | .command t => (s.modTrg (fun x => { x with
          routed := s.trg.routed.erase (BitVec.ofNat 5 n, t) }))
      | _ => s
    let s := (s.modAtq (fun x => { x with pend := s.atq.pend.map (fun p =>
      if tags.contains p.tag then { p with waits := .fired } else p) }))
    s.metAt n t i tags

/-! ### DISARM (R164) -/

/-- The DISARM commands whose tick has come are answered. -/
def State.answerDisarms (s : State) : State :=
  (s.atq.pend.filter (fun p => match p.waits with
    | .disarm t => tickLe t s.now
    | _ => false)).foldl (fun s p => s.answer p.tag stOk 0) s

/-- A DISARM of set `n` takes effect at tick `t`: FIREs of the set at or after it are dropped, those
before it are still decided, be they received later. -/
def State.disarmAt (s : State) (t : Tick) (n : Nat) : State :=
  let s := s.advanceTo t
  let e := s.wide t
  let s := s.modTrg (fun x => { x with disarms := x.disarms.erase (t, n) })
  let (dropped, kept) := s.trg.fires.partition (fun f => f.set == n && decide (e ≤ f.wide))
  let s := s.modTrg (fun x => { x with fires := kept })
  let s := dropped.foldl (fun s f => s.answerFire f none fateHELD) s
  let s := s.when (n == s.trg.setNo) (fun s =>
    ((s.modTrg (fun x => { x with ended := some e, spent := x.spent.erase n })).armIdle).endFires)
  s.answerDisarms

/-- A DISARM of the set in force is scheduled, or takes effect at once when its tick has come. -/
def State.scheduleDisarm (s : State) (t : Tick) : State :=
  if tickLe t s.now then s.disarmAt t s.trg.setNo
  else (s.modTrg (fun x => { x with disarms := x.disarms ++ [(t, x.setNo)] }))

/-- DISARM_MARKER (R144, R164). -/
def State.disarmMarker (s : State) (m : TrigMark) (port : Nat) : State :=
  let s := s.flood m (some port)
  if (s.armState != armIDLE || s.trg.spent.contains s.trg.setNo) && m.root == s.armRoot then
    s.scheduleDisarm m.tick
  else s

/-- The DISARM that takes effect first. -/
def firstDisarm : List (Tick × Nat) → Option (Tick × Nat)
  | [] => none
  | d :: l => match firstDisarm l with
    | some e => if tickLt e.1 d.1 then some e else some d
    | none => some d

/-- DISARM_EFFECT (R164). -/
def State.disarmEffect (s : State) : State :=
  match firstDisarm s.trg.disarms with
  | some (t, n) => s.disarmAt t n
  | none => s

/-! ### The commands ARM, FIRE and DISARM (R162 to R164) -/

/-- ROOT is neither this unit nor an ancestor of it. IDs fall toward the head, which is unit 0 (R23);
whether another lower ID is an ancestor is open. -/
def State.rootBad (s : State) (root : Nat) : Bool :=
  root != s.unitId && root != 0 && (s.unitId < root || !Config.isAncestor root s.unitId)

/-- ARM after its general checks: a refusal, or the state in which it is pending. -/
def State.armCmd (s : State) (c : Cmd) : (Nat × Nat) ⊕ State :=
  let root := bits (param c 0) 63 58
  let t : Tick := BitVec.ofNat 48 (bits (param c 0) 47 0)
  let members := param c 1
  if !s.modeOn mLISTEN then .inl (stStateConflict, 0x11)
  else if s.armState != armIDLE then .inl (stStateConflict, 0x40)
  else if c.p.length != 3 then .inl (stBadParam, 6)
  else if !s.isMember members || (tickLt s.now t && decide (2 ^ 31 < (t - s.now).toNat)) then
    .inl (stBadParam, 0)
  else if tickLt t s.now then .inl (stTimedOut, 0)
  else if s.isHead && s.rootBad root then .inl (stBadParam, 1)
  else
    let m : TrigMark :=
      { kind := 1, origin := BitVec.ofNat 6 s.unitId, root := BitVec.ofNat 6 root, tick := t
        members := members, once := bitOf (param c 0) 57
        hold := BitVec.ofNat 16 (bits (param c 2) 31 16)
        settle := BitVec.ofNat 14 (bits (param c 2) 13 0) }
    let s := (s.flood m none).takeArm m true
    let own := if s.armState == armPENDING then ArmAck.onTime else ArmAck.late
    let s := (s.modTrg (fun x => { x with arms := x.arms ++ [
      { tag := c.tag, set := x.setNo, root := m.root, tick := t, members := members
        acks := [(BitVec.ofNat 6 s.unitId, own)] }] }))
    let (lag, s) := s.lagged s.now
    .inr (s.markRecord 1 { tick := lag } m members)

/-- Every member of the set has acknowledged. -/
def ArmJob.done (j : ArmJob) : Bool :=
  (setBits j.members).all (fun u => j.acks.any (fun a => a.1.toNat == u))

/-- The oldest ARM that waits is answered (R163). A ROOT that is no ancestor undoes its set. -/
def State.armReply (s : State) : State :=
  match s.trg.arms with
  | [] => s
  | j :: rest =>
    if s.rootBad j.root.toNat then
      ((s.modTrg (fun x => { x with arms := rest })).when (j.set == s.trg.setNo)
        State.armIdle).answer j.tag stBadParam 1
    else
      let s := s.advanceTo (j.tick + (if j.done then 0 else 1250000))
      let on := (setBits j.members).filter (fun u =>
        j.acks.any (fun a => a.1.toNat == u && a.2 == .onTime))
      let late := (setBits j.members).length - on.length
      let s := (s.modTrg (fun x => { x with arms := rest }))
      if late == 0 then s.answer j.tag stOk 0
      else s.answer j.tag stPartial late [on.foldl (fun w u => setBit w u true) (0 : W64)]

/-- An acknowledgement goes to the oldest ARM that still waits for that unit's. -/
def takeAck (u : BitVec 6) (a : ArmAck) : List ArmJob → List ArmJob
  | [] => []
  | j :: l =>
    if j.members.getLsbD u.toNat && !j.acks.any (fun e => e.1 == u) then
      { j with acks := (u, a) :: j.acks } :: l
    else j :: takeAck u a l

/-- ARM_ACK (R146). -/
def State.armAck (s : State) (u : BitVec 6) (a : ArmAck) : State :=
  s.modTrg (fun x => { x with arms := takeAck u a x.arms })

/-- FIRE after its general checks; the tick it is for. -/
def State.fireCmd (s : State) (c : Cmd) : (Nat × Nat) ⊕ (Nat × Tick) :=
  let n := bits (param c 0) 52 48
  let at_ := bitOf (param c 0) 63
  let t : Tick := if at_ then BitVec.ofNat 48 (bits (param c 0) 47 0) else s.now
  if !s.modeOn mLISTEN then .inl (stStateConflict, 0x11)
  else if s.armState != armARMED then .inl (stStateConflict, 0x41)
  else if !s.bit (TC_CFG_EN n) || s.get (TC_CFG_TYPE n) != 7 then .inl (stBadParam, 0)
  else if tickLt t s.now && decide (65536 < (s.now - t).toNat) then .inl (stBadParam, 0)
  else if tickLt s.now t && decide (2 ^ 31 < (t - s.now).toNat) then .inl (stBadParam, 0)
  else if s.wide t < s.trg.armWide then .inl (stBadParam, 0)
  else .inr (n, t)

/-- DISARM after its general checks: a refusal, or the state in which it is flooded and its tick. -/
def State.disarmCmd (s : State) (c : Cmd) : (Nat × Nat) ⊕ (Tick × State) :=
  if s.armState == armIDLE then .inl (stStateConflict, 0x41)
  else
    let (lag, s) := s.lagged s.now
    let t : Tick := if bitOf (param c 0) 63 then BitVec.ofNat 48 (bits (param c 0) 47 0) else s.now
    let m : TrigMark := { kind := 3, origin := BitVec.ofNat 6 s.unitId, root := s.armRoot, tick := t }
    .inr (t, (s.flood m none).markRecord 3 { tick := lag } m 0)

/-- A write to TRG_WIN (R159). -/
def State.writeTrgWin (s : State) (v : W32) : WriteResult :=
  if 49152 < v.toNat / 65536 + v.toNat % 65536 then refuseWrite stBadParam 0
  else .ok (s.plainWrite TRG_WIN.addr v)

/-- A write to TRG_IO: TRIGOUT is low while TO_EN is 0 (R161). -/
def State.writeTrgIo (s : State) (v : W32) : WriteResult :=
  let s := s.plainWrite TRG_IO.addr v
  .ok (if s.bit TRG_IO_TO_EN then s
    else (s.modPins (fun p => { p with trigout := false })).modTrg (fun x => { x with
      pulses := [], pulseEnd := none }))

/-! ### Pins (R160, R161) -/

/-- TRIGIN_EDGE (R160). -/
def State.triginEdge (s : State) (t : Tick) (rising : Bool) : State :=
  (((s.advanceTo t).modTrg (fun x => { x with trigin := rising }))).raise 261

/-- The earliest of some ticks. -/
def earliest : List Tick → Option Tick
  | [] => none
  | t :: l => match earliest l with
    | some u => if tickLt u t then some u else some t
    | none => some t

/-- TRIGOUT_START (R161). -/
def State.trigoutStart (s : State) : State :=
  match earliest s.trg.pulses with
  | none => s
  | some t =>
    let s := (s.advanceTo t).modTrg (fun x => { x with pulses := x.pulses.erase t })
    if !s.bit TRG_IO_TO_EN || s.standby then s
    else (s.modPins (fun p => { p with trigout := true })).modTrg (fun x => { x with
      pulseEnd := some (t + BitVec.ofNat 48 (max 1 (s.get TRG_IO_TOW))) })

/-- TRIGOUT_END (R161). -/
def State.trigoutEnd (s : State) : State :=
  match s.trg.pulseEnd with
  | none => s
  | some t => (((s.advanceTo t).modPins (fun p => { p with trigout := false }))).modTrg (fun x =>
      { x with pulseEnd := none })

/-! ### The commands -/

def execConditionMet (n : BitVec 5) (input : CondInput) (s : State) :
    Host.Outcome State Fault Refusal :=
  .next (s.conditionMet n.toNat input)

def execArmMarker (m : TrigMark) (port : Fin 5) (s : State) : Host.Outcome State Fault Refusal :=
  .next (s.armMarker m port.val)

def execArmAck (unit : BitVec 6) (a : ArmAck) (s : State) : Host.Outcome State Fault Refusal :=
  .next (s.armAck unit a)

def execArmTickReached (s : State) : Host.Outcome State Fault Refusal := .next s.armTickReached

def execArmReply (s : State) : Host.Outcome State Fault Refusal := .next s.armReply

def execFireMarker (m : TrigMark) (port : Fin 5) (s : State) : Host.Outcome State Fault Refusal :=
  .next (s.fireMarker m port.val)

def execFireDecide (s : State) : Host.Outcome State Fault Refusal := .next s.fireDecide

def execDisarmMarker (m : TrigMark) (port : Fin 5) (s : State) :
    Host.Outcome State Fault Refusal :=
  .next (s.disarmMarker m port.val)

def execDisarmEffect (s : State) : Host.Outcome State Fault Refusal := .next s.disarmEffect

def execCutComplete (c : BitVec 5) (s : State) : Host.Outcome State Fault Refusal :=
  .next (s.cutComplete c)

def execCaptureOverflow (c : BitVec 5) (cause : OvfCause) (delivered : BitVec 17) (s : State) :
    Host.Outcome State Fault Refusal :=
  .next (s.captureOverflow c cause delivered.toNat)

def execTriginEdge (t : Tick) (rising : Bool) (s : State) : Host.Outcome State Fault Refusal :=
  .next (s.triginEdge t rising)

def execTrigoutStart (s : State) : Host.Outcome State Fault Refusal := .next s.trigoutStart

def execTrigoutEnd (s : State) : Host.Outcome State Fault Refusal := .next s.trigoutEnd

end Sys2Proof.Machine
end

