-- ==== Sys2Proof/Machine/Pattern.lean ====
section
/-! DEFINITION. The pattern engine (R167 to R201): the NCO, the sequencer, the pins, streaming and
slips, compares, branches, calibration, and the pattern commands. -/
namespace Sys2Proof.Machine

/-! ### States of the sequencer (R193) -/

def paOFF : Nat := 0
def paIDLE : Nat := 1
def paRUN : Nat := 2
def paSTARVED : Nat := 3
def paSTOPPING : Nat := 4
def paCAL : Nat := 5

def State.patState (s : State) : Nat := s.get PAT_STAT_STATE
def State.patRunning (s : State) : Bool := s.patState == paRUN || s.patState == paSTARVED
def State.setPat (s : State) (st : Nat) : State := s.put PAT_STAT_STATE st

/-- t_LEAD (R198). -/
def tLead : Nat := 48

/-! ### Pins (R168, R169, R174, R175) -/

/-- Driver and level of pin `n` in an effective state; DONTCARE leaves both. -/
def State.drives (s : State) (n : Nat) (code : BitVec 3) : Bool × Bool :=
  if code == 1 then (true, false)
  else if code == 2 || code == 7 then (true, true)
  else if code == 6 then (bitOf s.pins.pvDrive n, bitOf s.pins.pvOut n)
  else (false, bitOf s.pins.pvOut n)

/-- Sets the pins to the states given, each edge delayed by its pin's OFS where `ofs` holds. -/
def State.takePins (s : State) (codes : List (BitVec 3)) (ofs : Bool) (i : Tick × Nat) : State :=
  let new := (List.range 32).map (fun n => s.drives n (codes.getD n 6))
  let edge (n : Nat) : Bool :=
    let d := new.getD n (false, false)
    d.1 != bitOf s.pins.pvDrive n || (d.1 && d.2 != bitOf s.pins.pvOut n)
  let edges := (List.range 32).map (fun n =>
    if edge n then laterBy i (if ofs then s.get (PV_PIN_OFS n) else 0)
    else s.pat.edges.getD n (0, 0))
  let word (f : Bool × Bool → Bool) : W32 :=
    (List.range 32).foldl (fun w n => setBit w n (f (new.getD n (false, false)))) 0
  (s.modPat (fun x => { x with edges := edges })).modPins (fun x => { x with
    pvDrive := word (fun d => d.1), pvOut := word (fun d => d.2) })

/-- The idle vector's state of each pin (R169). -/
def State.idleStates (s : State) : List (BitVec 3) :=
  (List.range 32).map (fun n =>
    if !s.has PAT_IDLE_EN n then 3 else if s.has PAT_IDLE_VAL n then 2 else 1)

/-- The pins take the idle vector. -/
def State.idlePins (s : State) (ofs : Bool) (i : Tick × Nat) : State :=
  (s.takePins s.idleStates ofs i).modPat (fun x => { x with
    states := s.idleStates, pulses := 0, strobed := true })

/-- The pins go to tristate, undelayed (R175). -/
def State.tristatePins (s : State) : State :=
  (s.takePins (List.replicate 32 3) false (s.now, 0)).modPat (fun x => { x with
    pulses := 0, strobed := true })

/-- The pins take a vector: HOLD repeats the pin's last other state (R168, R169). -/
def State.vectorPins (s : State) (v : BitVec 128) (i : Tick × Nat) : State :=
  let codes := (List.range 32).map (fun n =>
    if vecPin v n == 0 then s.pat.states.getD n 1 else vecPin v n)
  (s.takePins codes true i).modPat (fun x => { x with
    states := codes, strobed := false
    pulses := (List.range 32).foldl (fun w n => setBit w n (codes.getD n 0 == 7)) 0 })

/-! ### Segments (R181, R182) -/

def State.segLength (s : State) (g : Nat) : Nat :=
  if s.get (SEG_A_LENGTH g) == 0 then 65536 else s.get (SEG_A_LENGTH g)

def State.segLoops (s : State) (g : Nat) : Nat := max 1 (s.get (SEG_B_LOOPS g))

def State.segStream (s : State) (g : Nat) : Bool := s.bit (SEG_B_STREAM g)

def State.segValid (s : State) (g : Nat) : Bool :=
  (if s.segStream g then decide (s.segLength g ≤ 4096)
    else decide (s.get (SEG_A_START g) + s.segLength g ≤ 65536)) &&
    decide (s.get (SEG_C_COND g) ≤ 6)

/-- The segments that are running or prefetched (R185, R194): those in flight, the one issuing with
its successor and target, and a pending request's or scheduled start's. -/
def State.segsInUse (s : State) : List Nat :=
  if s.inFlight.isEmpty then []
  else
    let g := s.pat.seg.toNat
    (s.inFlight.filter (fun o => !o.gap)).map (fun o => o.seg.toNat) ++ [g] ++
      (if s.bit (SEG_B_END g) then [] else [s.get (SEG_B_NEXT g)]) ++
      (if s.get (SEG_C_COND g) == 0 then [] else [s.get (SEG_C_TARGET g)]) ++
      (if s.bit PAT_BR_PEND then [s.get PAT_BR_TARGET] else [])

/-- Vectors [lo, hi) of vector memory belong to a segment in use (R194). -/
def State.vecsInUse (s : State) (lo hi : Nat) : Bool :=
  s.segsInUse.any (fun g => !s.segStream g &&
    decide (lo < s.get (SEG_A_START g) + s.segLength g) && decide (s.get (SEG_A_START g) < hi))

/-! ### Streams (R189, R370) -/

def State.streamQueue (s : State) : Nat := s.get PAT_STREAM_QUEUE

/-- The vectors of an item: its words in pairs, low half first, and whether the grain of each has
an uncorrectable word (R380). -/
def itemVecs (bad : List Nat) : Nat → List W64 → List (BitVec 128 × Bool)
  | k, lo :: hi :: rest => (hi ++ lo, bad.contains (k / 4)) :: itemVecs bad (k + 1) rest
  | _, _ => []

def Item.vecs (it : Item) : List (BitVec 128 × Bool) :=
  itemVecs (it.uncorrectable.map (fun k => k / 8)) 0 it.words

/-- The vectors in the stream queue from the first that is not released; none while the queue's
consumer is not the pattern engine (R371). -/
def State.streamVecs (s : State) : List (BitVec 128 × Bool) :=
  if s.get (Q_CFG_CONS s.streamQueue) == 2 then
    (((s.queue s.streamQueue).items.map Item.vecs).flatten).drop s.pat.relOff
  else []

/-- An item split after `g` grains. -/
def Item.split (it : Item) (g : Nat) : Item × Item :=
  ({ it with words := it.words.take (8 * g), bad := it.bad.filter (fun b => decide (b.1 < 8 * g)) },
   { it with words := it.words.drop (8 * g)
             bad := (it.bad.filter (fun b => decide (8 * g ≤ b.1))).map
               (fun b => (b.1 - 8 * g, b.2)) })

/-- Releases the grains before vector `n` of the items: the items released, those left, and the
vectors of the head grain left that are used up. -/
def releaseVecs (n : Nat) : List Item → List Item × List Item × Nat
  | [] => ([], [], 0)
  | it :: rest =>
    if it.vecs.length ≤ n then
      let (out, left, off) := releaseVecs (n - it.vecs.length) rest
      (it :: out, left, off)
    else if n / 4 == 0 then ([], it :: rest, n % 4)
    else ([(it.split (n / 4)).1], (it.split (n / 4)).2 :: rest, n % 4)

/-- The engine releases the next `n` vectors of its stream queue (R189, R379). -/
def State.releaseStream (s : State) (n : Nat) : State :=
  if n == 0 then s
  else
    let q := s.streamQueue
    let (out, left, off) := releaseVecs (s.pat.relOff + n) (s.queue q).items
    let s := (s.modPat (fun x => { x with relOff := off, ahead := s.pat.ahead - n }))
    let s := (s.setQueue q { s.queue q with items := left }).rearmWatermark q
    let (l, s) := out.foldl (fun (a : List Nat × State) it =>
      let (l, s) := a.2.readOut q it
      (a.1 ++ l, s)) ([], s)
    s.raiseAll l

/-- The output at the pins is over: a streamed pass that ended with it is released (R189). -/
def State.releaseEnded (s : State) : State :=
  match s.pat.cur with
  | some o =>
    if o.last && o.stream != 0 then
      (s.when (s.cstate == csACTIVE) (fun s =>
        (s.modPat (fun x => { x with passes := x.passes ++ [o.seg] })))).releaseStream o.stream
    else s
  | none => s

/-! ### Starving (R190, R191, R378) -/

/-- The sequencer waits for a vector: the youngest output in flight is a gap with no end. -/
def State.waitsForVector (s : State) : Bool :=
  match s.inFlight.getLast? with
  | some o => o.gap && o.till.isNone && o.resume.isNone
  | none => false

/-- The engine's stall on its stream queue begins or ends (R378). -/
def State.markStall (s : State) (b : Bool) : State :=
  s.when (s.segStream s.pat.seg.toNat) (fun s =>
    (s.modPat (fun x => { x with timedOut := false })).putB (Q_FLAG_STALLED s.streamQueue) b)

/-- The demodulators learn of a slip at tick `t` (R192). -/
def State.tellSlip (s : State) (t : Tick) : State :=
  (List.range 16).foldl (fun s d => s.modDm d (fun m => { m with
    slipS := (m.slipS.1 + 1, t, 0), slipA := (m.slipA.1 + 1, t, 0) })) s

/-- The demodulators learn of the resume of the last slip. -/
def State.tellResume (s : State) (t : Tick) : State :=
  let f (p : Nat × Tick × Tick) : Nat × Tick × Tick := if p.1 == 0 then p else (p.1, p.2.1, t)
  (List.range 16).foldl (fun s d => s.modDm d (fun m => { m with
    slipS := f m.slipS, slipA := f m.slipA })) s

/-- Records a slip at a pin-time tick (R190). -/
def State.recordSlip (s : State) (t : Tick) : State :=
  (((s.put PAT_SLIP_LO t.toNat).bump PAT_SLIP_CNT).tellSlip t).raise 418

/-- Start of the gap the sequencer waits in: the start at which the missing vector was due. -/
def State.gapStart (s : State) : Tick :=
  match s.inFlight.dropLast with
  | [] => s.pat.curAt.1
  | l => match s.startAfterAll s.pat.acc s.pat.ref l with
    | some (i, _, _) => i.1
    | none => s.pat.curAt.1

/-- Enters STARVED (R190). -/
def State.enterStarved (s : State) : State :=
  ((s.setPat paSTARVED).markStall true).recordSlip s.gapStart

/-- The vector to be issued is missing: the pass restarts at its first vector later (R190), and a
STOPPING segment ends (R193). Before SEQUENCE_START the state waits for it. -/
def State.starve (s : State) : State :=
  if s.patState == paSTOPPING then (s.modPat (fun x => { x with ended := true }))
  else
    let rate := match s.inFlight.getLast? with
      | some o => o.rate
      | none => 0
    let s := (s.modPat (fun x => { x with
      issued := s.pat.issued ++ [{ gap := true, rate := rate, serial := s.pat.serial
                                   seg := s.pat.seg, pass := s.pat.pass }]
      idx := 0, rep := 0, pastPoint := false }))
    if s.patState == paRUN then s.enterStarved else s

/-! ### Ends (R193) -/

/-- A pending request is discarded; its SEQ_BRANCH is answered (R195, R196). -/
def State.discardRequest (s : State) : State :=
  let s := match s.pat.reqTag with
    | some tag => s.answer tag stStateConflict 0x72
    | none => s
  ((s.modPat (fun x => { x with reqTag := none })).putB PAT_BR_PEND false).putB PAT_BR_LATE false

/-- Vectors of the stream that the running and issued passes hold. -/
def State.streamHeld (s : State) : Nat :=
  s.pat.ahead + (if s.segStream s.pat.seg.toNat &&
      (s.pat.idx != 0 || s.pat.rep != 0 || s.waitsForVector) then
    s.segLength s.pat.seg.toNat else 0)

/-- The sequence is over: its passes are abandoned, its request is discarded, its SEQ_STOPs are
answered, and source 417 is raised if it had started. -/
def State.dropSequence (s : State) : State :=
  let started := s.pat.start.isNone
  let s := (s.markStall false).releaseStream s.streamHeld
  let s := s.discardRequest
  let s := s.pat.stops.foldl (fun s e => match e.2 with
    | some tag => s.answer tag stOk 0
    | none => s) s
  let s := (s.modPat (fun x => { x with
    start := none, idx := 0, rep := 0, pastPoint := false, ended := false, issued := []
    cur := none, stops := [], failAt := none, strobed := true, ahead := 0 }))
  s.when started (fun s => s.raise 417)

/-- The sequence ends: the pins take the idle vector (R193). -/
def State.endSequence (s : State) (i : Tick × Nat) : State :=
  let s := (s.idlePins true i).dropSequence
  if s.patState == paSTOPPING then (s.modPat (fun x => { x with idleSince := some i.1 }))
  else s.setPat paIDLE

/-- A scheduled start that is dropped is answered with a STATE_CONFLICT. -/
def State.dropStart (s : State) (detail : Nat) : State :=
  match s.pat.start with
  | some (_, _, tag) => s.dropSequence.answer tag stStateConflict detail
  | none => s

/-- FAULT and the standby role: OFF at once, the pins tristate (R193). -/
def State.patternOff (s : State) : State :=
  let s := if s.pat.start.isSome then s.dropStart 0x12
    else if s.pat.cur.isSome then s.dropSequence else s
  ((s.modPat (fun x => { x with cal := none, idleSince := none })).putB PAT_CAL_BUSY
    false).tristatePins.setPat paOFF

/-- PROBE switches on (R193): OFF becomes IDLE. -/
def State.patternProbeOn (s : State) : State :=
  if s.patState == paOFF && !s.standby then (s.setPat paIDLE).idlePins false (s.now, 0) else s

/-- PROBE switches off (R193). -/
def State.patternProbeOff (s : State) : State :=
  if s.patState == paOFF || s.patState == paSTOPPING then s
  else
    let was := s.patState
    let s := (s.dropStart 0x12).setPat paSTOPPING
    if was == paRUN || (was == paSTARVED && (s.pat.cur.map (fun o => o.gap)) == some false) then s
    else if was == paSTARVED then s.endSequence (s.now, 0)
    else
      let s := (s.modPat (fun x => { x with cal := none })).putB PAT_CAL_BUSY false
      (s.idlePins true (s.now, 0)).modPat (fun x => { x with idleSince := some s.now })

/-- EXIT_T ticks of idle vector have passed (R193): OFF, and IDLE again if PROBE is on. -/
def State.stoppingExit (s : State) : State :=
  if s.patState != paSTOPPING then s
  else match s.pat.idleSince with
    | none => s
    | some t =>
      let s := s.advanceTo (t + BitVec.ofNat 48 (s.get PAT_CFG_EXIT_T))
      let s := ((s.modPat (fun x => { x with idleSince := none })).tristatePins).setPat paOFF
      if s.modeOn mPROBE then s.patternProbeOn else s

/-! ### Branch requests (R183 to R188) -/

/-- A request becomes pending, late where the pass's decision point is past (R186). -/
def State.makeRequest (s : State) (target : Nat) (tag : Option (BitVec 16)) : State :=
  let late := s.pat.pastPoint
  let s := (((s.modPat (fun x => { x with reqTag := tag })).putB PAT_BR_PEND true).put
    PAT_BR_TARGET target).putB PAT_BR_LATE late
  if late then
    (s.bump PAT_BR_LATE_CNT).when (!s.bit (SEG_B_QUIET (s.get PAT_STAT_SEG)))
      (fun s => s.raise 420)
  else s

/-- The input is the one that the condition of segment `g` names (R183). -/
def State.branchMatches (s : State) (g : Nat) : BranchInput → Bool
  | .line n => s.get (SEG_C_COND g) == 1 && s.get (SEG_C_CSEL g) % 8 == n.toNat
  | .hit c => s.get (SEG_C_COND g) == 2 && s.get (SEG_C_CSEL g) == c.toNat
  | .decision k v =>
    s.get (SEG_C_COND g) == (if v then 3 else 4) && s.get (SEG_C_CSEL g) % 32 == k.toNat

/-- BRANCH_REQUEST (R184): an arrival-kind input that is on its way reaches the sequencer; while a
pass runs it makes a request, or is dropped. -/
def State.branchArrives (s : State) (i : BranchInput) : State :=
  match s.pat.inputs.find? (fun e => e.1 == i) with
  | none => s
  | some e =>
  let s := s.modPat (fun x => { x with inputs := x.inputs.erase e })
  let g := s.get PAT_STAT_SEG
  if s.patState != paRUN || !s.branchMatches g i then s
  else if s.bit PAT_BR_PEND then (s.bump PAT_BR_DROP_CNT).raise 421
  else s.makeRequest (s.get (SEG_C_TARGET g)) none

/-- A compare of the pass being issued is known to have failed (R187): its result takes up to 8
ticks, within which it is open whether it has arrived. -/
def State.knownFailed (s : State) : Bool × State :=
  match s.pat.failAt with
  | none => (false, s)
  | some t =>
    if t + 8 ≤ s.tb.up then (true, s)
    else (s.fresh.1 % 2 == 1, s.fresh.2)

/-- A level-kind condition of segment `g` holds (R187). -/
def State.levelHolds (s : State) (g : Nat) : Bool × State :=
  if s.get (SEG_C_COND g) == 5 then s.knownFailed
  else if s.get (SEG_C_COND g) == 6 then (!s.knownFailed.1, s.knownFailed.2)
  else (false, s)

/-- A successor is taken unless its descriptor is invalid (R182). -/
def State.ifValid (s : State) (g : Nat) : Option (Nat × Nat) :=
  if s.segValid g then some (g, 0) else none

/-- The decision point (R186): the segment and pass that follow, if any. `i` is the end of the pass
at the pins. -/
def State.decisionPoint (s : State) (i : Tick × Nat) : Option (Nat × Nat) × State :=
  let g := s.pat.seg.toNat
  let p := s.pat.pass.toNat
  let more := decide (p + 1 < s.segLoops g)
  if s.patState == paSTOPPING then (if more then some (g, p + 1) else none, s)
  else if s.bit PAT_BR_PEND then
    let target := s.get PAT_BR_TARGET
    let late := s.bit PAT_BR_LATE
    if s.segValid target then
      let s := match s.pat.reqTag with
        | some tag => s.answer tag stOk 0 [packWord [(i.1.toNat, 16, 48), (b2n late, 0, 1)]]
        | none => s
      (some (target, 0), ((s.modPat (fun x => { x with reqTag := none })).putB PAT_BR_PEND
        false).putB PAT_BR_LATE false)
    else (none, s.discardRequest)
  else
    let (holds, s) := s.levelHolds g
    if holds then (s.ifValid (s.get (SEG_C_TARGET g)), s)
    else if more then (some (g, p + 1), s)
    else if s.bit (SEG_B_END g) then (none, s)
    else (s.ifValid (s.get (SEG_B_NEXT g)), s)

/-! ### Issue (R185, R189, R190) -/

/-- The vector to be issued, whether its grain is bad, and its index as PAT_POS shows it. -/
def State.fetchVec (s : State) : Option (BitVec 128 × Bool × BitVec 16) :=
  let g := s.pat.seg.toNat
  if s.segStream g then
    (s.streamVecs[s.pat.ahead + s.pat.idx.toNat]?).map (fun v => (v.1, v.2, s.pat.idx))
  else
    let v := s.get (SEG_A_START g) + s.pat.idx.toNat
    some (s.vector v, false, BitVec.ofNat 16 v)

/-- The first output of a segment finds its successor or target invalid (R182). -/
def State.prefetch (s : State) : State :=
  let g := s.pat.seg.toNat
  if s.pat.pass != 0 || s.pat.idx != 0 || s.pat.rep != 0 then s
  else
    let s := s.when (!s.bit (SEG_B_END g) && !s.segValid (s.get (SEG_B_NEXT g)))
      (fun s => s.raise 426)
    s.when (s.get (SEG_C_COND g) != 0 && !s.segValid (s.get (SEG_C_TARGET g)))
      (fun s => s.raise 426)

/-- Appends an output to those in flight. -/
def State.pushOut (s : State) (o : VecOut) : State :=
  (s.modPat (fun x => { x with issued := s.pat.issued ++ [o], pastPoint := o.last }))

/-- Issues the last output of a pass: its decision point (R185, R186). -/
def State.issueLast (s : State) (o : VecOut) : State :=
  let stream := if s.segStream s.pat.seg.toNat then s.segLength s.pat.seg.toNat else 0
  let s := (s.modPat (fun x => { x with ahead := s.pat.ahead + stream }))
  let endAt := match s.startAfterAll s.pat.acc s.pat.ref (s.inFlight ++ [o]) with
    | some (i, _, _) => i
    | none => (s.now, 0)
  let (next, s) := s.decisionPoint endAt
  let stay := next == some (s.pat.seg.toNat, s.pat.pass.toNat + 1)
  let s := s.pushOut { o with last := true, segEnd := !stay, stream := stream }
  match next with
  | some (g, p) => (s.modPat (fun x => { x with
      seg := BitVec.ofNat 10 g, pass := BitVec.ofNat 16 p, idx := 0, rep := 0
      serial := s.pat.serial + 1, failAt := none }))
  | none => (s.modPat (fun x => { x with ended := true, idx := 0, rep := 0 }))

/-- Issues one output (R185). -/
def State.issueOut (s : State) (vec : BitVec 128) (bad : Bool) (num : BitVec 16) : State :=
  let s := s.prefetch
  let s := ((s.put PAT_STAT_SEG s.pat.seg.toNat).put PAT_STAT_PASS s.pat.pass.toNat).put
    PAT_POS_VEC num.toNat
  let o : VecOut := { vec := vec, seg := s.pat.seg, pass := s.pat.pass, num := num, rep := s.pat.rep
                      serial := s.pat.serial, rate := vecRate vec, spoilt := bad }
  if s.pat.rep.toNat < vecRepeat vec then
    (s.pushOut o).modPat (fun x => { x with rep := s.pat.rep + 1 })
  else if s.pat.idx.toNat + 1 < s.segLength s.pat.seg.toNat then
    (s.pushOut o).modPat (fun x => { x with rep := 0, idx := s.pat.idx + 1 })
  else s.issueLast o

/-- VECTOR_ISSUE (R185): t_LEAD ticks before its start at the pins. -/
def State.vectorIssue (s : State) : State :=
  let on := s.patState == paRUN || s.patState == paSTOPPING || s.pat.start.isSome
  if !on || s.pat.ended || s.waitsForVector then s
  else match s.dueStart with
    | none => s
    | some (i, _, _) =>
      let s := s.advanceTo (i.1 - BitVec.ofNat 48 tLead)
      match s.fetchVec with
      | none => s.starve
      | some (vec, bad, num) => s.issueOut vec bad num

/-! ### Starts at the pins (R170, R173, R207) -/

/-- A pending SEQ_STOP names this point, the end of output `o` (R195). -/
def State.stopsHere (s : State) (o : VecOut) : Bool :=
  s.pat.stops.any (fun e => e.1 == 0 || (!o.gap && ((e.1 == 1 && o.last) || (e.1 == 2 && o.segEnd))))

/-- SHOT and EVT of the first output of a vector (R170). -/
def State.vectorMarks (s : State) (o : VecOut) (i : Tick × Nat) : State :=
  if o.rep != 0 || o.spoilt then s
  else
    let s := s.when (vecShot o.vec) (fun s =>
      let s := (s.modPat (fun x => { x with shotNo := s.pat.shotNo + 1 })).count PAT_SHOT_COUNT
      s.shot i.1 i.2 s.pat.shotNo)
    s.when (vecEvt o.vec) (fun s => s.raise 423)

/-- The next output takes the pins; a gap holds the idle vector, and so does a streamed vector
whose grain had an error (R190, R380). -/
def State.takeOutput (s : State) (o : VecOut) (i : Tick × Nat) (acc : W32) (ref : Tick) : State :=
  let s := (s.modPat (fun x => { x with
    cur := some o, curAt := i, issued := s.pat.issued.tail, acc := acc, ref := ref }))
  if o.gap || o.spoilt then s.idlePins true i else (s.vectorPins o.vec i).vectorMarks o i

/-- The output at the pins ends at instant `i` and the next one issued takes its place; a stop ends
the sequence there. -/
def State.nextOutput (s : State) (prev : VecOut) (i : Tick × Nat) (acc : W32) (ref : Tick) : State :=
  match s.pat.issued with
  | [] => if s.stopsHere prev || s.pat.ended then s.endSequence i else s
  | o :: _ =>
    if s.stopsHere prev || (o.gap && (s.pat.stops != [] || s.patState == paSTOPPING)) then
      s.endSequence i
    else s.releaseEnded.takeOutput o i acc ref

/-- VECTOR_START (R173): the NCO wraps; the next output, a gap or the sequence's end reaches the
pins. An output that the fabric has not issued in time is missing (R21, R190). -/
def State.vectorStart (s : State) : State :=
  if !s.patRunning && s.patState != paSTOPPING then s
  else match s.pat.cur with
    | none => s
    | some prev => match s.startAfter prev s.pat.acc s.pat.ref with
      | none => s
      | some (i, acc, ref) =>
        let s := s.advanceTo i.1
        let s := s.when (s.pat.issued.isEmpty && !s.stopsHere prev && !s.pat.ended) State.starve
        s.nextOutput prev i acc ref

/-- SEQUENCE_START (R193): the start tick is reached. -/
def State.sequenceStart (s : State) : State :=
  match s.pat.start with
  | none => s
  | some (_, t, tag) =>
    if s.patState != paIDLE then s
    else
      let s := s.advanceTo t
      let s := ((s.modPat (fun x => { x with start := none, shotNo := 0 })).setPat paRUN).raise 416
      let s := s.answer tag stOk 0 [packWord [(t.toNat, 16, 48)]]
      if s.waitsForVector then s.enterStarved else s

/-- PULSE_FALL (R174): the PULSE pins go low at half the period of the vector's rate. -/
def State.pulseFall (s : State) : State :=
  match s.pat.cur with
  | none => s
  | some o =>
    if s.pat.pulses == 0 then s
    else
      let (k, s) := s.roundNear (2 ^ 38) (s.inc o.rate)
      let i := laterBy s.pat.curAt k.toNat
      let s := s.advanceTo i.1
      let edges := (List.range 32).map (fun n =>
        if bitOf s.pat.pulses n then laterBy i (s.get (PV_PIN_OFS n))
        else s.pat.edges.getD n (0, 0))
      (s.modPins (fun x => { x with pvOut := s.pins.pvOut &&& ~~~s.pat.pulses })).modPat
        (fun x => { x with pulses := 0, edges := edges })

/-! ### Compares (R179, R180) -/

/-- The tick at which the output at the pins is sampled (R179). -/
def State.strobeTick (s : State) (o : VecOut) : Tick :=
  let i := s.pat.curAt
  let t := (if i.2 == 0 then i.1 else i.1 + 1) + BitVec.ofNat 48 (s.get PAT_CMP_STROBE)
  match s.startAfter o s.pat.acc s.pat.ref with
  | some (e, _, _) =>
    if instantLt (t, 0) e then t else if e.2 == 0 then e.1 - 1 else e.1
  | none => t

/-- The pins that fail: EXPECT0 and high, EXPECT1 and low. -/
def State.failingPins (s : State) (levels : W32) : W32 :=
  (List.range 32).foldl (fun w n =>
    setBit w n ((s.pat.states.getD n 1 == 4 && bitOf levels n) ||
      (s.pat.states.getD n 1 == 5 && !bitOf levels n))) 0

/-- A failing output (R180). -/
def State.compareFails (s : State) (o : VecOut) (mask : W32) : State :=
  let s := s.count PAT_FAIL_CNT
  let s := s.when (!s.bit PAT_FAIL_SEG_VALID) (fun s =>
    ((((((s.putB PAT_FAIL_SEG_VALID true).put PAT_FAIL_SEG_SEG o.seg.toNat).put PAT_FAIL_SEG_VEC
      o.num.toNat).put PAT_FAIL_PASS_PASS o.pass.toNat).put PAT_FAIL_TICK_TICK_L
      s.pat.curAt.1.toNat).put PAT_FAIL_MASK_PINS mask.toNat))
  let s := s.when (o.serial == s.pat.serial && s.pat.failAt.isNone) (fun s =>
    (s.modPat (fun x => { x with failAt := some s.tb.up })))
  let s := s.when (s.pat.failRaised != o.serial + 1) (fun s =>
    (s.modPat (fun x => { x with failRaised := o.serial + 1 })).raise 422)
  s.when (s.bit PAT_CFG_FAIL_STOP) (fun s =>
    s.discardRequest.modPat (fun x => { x with stops := (0, none) :: s.pat.stops }))

/-- COMPARE_STROBE (R179): the receivers show `levels`. -/
def State.compareStrobe (s : State) (levels : W32) : State :=
  match s.pat.cur with
  | none => s
  | some o =>
    if s.pat.strobed then s
    else
      let s := s.advanceTo (s.strobeTick o)
      let s := (s.modPat (fun x => { x with strobed := true })).modPins
        (fun x => { x with pvIn := levels })
      let mask := s.failingPins levels
      if mask == 0 then s else s.compareFails o mask

/-! ### Resuming (R191, R192) -/

/-- The queue holds the whole starved pass. -/
def State.holdsPass (s : State) : Bool :=
  decide (s.pat.ahead + s.segLength s.pat.seg.toNat ≤ s.streamVecs.length) ||
    !s.segStream s.pat.seg.toNat

/-- The gap that the sequencer waits in may end from tick `g` on. -/
def endGap (g : Tick) : List VecOut → List VecOut
  | [] => []
  | [o] => [{ o with resume := some g }]
  | o :: rest => o :: endGap g rest

/-- Restarts the pass at the first start of the NCO at or after tick `g` (R191). -/
def State.resumeAt (s : State) (g : Tick) : State :=
  let s := if s.pat.issued.isEmpty then
      s.modPat (fun x => { x with cur := x.cur.map (fun o => { o with resume := some g }) })
    else s.modPat (fun x => { x with issued := endGap g x.issued })
  match s.dueStart with
  | some (i, _, _) => s.tellResume i.1
  | none => s

/-- STARVE_RESUME (R191). -/
def State.starveResume (s : State) : State :=
  if s.patState != paSTARVED || !s.waitsForVector then s
  else if s.bit PAT_CFG_STARVE_ACT then
    if (s.pat.cur.map (fun o => o.gap)) == some true then s.endSequence (s.now, 0)
    else (s.modPat (fun x => { x with stops := (3, none) :: s.pat.stops }))
  else if !s.holdsPass then s
  else
    (((s.markStall false).resumeAt (s.now + BitVec.ofNat 48 tLead)).setPat paRUN).raise 419

/-! ### Calibration (R176, R177) -/

/-- The first selected pin whose timekeeper channel does not loop it back (R176). -/
def State.calLacks (s : State) : Option Nat :=
  (setBits (s.rd PAT_CAL_PINS.addr)).find? (fun n =>
    !s.bit (CH_CFG_EN (32 + n)) || s.get (CH_CFG_SRC (32 + n)) != 2)

/-- A write to PAT_CAL (R176). A standby's engine is OFF at once (R193): its calibration ends as it
starts (DESIGN CHOICE, log entry 24). -/
def State.writePatCal (s : State) (v : W32) : WriteResult :=
  if !bitOf v 31 then .ok s
  else if s.patState != paIDLE && s.patState != paOFF then refuseWrite stStateConflict 0x71
  else match s.calLacks with
    | some n => refuseWrite stBadParam n
    | none =>
      if s.standby then .ok s
      else
        let fromOff := s.patState == paOFF
        let pins := s.rd PAT_CAL_PINS.addr
        let s := (s.dropStart 0x71).modPat (fun x => { x with cal := some (pins, fromOff) })
        .ok (((s.putB PAT_CAL_BUSY true).modPins (fun x => { x with
          pvDrive := s.pins.pvDrive ||| pins })).setPat paCAL)

/-- The arrivals of each code's edges, in fine units after their drive: 64 times their average. A code
with another number of edges is averaged over those it has. -/
def codeDelays (arrivals : List (List Int)) : List Int :=
  arrivals.map (fun l => 64 * l.foldl (· + ·) 0 / max 1 l.length)

/-- The delays never fall from a code to the next. -/
def rising : List Int → Bool
  | a :: b :: l => decide (a ≤ b) && rising (b :: l)
  | _ => true

/-- The codes whose delay is nearest to `d`. -/
def nearestCodes (delays : List Int) (d : Int) : List Nat :=
  let dist := delays.map (fun x => (x - d).natAbs)
  let best := dist.foldl min (dist.headD 0)
  (List.range delays.length).filter (fun k => dist.getD k 0 == best)

/-- The code nearest to a delay; which of two equally near ones is open. -/
def State.nearestCode (s : State) (delays : List Int) (d : Int) : Nat × State :=
  match nearestCodes delays d with
  | [] => (0, s)
  | [c] => (c, s)
  | l => (l.getD (s.fresh.1 % l.length) 0, s.fresh.2)

/-- The delay line spans 128 steps of 6.25 ps, which is 8 fine units, from the delay of its first code
(log entry 24), and is monotonic (R177). -/
def calPasses (delays : List Int) : Bool :=
  rising delays && !delays.isEmpty &&
    decide (128 * 8 * 64 ≤ delays.getLastD 0 - delays.headD 0)

/-- One pin's calibration is over (R177): its table is filled with the codes nearest to the 128 steps
after the delay of its first code, and BASE, whose formula the spec does not give, is set; a pin that
fails keeps both. -/
def State.calPin (meas : List (BitVec 5 × List (List Int))) (s : State) (n : Nat) : State :=
  let delays := codeDelays (((meas.find? (fun r => r.1.toNat == n)).map (fun r => r.2)).getD [])
  if calPasses delays then
    let (base, s) := s.fresh
    let s := ((s.put (PV_PIN_BASE n) base).mark PAT_CAL_OK_PINS n).unmark PAT_CAL_ERR_PINS n
    (List.range 32).foldl (fun s k =>
      let (w, s) := (List.range 4).foldl (fun (a : Nat × State) b =>
        let (c, s) := a.2.nearestCode delays (delays.headD 0 + ((4 * k + b) * 8 * 64 : Nat))
        (a.1 + c % 256 * 256 ^ b, s)) (0, s)
      s.put (PAT_TAB n k) w) s
  else s.mark PAT_CAL_ERR_PINS n

/-- CALIBRATION_END (R177, R193): `meas` gives for each selected pin the stamped arrivals of the edges
of each code of its delay line. -/
def State.calibrationEnd (s : State) (meas : List (BitVec 5 × List (List Int))) : State :=
  match s.pat.cal with
  | none => s
  | some (pins, _) =>
    let failed := (setBits pins).any (fun n =>
      !calPasses (codeDelays (((meas.find? (fun r => r.1.toNat == n)).map (fun r => r.2)).getD [])))
    let s := (setBits pins).foldl (State.calPin meas) s
    let s := (s.modPat (fun x => { x with cal := none })).putB PAT_CAL_BUSY false
    let s := if s.modeOn mPROBE && !s.standby then (s.setPat paIDLE).idlePins false (s.now, 0)
      else (s.setPat paOFF).tristatePins
    (s.raise 424).when failed (fun s => s.raise 425)

/-! ### Register and memory writes (R194) -/

/-- The accumulator at the start of tick `t`, having added the INC of the output at the pins. -/
def State.moveNco (s : State) (o : VecOut) (t : Tick) : State :=
  s.modPat (fun x => { x with
    acc := BitVec.ofNat 32 (x.acc.toNat + (t - x.ref).toNat * s.inc o.rate), ref := t })

/-- The NCO up to and with the present tick under the INC in force (R172): an end of the output at the
pins whose wrap has come by then stands; else the accumulator moves on. -/
def State.settleNco (s : State) : State :=
  match s.pat.cur with
  | some o =>
    let next := s.now + 1
    if o.till.isSome || !tickLt s.pat.ref next then s
    else match s.startAfter o s.pat.acc s.pat.ref with
      | some (i, a, r) =>
        if tickLe r next then
          s.modPat (fun x => { x with cur := some { o with till := some (i.1, i.2, a, r) } })
        else s.moveNco o next
      | none => s.moveNco o next
  | none => s

/-- A write to PAT_RATE: the ticks so far have added the old INC (R172). -/
def State.writePatRate (s : State) (a : Nat) (v : W32) : State := s.settleNco.plainWrite a v

/-- A write to PAT_IDLE_EN or PAT_IDLE_VAL: pins that hold the idle vector follow it, in a calibration
entered from IDLE those that are not selected (R193). -/
def State.writePatIdle (s : State) (a : Nat) (v : W32) : State :=
  let idle := s.patState == paIDLE || (s.patState == paSTOPPING && s.pat.idleSince.isSome) ||
    (s.patRunning && (s.pat.cur.map (fun o => o.gap)) == some true)
  let s := s.plainWrite a v
  match s.pat.cal with
  | some (pins, false) =>
    s.takePins ((List.range 32).map (fun n => if bitOf pins n then 6 else s.idleStates.getD n 6)) false
      (s.now, 0)
  | _ => if idle then s.idlePins (s.patState != paIDLE) (s.now, 0) else s

/-- A write in the pattern engine's block (R200). -/
def State.writePattern (s : State) (a : Nat) (v : W32) : WriteResult :=
  if a == PAT_CAL.addr then s.writePatCal v
  else if 0xD0010 ≤ a && a < 0xD0020 then .ok (s.writePatRate a v)
  else if a == PAT_IDLE_EN.addr || a == PAT_IDLE_VAL.addr then .ok (s.writePatIdle a v)
  else if 0xD4000 ≤ a && a < 0xD8000 then
    if s.segsInUse.contains ((a - 0xD4000) / 16) then refuseWrite stStateConflict 0x70
    else .ok (s.plainWrite a v)
  else if 0xD8000 ≤ a then
    if s.patState != paIDLE && s.patState != paOFF then refuseWrite stStateConflict 0x70
    else .ok (s.plainWrite a v)
  else .ok (s.plainWrite a v)

/-- A write of one word of vector memory (R171, R194). -/
def State.writeVecWord (s : State) (a : Nat) (v : W32) : WriteResult :=
  let n := (a - 0x800000) / 16
  if s.vecsInUse n (n + 1) then refuseWrite stStateConflict 0x70
  else .ok (s.setMemWord a (v &&& vecMask a))

/-! ### Commands (R195, R196) -/

/-- Writes vectors from `v` on, high half first (R195). -/
def State.loadVecs (s : State) (v : Nat) : List W64 → State
  | hi :: lo :: rest =>
    let a := vecAddr v
    let s := (s.setMemWord a (lo.extractLsb' 0 32)).setMemWord (a + 4) (lo.extractLsb' 32 32)
    let s := (s.setMemWord (a + 8) (hi.extractLsb' 0 32)).setMemWord (a + 12)
      (hi.extractLsb' 32 32 &&& vecMask 12)
    s.loadVecs (v + 1) rest
  | _ => s

/-- VEC_LOAD: a refusal, or the state in which it is done. -/
def State.vecLoadCmd (s : State) (c : Cmd) : (Nat × Nat) ⊕ State :=
  let n := bits (param c 0) 31 16
  let v := bits (param c 0) 15 0
  if !s.domOn dPAT then .inl (stStateConflict, 0x74)
  else if n == 0 then .inl (stBadParam, if c.p.length == 0 then 6 else 0)
  else if c.p.length != 1 + 2 * n then .inl (stBadParam, 6)
  else if 65536 < v + n then .inl (stBadParam, 0)
  else if s.vecsInUse v (v + n) then .inl (stStateConflict, 0x70)
  else .inr (s.loadVecs v c.p.tail)

/-- SEQ_START: a refusal, or the state in which its start is scheduled. -/
def State.seqStartCmd (s : State) (c : Cmd) : (Nat × Nat) ⊕ State :=
  let p := param c 0
  let g := bits p 57 48
  let t : Tick := if bitOf p 63 then BitVec.ofNat 48 (bits p 47 0) else s.now + 64
  if !s.modeOn mPROBE then .inl (stStateConflict, 0x12)
  else if !s.domOn dPAT then .inl (stStateConflict, 0x74)
  else if s.patState != paIDLE || s.pat.start.isSome then .inl (stStateConflict, 0x71)
  else if !s.segValid g || (2 ^ 31 : Int) < tickDiff t s.now then .inl (stBadParam, 0)
  else if tickDiff t s.now < 64 then .inl (stTimedOut, 0)
  else
    .inr ((s.modPat (fun x => { x with
      start := some (BitVec.ofNat 10 g, t, c.tag)
      seg := BitVec.ofNat 10 g, pass := 0, idx := 0, rep := 0, pastPoint := false, ended := false
      serial := s.pat.serial + 1, failAt := none, issued := [], ahead := 0
      cur := some { gap := true, till := some (t, 0, 0, t) }, curAt := (s.now, 0)
      acc := 0, ref := t })))

/-- SEQ_STOP: a refusal, or the state in which it is noted; the sequence ends at once while the
pins already hold the idle vector. -/
def State.seqStopCmd (s : State) (c : Cmd) : (Nat × Nat) ⊕ State :=
  let w := bits (param c 0) 1 0
  if !s.domOn dPAT then .inl (stStateConflict, 0x74)
  else if !s.patRunning then .inl (stStateConflict, 0x72)
  else if w == 3 then .inl (stBadParam, 0)
  else .inr (s.discardRequest.modPat (fun x => { x with
      stops := (BitVec.ofNat 2 w, some c.tag) :: s.pat.stops }))

/-- The sequence ends at once when a SEQ_STOP comes while the pins hold the idle vector of
STARVED (R193). -/
def State.stopStarved (s : State) : State :=
  if s.patState == paSTARVED && (s.pat.cur.map (fun o => o.gap)) == some true then
    s.endSequence (s.now, 0)
  else s

/-- SEQ_BRANCH: a refusal, or the state in which its request is pending. -/
def State.seqBranchCmd (s : State) (c : Cmd) : (Nat × Nat) ⊕ State :=
  let g := bits (param c 0) 9 0
  if !s.domOn dPAT then .inl (stStateConflict, 0x74)
  else if !s.patRunning then .inl (stStateConflict, 0x72)
  else if !s.segValid g then .inl (stBadParam, 0)
  else if s.bit PAT_BR_PEND then .inl (stBusy, 0)
  else .inr (s.makeRequest g (some c.tag))

/-! ### The steps -/

/-- SEQUENCE_START, R193. -/
def execSequenceStart (s : State) : Host.Outcome State Fault Refusal := .next s.sequenceStart
/-- VECTOR_ISSUE, R185. -/
def execVectorIssue (s : State) : Host.Outcome State Fault Refusal := .next s.vectorIssue
/-- VECTOR_START, R173. -/
def execVectorStart (s : State) : Host.Outcome State Fault Refusal := .next s.vectorStart
/-- PULSE_FALL, R174. -/
def execPulseFall (s : State) : Host.Outcome State Fault Refusal := .next s.pulseFall
/-- COMPARE_STROBE, R179. -/
def execCompareStrobe (levels : W32) (s : State) : Host.Outcome State Fault Refusal :=
  .next (s.compareStrobe levels)
/-- BRANCH_REQUEST, R184. -/
def execBranchRequest (i : BranchInput) (s : State) : Host.Outcome State Fault Refusal :=
  .next (s.branchArrives i)
/-- STARVE_RESUME, R191. -/
def execStarveResume (s : State) : Host.Outcome State Fault Refusal := .next s.starveResume
/-- STOPPING_EXIT, R193. -/
def execStoppingExit (s : State) : Host.Outcome State Fault Refusal := .next s.stoppingExit
/-- CALIBRATION_END, R177. -/
def execCalibrationEnd (meas : List (BitVec 5 × List (List Int))) (s : State) :
    Host.Outcome State Fault Refusal := .next (s.calibrationEnd meas)

end Sys2Proof.Machine
end

