-- ==== Sys2Proof/Machine/Analog.lean ====
section
/-! DEFINITION. The analog outputs (R317 to R331): what each pin shows, range changes, CLRN, the
high ranges, and writes to the output registers. -/
namespace Sys2Proof.Machine

/-- The AO domain of output `n`. -/
def aoDomain (n : Nat) : Nat := dAO (n / 16)

/-- The output's domain is on and configured (R320). -/
def State.aoReady (s : State) (n : Nat) : Bool :=
  s.domOn (aoDomain n) && s.pwr.aoReady.getLsbD (n / 16)

/-- Loop `m` is enabled and writes output `n` (R325). -/
def State.loopBinds (s : State) (m n : Nat) : Bool :=
  s.bit (LOOP_CFG_EN m) && s.bit (LOOP_CFG_BIND m) && s.get (LOOP_CFG_AO m) == n

/-- Output `n` is bound (R325). -/
def State.aoBound (s : State) (n : Nat) : Bool := (List.range 16).any (fun m => s.loopBinds m n)

/-- The ranges 0 to 10 V and ±10 V. -/
def highRange (r : Nat) : Bool := r == 2 || r == 4

def aoHIGHZ : Nat := 0
def aoRANGE : Nat := 1
def aoCLEAR : Nat := 2
def aoDATA : Nat := 3

/-- What the pin of output `n` shows: the first state of R319 whose condition holds. -/
def State.aoState (s : State) (n : Nat) : Nat :=
  if !s.aoReady n || s.unitState == usFault || s.standby || s.cus.released.getLsbD n ||
      decide (s.tb.up < s.cus.drive) ||
      !s.bit (AO_CFG_EN n) then aoHIGHZ
  else if s.pins.aoBusy.getLsbD n then aoRANGE
  else if highRange (s.get (AO_CFG_RANGE n)) && !s.bit AO_GSTAT_HIRNG then aoHIGHZ
  else if !s.bit AO_GSTAT_CLRN then aoCLEAR
  else aoDATA

/-- The code at the DAC (R330). -/
def State.aoDriven (s : State) (n : Nat) : Nat :=
  if s.aoState n == aoCLEAR then s.get (AO_CFG_CLR n) else s.get (AO_DATA_CODE n)

/-- The voltage of code `k` in a range, in units of 2^-17 V: straight binary in the unipolar ranges,
offset binary in the bipolar ones (R317). -/
def rangeVolts (range : Nat) (k : Int) : Int :=
  if range == 0 then 5 * k
  else if range == 1 then 10 * k
  else if range == 2 then 20 * k
  else if range == 3 then 20 * (k - 32768)
  else 40 * (k - 32768)

/-- The voltage at the pin of output `n` in units of 2^-17 V; none at high impedance (R317, R319). -/
def State.aoVolts (s : State) (n : Nat) : Option Int :=
  if s.aoState n < aoCLEAR then none else some (rangeVolts (s.get (AO_CFG_RANGE n)) (s.aoDriven n))

/-- AO_STAT as a read shows it (R330). -/
def State.aoStat (s : State) (n : Nat) : W32 :=
  BitVec.ofNat 32 (s.aoState n * 2 ^ 29 + b2n (s.aoBound n) * 2 ^ 28 + s.aoDriven n)

/-- The output has been written, which ends the hold of R49. -/
def State.aoWritten (s : State) (n : Nat) : State :=
  (s.modCus (fun x => { x with released := setBit s.cus.released n false }))

/-- A bound loop's code is latched (R295, R325), which writes the output; after a cause the outputs
hold their codes (R474). -/
def State.aoLatch (s : State) (n code : Nat) : State :=
  if s.cus.holding || !s.aoReady n then s else (s.put (AO_DATA_CODE n) code).aoWritten n

/-- The output's AO_DATA takes its clear code (R322, R326). -/
def State.aoClear (s : State) (n : Nat) : State := s.put (AO_DATA_CODE n) (s.get (AO_CFG_CLR n))

/-- Starts a range change (R322). -/
def State.rangeChange (s : State) (n : Nat) : State :=
  (s.modPins (fun x => { x with aoBusy := setBit s.pins.aoBusy n true }))

/-- A write to AO_CFG (R296, R317, R318, R321 to R323). -/
def State.writeAoCfg (s : State) (n : Nat) (v : W32) : WriteResult :=
  let r := (AO_CFG_RANGE n).read v
  let change := r != s.get (AO_CFG_RANGE n)
  if !s.domOn (aoDomain n) then refuseWrite stStateConflict 0xA0
  else if s.pins.aoBusy.getLsbD n then refuseWrite stBusy 0
  else if 5 ≤ r then refuseWrite stBadParam 0
  else if change && s.modeOn mREGULATE && s.aoBound n then refuseWrite stStateConflict 0x23
  else if highRange r && !s.bit AO_GSTAT_HIRNG then refuseWrite stLimit 1
  else
    let s := (s.plainWrite (AO_CFG n).addr v).aoWritten n
    .ok (if change then s.rangeChange n else s)

/-- A write to AO_DATA (R40, R321, R323, R325, R327): outside READY and ACTIVE it is refused with the
unit state's code (log entry 37). -/
def State.writeAoData (s : State) (n : Nat) (v : W32) : WriteResult :=
  if s.standby then refuseWrite stRefused 0
  else if !s.readyOrActive then refuseWrite stStateConflict s.unitState
  else if !s.domOn (aoDomain n) then refuseWrite stStateConflict 0xA0
  else if s.aoBound n then refuseWrite stStateConflict 0x23
  else if s.pins.aoBusy.getLsbD n then refuseWrite stBusy 0
  else .ok ((s.plainWrite (AO_DATA n).addr v).aoWritten n)

/-- A write in the analog outputs block. -/
def State.writeAnalog (s : State) (a : Nat) (v : W32) : WriteResult :=
  let n := (a - 0x121000) / 16 % 32
  if a < 0x121000 then .ok (s.plainWrite a v)
  else if a % 16 == 0 then s.writeAoCfg n v
  else if a % 16 == 4 then s.writeAoData n v
  else .ok (s.plainWrite a v)

/-- REGULATE goes off with REG_EXIT 1 (R326): output `n`, if bound, takes its clear code. -/
def State.aoExit (s : State) (n : Nat) : State :=
  if s.bit MODE_CFG_REG_EXIT && s.aoBound n && s.aoReady n then s.aoClear n else s

/-- RANGE_CHANGE_END (R322). -/
def State.rangeEnd (s : State) (n : Nat) : State :=
  if !s.pins.aoBusy.getLsbD n then s
  else ((s.modPins (fun x => { x with aoBusy := setBit s.pins.aoBusy n false })).aoClear n).raise 516

/-! ### The steps -/

/-- RANGE_CHANGE_END, R322. -/
def execRangeChangeEnd (n : BitVec 5) (s : State) : Host.Outcome State Fault Refusal :=
  .next (s.rangeEnd n.toNat)

/-- CLRN_FALL, R324. -/
def execClrnFall (s : State) : Host.Outcome State Fault Refusal :=
  .next (if s.bit AO_GSTAT_CLRN then (s.putB AO_GSTAT_CLRN false).raise 512 else s)

/-- CLRN_RISE, R324. -/
def execClrnRise (s : State) : Host.Outcome State Fault Refusal :=
  .next (if s.bit AO_GSTAT_CLRN then s else (s.putB AO_GSTAT_CLRN true).raise 513)

/-- HIRNG_LOSS, R318. -/
def execHirngLoss (s : State) : Host.Outcome State Fault Refusal :=
  .next (if s.bit AO_GSTAT_HIRNG then (s.putB AO_GSTAT_HIRNG false).raise 514 else s)

/-- HIRNG_RETURN, R318. -/
def execHirngReturn (s : State) : Host.Outcome State Fault Refusal :=
  .next (if s.bit AO_GSTAT_HIRNG then s else (s.putB AO_GSTAT_HIRNG true).raise 515)

/-- AO_CURRENT_LIMIT, R328. -/
def execAoCurrentLimit (n : BitVec 5) (s : State) : Host.Outcome State Fault Refusal :=
  .next ((s.mark AO_ILIM_OUT n.toNat).raise 517)

end Sys2Proof.Machine
end

