-- ==== Sys2Proof/Machine/Control.lean ====
section
/-! DEFINITION. The control engine (R286 to R316): the arithmetic of a sample, its inputs, sample
starts, loop states, slot writes, telemetry, and the loop commands. -/
namespace Sys2Proof.Machine

/-! ### Numbers (R287, R288) -/

/-- Saturation to 32 bits. -/
def sat32 (x : Int) : Int := limitSigned 32 x

/-- An aligned product: (c * v) * 2^(9 - s), floored. -/
def aligned (c : Int × Nat) (v : Int) : Int := c.1 * v * 2 ^ 9 / 2 ^ c.2

/-- One addition into the accumulator; the count of saturations goes on. -/
def accAdd (a : Int × Nat) (x : Int) : Int × Nat :=
  let y := a.1 + x
  if y < -(2 ^ 71) then (-(2 ^ 71), a.2 + 1)
  else if 2 ^ 71 ≤ y then (2 ^ 71 - 1, a.2 + 1)
  else (y, a.2)

/-- The sum of a stage's terms, one at a time from 0. -/
def accSum (n : Nat) (l : List Int) : Int × Nat := l.foldl accAdd (0, n)

/-- The write-back: rounded to nearest with halves upward, and saturated. -/
def writeBack (a : Int × Nat) : Int × Nat :=
  let r := (a.1 + 256) / 512
  (sat32 r, if sat32 r == r then a.2 else a.2 + 1)

/-! ### Slots (R303, R315) -/

/-- The coefficient in a slot of loop `m`: value and shift. -/
def State.coef (s : State) (m k : Nat) : Int × Nat :=
  (asSigned 32 (s.get (COEF_VAL_VALUE m k)), s.get (COEF_SH_SHIFT m k))

/-- The signal value in a slot. -/
def State.signal (s : State) (m k : Nat) : Int := asSigned 32 (s.get (COEF_VAL_VALUE m k))

/-- One slot write takes effect; the reserved slots stay 0 (R303). -/
def State.putSlot (s : State) (m : Nat) (k : Nat) (shift : Nat) (v : W32) : State :=
  if 5 ≤ k && k ≤ 7 then s
  else (s.put (COEF_VAL_VALUE m k) v.toNat).put (COEF_SH_SHIFT m k) (if k < 68 then shift else 0)

/-! ### The stages (R286, R292 to R294) -/

/-- One biquad of direct form I (R292): output, new state, saturations so far. -/
def biquadStep (c : Nat → Int × Nat) (q : Biquad) (x : Int) (n : Nat) : Int × Biquad × Nat :=
  let (y, n) := writeBack (accSum n [aligned (c 0) x, aligned (c 1) q.x1, aligned (c 2) q.x2,
    -aligned (c 3) q.y1, -aligned (c 4) q.y2])
  (y, { x1 := x, x2 := q.x1, y1 := y, y2 := q.y1 }, n)

/-- The first `k` biquads of a cascade whose slots start at `base`; the others keep their state. -/
def State.cascade (s : State) (m base : Nat) : Nat → List Biquad → Int → Nat →
    Int × List Biquad × Nat
  | k + 1, q :: rest, x, n =>
    let (y, q, n) := biquadStep (fun i => s.coef m (base + i)) q x n
    let (y, rest, n) := s.cascade m (base + 5) k rest y n
    (y, q :: rest, n)
  | _, l, x, n => (x, l, n)

/-- A value held between two limits; the upper one wins. -/
def clampTo (lo hi x : Int) : Int := min (max x lo) hi

/-- The last output of a loop as BUMPLESS takes it (R302): the code driven on its bound output, or
its own last output. -/
def State.bumplessTarget (s : State) (m : Nat) : Int :=
  if s.bit (LOOP_CFG_BIND m) then
    asSigned 32 ((s.aoDriven (s.get (LOOP_CFG_AO m)) ^^^ 0x8000) * 65536)
  else (s.ceOf m).vals.out

/-- PID stage (R293): u, integrator, saturations. `f` is the feed-forward. -/
def State.pid (s : State) (m : Nat) (v : LoopVals) (bump : Bool) (e f : Int) (n : Nat) :
    Int × Int × Nat :=
  let p := aligned (s.coef m 2) e
  let d := aligned (s.coef m 4) (sat32 (e - v.e1))
  let di := aligned (s.coef m 3) e
  let lo := s.signal m 73 * 512
  let hi := s.signal m 74 * 512
  let i := if bump then clampTo lo hi ((s.bumplessTarget m - f) * 512 - p - d)
    else if (v.hiLim && decide (0 < di)) || (v.loLim && decide (di < 0)) then v.integ
    else clampTo lo hi (v.integ + di)
  let (u, n) := writeBack (accSum n [p, d, i])
  (u, i, n)

/-- The whole sample from its raw values (R286). -/
def State.loopValues (s : State) (m : Nat) (raw rawFf : Int) : LoopSample :=
  let l := s.ceOf m
  let v := l.vals
  let nbq := min 8 (s.get (LOOP_STRUCT_NBQ m))
  let ffen := s.bit (LOOP_STRUCT_FFEN m)
  let nff := if ffen then min 4 (s.get (LOOP_STRUCT_NFF m)) else 0
  let (x, n) := writeBack (accSum 0 [aligned (s.coef m 0) (sat32 (raw - s.signal m 69))])
  let (e, sections, n) := s.cascade m 8 nbq v.sections (sat32 (s.signal m 68 - x)) n
  let (f0, n) := if ffen then
      writeBack (accSum n [aligned (s.coef m 1) (sat32 (rawFf - s.signal m 70))])
    else (0, n)
  let (f, ff, n) := s.cascade m 48 nff v.ff f0 n
  let (u, i, n) := s.pid m v l.bumpless e f n
  let w := sat32 (u + f)
  let rate := s.signal m 75
  let up := sat32 (v.out + rate)
  let down := sat32 (v.out - rate)
  let r := if rate == 0 then w else clampTo down up w
  let omin := s.signal m 71
  let omax := s.signal m 72
  let out := min (max r omin) omax
  { vals := { sections := sections, ff := ff, integ := i, e1 := e, out := out
              hiLim := (rate != 0 && decide (up < w)) || decide (omax < max r omin)
              loLim := (rate != 0 && decide (w < down)) || (decide (r < omin) && decide (omin ≤ omax))
              x := x, u := u, f := f }
    olim := out != r, rlim := r != w
    ilim := i == s.signal m 73 * 512 || i == s.signal m 74 * 512, sats := n }

/-! ### Inputs (R289 to R291) -/

/-- The fields of LOOP_IN or LOOP_FFIN. -/
structure InputSel where
  itype : Nat
  isel : Nat
  preq : Bool
  avg : Bool
  qty : Nat
  gate : Nat
  navg : Nat
  deriving DecidableEq, Repr

def State.mainInput (s : State) (m : Nat) : InputSel :=
  { itype := s.get (LOOP_IN_ITYPE m), isel := s.get (LOOP_IN_ISEL m), preq := s.bit (LOOP_IN_PREQ m)
    avg := s.bit (LOOP_IN_AVG m), qty := s.get (LOOP_IN_QTY m), gate := s.get (LOOP_IN_GATE m)
    navg := s.get (LOOP_IN_NAVG m) }

def State.ffInput (s : State) (m : Nat) : InputSel :=
  { itype := s.get (LOOP_FFIN_ITYPE m), isel := s.get (LOOP_FFIN_ISEL m)
    preq := s.bit (LOOP_FFIN_PREQ m), avg := s.bit (LOOP_FFIN_AVG m), qty := s.get (LOOP_FFIN_QTY m)
    gate := s.get (LOOP_FFIN_GATE m), navg := s.get (LOOP_FFIN_NAVG m) }

/-- Sum of the newest samples; one that never was is an open value. -/
def State.sumTaps (s : State) : Nat → List (Int × Option Int) → Int × State
  | 0, _ => (0, s)
  | n + 1, l =>
    let (x, s) := match (l.head?.map (fun e => e.2)).join with
      | some v => (v, s)
      | none => (asSigned 14 s.fresh.1, s.fresh.2)
    let (y, s) := s.sumTaps n l.tail
    (x + y, s)

/-- A fast channel's raw value, of samples labelled at or before the sample start; the odd member of a
pair has no samples of its own (R127). -/
def State.fastInput (s : State) (i : InputSel) : Option Int × State :=
  if 32 ≤ i.isel || !s.faRuns i.isel then (none, s)
  else
    let n := min 8 i.navg
    let taps := (s.faOf (s.faLead i.isel)).taps.dropWhile (fun e => decide ((s.tb.up : Int) < e.1))
    let (sum, s) := s.sumTaps (2 ^ n) taps
    (some (sum * 2 ^ (18 - n)), s)

/-- A port's raw value: its latest result completed before the sample start. -/
def State.portInput (s : State) (i : InputSel) (missed : Bool) : Option Int :=
  if 16 ≤ i.isel || missed then none
  else
    let p := s.spOf i.isel
    let r := match p.last with
      | some r => if (s.tb.up : Int) ≤ r.done then p.before else some r
      | none => none
    match r with
    | some r => if r.fault then none else some (asSigned 24 r.value.toNat * 256)
    | none => none

/-- An echo gate's raw value. -/
def State.echoInput (s : State) (i : InputSel) : Option Int :=
  if 16 ≤ i.isel || !s.modeOn mPROBE then none
  else
    let m := s.dmOf i.isel
    match (if i.avg then m.average else m.single).find? (fun e =>
        e.1.g == i.gate && e.2 != s.now) with
    | some (r, _) =>
      if r.spoil || (r.nohit && i.qty == 2) then none else some (gateQuantity i.qty r)
    | none => none

/-- Another loop's raw value: its latest sample completed before the sample start. -/
def State.loopInput (s : State) (i : InputSel) : Option Int :=
  if 16 ≤ i.isel then none
  else
    let l := s.ceOf i.isel
    some (if l.latched == some s.now then l.outBefore else l.vals.out)

/-- An input at a sample start, none where it is stale (R290, R291). -/
def State.readInput (s : State) (i : InputSel) (missed : Bool) : Option Int × State :=
  if i.itype == 0 then s.fastInput i
  else if i.itype == 1 then (s.portInput i missed, s)
  else if i.itype == 2 then (s.echoInput i, s)
  else (s.loopInput i, s)

/-- The urgent request of an input (R290). -/
def State.askPort (s : State) (i : InputSel) : State :=
  if i.itype == 1 && i.preq && decide (i.isel < 16) then
    s.urgent { port := BitVec.ofNat 4 i.isel, since := s.now, loop := true }
  else s

/-- STALE of the main or the feed-forward input, with its source (R291). -/
def State.markStale (s : State) (m : Nat) (f : RF) (b : Bool) : State :=
  let entry := b && !s.bit f
  (s.putB f b).when entry (fun s => s.raise (480 + 2 * m))

/-- Reads a loop's inputs at its sample start: the raw values, kept where stale. -/
def State.readInputs (s : State) (m : Nat) : Int × Int × State :=
  let ffen := s.bit (LOOP_STRUCT_FFEN m)
  let s := s.modCe m (fun l => { l with notServed := false, notServedFf := false })
  let s := s.askPort (s.mainInput m)
  let s := if ffen then s.askPort (s.ffInput m) else s
  let l := s.ceOf m
  let (a, s) := s.readInput (s.mainInput m) l.notServed
  let (b, s) := if ffen then s.readInput (s.ffInput m) l.notServedFf else (some 0, s)
  let s := s.markStale m (LOOP_STAT_STALE m) a.isNone
  let s := s.markStale m (LOOP_STAT_STALE_FF m) b.isNone
  let raw := a.getD l.raw
  let rawFf := if ffen then b.getD l.rawFf else l.rawFf
  (raw, rawFf, s.modCe m (fun l => { l with raw := raw, rawFf := rawFf }))

/-! ### Loop states (R301, R302) -/

def loOFF : Nat := 0
def loWAIT : Nat := 1
def loRUN : Nat := 2
def loFROZEN : Nat := 3

def State.loopState (s : State) (m : Nat) : Nat := s.get (LOOP_STAT_STATE m)

/-- Ends the pending commands that name loop `m`, whose freeze or release can no longer come. -/
def State.failLoopWaits (s : State) (m : Nat) : State :=
  s.atq.pend.foldl (fun s p => match p.waits with
    | .freeze ls _ => if ls.getLsbD m then s.answer p.tag stStateConflict 0x62 else s
    | .release ls => if ls.getLsbD m then s.answer p.tag stStateConflict 0x61 else s
    | _ => s) s

/-- Sets a loop's state and CE_STAT (R301, R314). -/
def State.setLoop (s : State) (m st : Nat) : State :=
  let was := s.loopState m
  let s := s.put (LOOP_STAT_STATE m) st
  let s := if st == loRUN then s.mark CE_STAT_RUNNING m else s.unmark CE_STAT_RUNNING m
  let s := if st == loFROZEN then s.mark CE_STAT_FROZEN m else s.unmark CE_STAT_FROZEN m
  if (was == loRUN || was == loFROZEN) && (st == loOFF || st == loWAIT) then
    (s.modCe m (fun l => { l with freeze := false, release := none })).failLoopWaits m
  else s

/-- START, or the MODE of a release (R302); 11b acts as 01b. -/
def State.loopMode (s : State) (m mode : Nat) : State :=
  if mode == 0 then s
  else s.modCe m (fun l => { l with
    vals := { l.vals with
      sections := List.replicate 8 {}, ff := List.replicate 4 {}, e1 := 0
      integ := if mode == 2 then l.vals.integ else 0 }
    bumpless := mode == 2 })

/-- A loop goes OFF at once (R301): the sample in progress is dropped. -/
def State.loopOff (s : State) (m : Nat) : State :=
  (s.modCe m (fun l => { l with comp := none, writes := [], notBefore := none })).setLoop m loOFF

/-- FAULT, yield: every loop goes OFF. -/
def State.loopsOff (s : State) : State := (List.range 16).foldl State.loopOff s

/-! ### Slot writes (R303 to R306) -/

/-- Counts a write that took effect for the command of a tag. -/
def countWrite (m : Nat) (t : Tick) (cgen : BitVec 16) (w : Waits) : Waits :=
  match w with
  | .coeff loops left done mir =>
    .coeff loops (left.map (fun e => if e.1.toNat == m then (e.1, e.2 - 1) else e))
      ((BitVec.ofNat 4 m, t, cgen) :: done.filter (fun e => e.1.toNat != m)) mir
  | w => w

/-- Applies one slot write at a sample start (R304). -/
def State.applyWrite (m : Nat) (s : State) (w : SlotWrite) : State :=
  let s := s.putSlot m w.slot.toNat w.shift.toNat w.value
  let c := (w.slot, BitVec.ofNat 5 (s.coef m w.slot.toNat).2, s.rd (COEF_VAL_VALUE m w.slot.toNat).addr)
  let g := s.get (LOOP_STAT_CGEN m) + 1
  let s := s.put (LOOP_STAT_CGEN m) g
  let s := s.modCe m (fun l => { l with mirror := l.mirror ++ [(c, s.now)] })
  (s.modAtq (fun x => { x with pend := s.atq.pend.map (fun p =>
    if p.tag == w.tag then { p with waits := countWrite m s.now (BitVec.ofNat 16 g) p.waits }
    else p) }))

/-- The body of a COEFF_WRITE reply (R306). -/
def coeffBody (loops : BitVec 16) (done : List (BitVec 4 × Tick × BitVec 16)) : List W64 :=
  packWord [(loops.toNat, 0, 16)] :: (setBits loops).map (fun m =>
    match done.find? (fun e => e.1.toNat == m) with
    | some (_, t, g) => packWord [(t.toNat, 16, 48), (g.toNat, 0, 16)]
    | none => 0)

/-- Replies to the COEFF_WRITE commands whose writes have all taken effect; in an active with MIRROR
on the reply waits for the copy that carries them (R306). -/
def State.coeffReplies (s : State) : State :=
  s.atq.pend.foldl (fun s p => match p.waits with
    | .coeff loops left done mir =>
      if left.all (fun e => e.2 == 0) && (mir || !(s.modeOn mMIRROR && s.cstate == csACTIVE)) then
        s.answer p.tag stOk 0 (coeffBody loops done)
      else s
    | _ => s) s

/-- The writes due at a sample start: those that landed before it (R304). -/
def State.applyWrites (s : State) (m : Nat) : State :=
  let due := (s.ceOf m).writes.filter (fun w => w.landed != s.now)
  if due.isEmpty then s
  else
    let s := s.modCe m (fun l => { l with writes := l.writes.filter (fun w => w.landed == s.now) })
    (due.foldl (State.applyWrite m) s).coeffReplies

/-! ### Telemetry (R311, R312) -/

/-- Publishes the telemetry record of a sample. -/
def State.telemetryRecord (s : State) (m : Nat) (v : LoopVals) (olim rlim ilim sat : Bool) :
    State :=
  let i := (writeBack (v.integ, 0)).1
  let fl := b2n (s.loopState m == loFROZEN) * 128 + b2n (s.bit (LOOP_STAT_STALE m)) * 64 +
    b2n (s.bit (LOOP_STAT_STALE_FF m)) * 32 + b2n olim * 16 + b2n rlim * 8 + b2n ilim * 4 +
    b2n sat * 2
  let (r, s) := s.makeRec 5 m { tick := s.now }
    [packWord [(asCode 32 v.x, 32, 32), (asCode 32 v.out, 0, 32)],
     packWord [(asCode 32 v.u, 32, 32), (asCode 32 v.f, 0, 32)],
     packWord [(asCode 32 i, 32, 32), (s.get (LOOP_STAT_CGEN m), 16, 16), (fl, 8, 8),
       (saturate 8 (s.ceOf m).skips, 0, 8)]]
  let s := s.modCe m (fun l => { l with skips := 0, telem := 0 })
  (s.publish (s.get CE_TEL_QUEUE) r).2

/-- A sample start of a running or frozen loop counts toward its next record. -/
def State.telemetry (s : State) (m : Nat) : State :=
  if !s.bit (LOOP_TEL_TEN m) then s
  else if (s.ceOf m).telem < s.get (LOOP_TEL_TDIV m) then
    s.modCe m (fun l => { l with telem := l.telem + 1 })
  else
    let sat := s.bit (LOOP_STAT_SAT m)
    match (s.ceOf m).comp with
    | some c => s.telemetryRecord m c.vals c.olim c.rlim c.ilim (sat || c.sats != 0)
    | none => s.telemetryRecord m (s.ceOf m).vals (s.bit (LOOP_STAT_OLIM m))
        (s.bit (LOOP_STAT_RLIM m)) (s.bit (LOOP_STAT_ILIM m)) sat

/-! ### Sample starts (R297 to R300, R309) -/

/-- PER as it acts (R297). -/
def State.framePer (s : State) : Nat := max 1250 (min 12500000 (s.get CE_FRAME_PER))

/-- The first frame at or after a count in which loop `m` has a sample start (R298). -/
def State.sampleFrame (s : State) (m count : Nat) : Nat :=
  let div := s.get (LOOP_CFG_DIVM1 m) + 1
  let n := (count + s.framePer - 1) / s.framePer
  n + (s.get (LOOP_PH_PH m) % div + div - n % div) % div

/-- The tick of the loop's next sample start. After a wrap the grid follows the new count. -/
def State.nextSample (s : State) (m : Nat) : Tick :=
  let from_ := s.now.toNat + b2n ((s.ceOf m).lastStart == some s.now)
  let t := s.sampleFrame m from_ * s.framePer
  if t < 2 ^ 48 then BitVec.ofNat 48 t else BitVec.ofNat 48 (s.sampleFrame m 0 * s.framePer)

/-- A sample start while the sample before is unfinished is skipped (R300). -/
def State.skipSample (s : State) (m : Nat) : State :=
  let s := s.modCe m (fun l => { l with skips := l.skips + 1 })
  ((s.bump (LOOP_CNT_OVRCNT m)).putB (LOOP_STAT_OVR m) true).raise (481 + 2 * m)

/-- The latest of the freeze ticks of some loops. -/
def State.latestFreeze (s : State) (ls : BitVec 16) : Tick :=
  ((setBits ls).map (fun m => (s.ceOf m).froze)).foldl (fun a t => if tickLe a t then t else a)
    (match setBits ls with
      | m :: _ => (s.ceOf m).froze
      | [] => 0)

/-- Replies to the LOOP_FREEZE commands whose loops are all FROZEN (R307). -/
def State.freezeReplies (s : State) : State :=
  s.atq.pend.foldl (fun s p => match p.waits with
    | .freeze ls _ =>
      if (setBits ls).all (fun m => s.loopState m == loFROZEN) then
        s.answer p.tag stOk 0 [packWord [((s.latestFreeze ls).toNat, 16, 48)]]
      else s
    | _ => s) s

/-- The change of state at a sample start (R301, R307, R308). -/
def State.loopMove (s : State) (m : Nat) : State :=
  let st := s.loopState m
  let en := s.bit (LOOP_CFG_EN m)
  let on := s.modeOn mREGULATE
  let l := s.ceOf m
  if st == loOFF then (if en then s.setLoop m loWAIT else s)
  else if st == loWAIT then
    if !en then s.setLoop m loOFF
    else if on then (s.loopMode m (s.get (LOOP_CFG_START m))).setLoop m loRUN
    else s
  else if !on then
    let s := if s.bit (LOOP_CFG_BIND m) then s.aoExit (s.get (LOOP_CFG_AO m)) else s
    s.setLoop m (if en then loWAIT else loOFF)
  else if !en then s.setLoop m loOFF
  else if st == loRUN && l.freeze then
    ((s.modCe m (fun l => { l with freeze := false, froze := s.now })).setLoop m
      loFROZEN).freezeReplies
  else if st == loFROZEN then
    match l.release with
    | some mode => ((s.modCe m (fun l => { l with release := none })).loopMode m
        mode.toNat).setLoop m loRUN
    | none => s
  else s

/-- A running loop reads its inputs and computes; the result is latched later (R286). -/
def State.startSample (s : State) (m : Nat) : State :=
  let (raw, rawFf, s) := s.readInputs m
  s.modCe m (fun l => { l with comp := some (s.loopValues m raw rawFf), bumpless := false })

/-- The engine runs: CTRL on, not in FAULT, not as a standby, the counter counting. -/
def State.engineOn (s : State) : Bool :=
  s.domOn dCTRL && s.unitState != usFault && !s.standby && s.tb.started

/-- LOOP_SAMPLE_START (R298, R309): writes due, then a freeze or release, then the sample. -/
def State.loopSample (s : State) (m : Nat) : State :=
  if !s.engineOn then s
  else
    let s := s.advanceTo (s.nextSample m)
    let early := match (s.ceOf m).notBefore with
      | some t => tickLt s.now t
      | none => false
    let s := s.modCe m (fun l => { l with lastStart := some s.now })
    if early then s
    else if (s.ceOf m).comp.isSome then s.skipSample m
    else
      let s := (s.applyWrites m).loopMove m
      let s := if s.loopState m == loRUN then s.startSample m else s
      if s.loopState m == loRUN || s.loopState m == loFROZEN then s.telemetry m else s

/-! ### The latch (R295, R299, R308) -/

/-- A released loop has latched its first output: its LOOP_RELEASE may be answered (R308). -/
def State.releaseDone (s : State) (m : Nat) : State :=
  let s := (s.modAtq (fun x => { x with pend := s.atq.pend.map (fun p => match p.waits with
    | .release ls => { p with waits := .release (setBit ls m false) }
    | _ => p) }))
  s.atq.pend.foldl (fun s p => match p.waits with
    | .release ls => if ls == 0 then s.answer p.tag stOk 0 else s
    | _ => s) s

/-- LOOP_OUTPUT_LATCH (R286, R295): the sample in progress takes effect. -/
def State.loopLatch (s : State) (m : Nat) : State :=
  match (s.ceOf m).comp with
  | none => s
  | some c =>
    let s := s.modCe m (fun l => { l with
      comp := none, vals := c.vals, latched := some s.now, outBefore := l.vals.out })
    let s := ((s.putB (LOOP_STAT_OLIM m) c.olim).putB (LOOP_STAT_RLIM m) c.rlim).putB
      (LOOP_STAT_ILIM m) c.ilim
    let s := (s.put (LOOP_OUTV_OUT m) (asCode 32 c.vals.out)).put (LOOP_INTG_I m)
      (asCode 32 (writeBack (c.vals.integ, 0)).1)
    let s := s.when (c.sats != 0) (fun s =>
      ((s.putB (LOOP_STAT_SAT m) true).bump (LOOP_CNT_SATCNT m) c.sats).raiseLimited (481 + 2 * m))
    let s := s.when (s.bit (LOOP_CFG_BIND m)) (fun s =>
      s.aoLatch (s.get (LOOP_CFG_AO m)) (asCode 32 c.vals.out / 65536 ^^^ 0x8000))
    s.releaseDone m

/-! ### Register writes (R296, R297, R301, R305) -/

/-- A write to CE_FRAME (R297, R470). -/
def State.writeCeFrame (s : State) (v : W32) : WriteResult :=
  if s.modeOn mREGULATE then refuseWrite stStateConflict 0x23
  else if s.modeOn mMIRROR && s.get MIR_CFG_PER == 0 then refuseWrite stStateConflict 0x25
  else .ok (s.plainWrite CE_FRAME.addr v)

/-- The write binds an output that another enabled loop has bound (R296). -/
def State.bindClash (s : State) (m : Nat) (v : W32) : Bool :=
  (LOOP_CFG_EN m).read v == 1 && (LOOP_CFG_BIND m).read v == 1 &&
    (List.range 16).any (fun k => k != m && s.loopBinds k ((LOOP_CFG_AO m).read v))

/-- EN written to 0 sends a waiting loop OFF at once (R301). -/
def State.afterLoopCfg (s : State) (m : Nat) : State :=
  let s := if !s.bit (LOOP_CFG_EN m) && s.loopState m == loWAIT then s.setLoop m loOFF else s
  s.refreshPorts

/-- A write to a loop's own registers (R301). -/
def State.writeLoop (s : State) (m a : Nat) (v : W32) : WriteResult :=
  let o := (a - 0x111000) % 64
  let new := s.wouldBe a v
  let locked := s.modeOn mREGULATE && s.bit (LOOP_CFG_EN m)
  if o == 0 then
    if locked && setBit new 31 true != setBit (s.rd a) 31 true then
      refuseWrite stStateConflict 0x23
    else if s.bindClash m new then refuseWrite stStateConflict 0x60
    else .ok ((s.plainWrite a v).afterLoopCfg m)
  else if o < 0x14 then
    if locked && new != s.rd a then refuseWrite stStateConflict 0x23
    else .ok (s.plainWrite a v).refreshPorts
  else .ok (s.plainWrite a v)

/-- A write in the control engine block. -/
def State.writeControl (s : State) (a : Nat) (v : W32) : WriteResult :=
  if a == CE_FRAME.addr then s.writeCeFrame v
  else if 0x118000 ≤ a then refuseWrite stBadParam 0x64
  else if 0x111000 ≤ a && a < 0x111400 then s.writeLoop ((a - 0x111000) / 64) a v
  else .ok (s.plainWrite a v)

/-! ### Commands (R305 to R308) -/

/-- The slot writes that the words of a COEFF_WRITE spell. -/
def slotWrites (tag : BitVec 16) (t : Tick) (p : List W64) : List (Nat × SlotWrite) :=
  p.map (fun w => (bits w 63 60,
    { slot := BitVec.ofNat 7 (bits w 55 48), shift := BitVec.ofNat 5 (bits w 36 32)
      value := BitVec.ofNat 32 (bits w 31 0), tag := tag, landed := t }))

/-- COEFF_WRITE: a refusal, or what it waits for and the state in which its writes wait. -/
def State.coeffCmd (s : State) (c : Cmd) : (Nat × Nat) ⊕ (Waits × State) :=
  if !s.domOn dCTRL then .inl (stStateConflict, 0x63)
  else if c.p.length == 0 || 64 < c.p.length then .inl (stBadParam, 6)
  else if c.p.any (fun w => decide (75 < bits w 55 48)) then .inl (stBadParam, 0)
  else
    let l := slotWrites c.tag s.now c.p
    let loops : BitVec 16 := l.foldl (fun w e => setBit w e.1 true) 0
    let left := (setBits loops).map (fun m =>
      (BitVec.ofNat 4 m, (l.filter (fun e => e.1 == m)).length))
    .inr (.coeff loops left [] false, l.foldl (fun s e =>
      s.modCe e.1 (fun x => { x with writes := x.writes ++ [e.2] })) s)

/-- LOOP_FREEZE: a refusal, or what it waits for and the state in which the freeze is due. -/
def State.freezeCmd (s : State) (c : Cmd) : (Nat × Nat) ⊕ (Waits × State) :=
  let ls : BitVec 16 := BitVec.ofNat 16 (bits (param c 0) 15 0)
  if !s.domOn dCTRL then .inl (stStateConflict, 0x63)
  else if ls == 0 then .inl (stBadParam, 0)
  else if (setBits ls).any (fun m => s.loopState m != loRUN && s.loopState m != loFROZEN) then
    .inl (stStateConflict, 0x62)
  else .inr (.freeze ls s.now, (setBits ls).foldl (fun s m =>
    if s.loopState m == loRUN then s.modCe m (fun l => { l with freeze := true }) else s) s)

/-- LOOP_RELEASE: a refusal, or what it waits for and the state in which the release is due. -/
def State.releaseCmd (s : State) (c : Cmd) : (Nat × Nat) ⊕ (Waits × State) :=
  let ls : BitVec 16 := BitVec.ofNat 16 (bits (param c 0) 15 0)
  let mode := bits (param c 0) 17 16
  if !s.domOn dCTRL then .inl (stStateConflict, 0x63)
  else if ls == 0 || mode == 3 then .inl (stBadParam, 0)
  else if (setBits ls).any (fun m => s.loopState m != loFROZEN) then .inl (stStateConflict, 0x61)
  else .inr (.release ls, (setBits ls).foldl (fun s m =>
    s.modCe m (fun l => { l with release := some (BitVec.ofNat 2 mode) })) s)

/-! ### The steps -/

/-- LOOP_SAMPLE_START, R298. -/
def execLoopSampleStart (m : BitVec 4) (s : State) : Host.Outcome State Fault Refusal :=
  .next (s.loopSample m.toNat)

/-- LOOP_OUTPUT_LATCH, R295. -/
def execLoopOutputLatch (m : BitVec 4) (s : State) : Host.Outcome State Fault Refusal :=
  .next (s.loopLatch m.toNat)

end Sys2Proof.Machine
end

