-- ==== Sys2Proof/Machine/Light.lean ====
section
/-! DEFINITION. Guidance lighting (R332 to R352): dimming periods, probes and their verdicts, the
boost stage, derating, and the marker chains. -/
namespace Sys2Proof.Machine

/-! ### Running -/

def bsOFF : Nat := 0
def bsSOFTSTART : Nat := 1
def bsREGULATE : Nat := 2
def bsRETRY : Nat := 3
def bsLATCHED : Nat := 4

def State.boostState (s : State) : Nat := s.get BST_STAT_STATE
def State.setBoost (s : State) (st : Nat) : State := s.put BST_STAT_STATE st

/-- Lighting is wanted: LIGHT is on or lighting is kept (R31), not as a standby (R48), and no rail that
feeds LIGHT is out of its window (R336, R486). -/
def State.lightWanted (s : State) : Bool :=
  s.domOn dLIGHT && (s.modeOn mLIGHT || s.bit MODE_STATUS_LKEPT) && !s.standby &&
    !s.pwr.railOut.contains 3 && !s.pwr.railOut.contains 4

/-- The strings are driven; when LIGHT switches off they are until the next dimming period (R46). -/
def State.lightRuns (s : State) : Bool :=
  s.lightWanted || (s.domOn dLIGHT && s.draining mLIGHT && !s.standby)

/-- BGATE switches (R336). -/
def State.bgateSwitches (s : State) : Bool :=
  s.boostState == bsSOFTSTART || s.boostState == bsREGULATE

/-- BGATE's switching frequency in kHz (R336, R351); none while it is low. -/
def State.bgateRate (s : State) : Option Nat :=
  if !s.bgateSwitches then none
  else match s.get BST_CFG_FSW with
    | 0 => some 250
    | 1 => some 500
    | _ => some 1000

/-- Fields of a string's settings in force. -/
def State.strEn (s : State) (n : Nat) : Bool := (LS_CFG_EN 0).read (s.strOf n).cfg == 1
def State.strFact (s : State) (n : Nat) : Bool := (LS_CFG_FACT 0).read (s.strOf n).cfg == 1
def State.strDark (s : State) (n : Nat) : Bool := (LS_CFG_DARK 0).read (s.strOf n).cfg == 1
def State.strSpread (s : State) (n : Nat) : Nat := min 4 ((LS_CFG_SPREAD 0).read (s.strOf n).cfg)
def State.strDuty (s : State) (n : Nat) : Nat := (LS_CFG_DUTY 0).read (s.strOf n).cfg

/-- The current that string `n` sinks during its on-time, in mA (R332). -/
def State.strCurrent (s : State) (n : Nat) : Nat :=
  max 5 (min 200 ((LS_CFG_ISET 0).read (s.strOf n).cfg))

/-- The current of its probe pulse in mA: 2 for a dark probe and a held string (R343, R344). -/
def State.probeCurrent (s : State) (n : Nat) : Nat :=
  if s.strDuty n == 0 || s.bit (LS_STAT_OFFD n) then 2 else s.strCurrent n

/-- String `n` is lit in this period (R336). -/
def State.strLit (s : State) (n : Nat) : Bool :=
  s.boostState == bsREGULATE && s.lightRuns && s.strEn n && decide (0 < (s.strOf n).ton)

/-! ### On-times (R334, R340, R341) -/

/-- Ticks of a dimming period. -/
def dimPeriod : Nat := 50000

/-- Where the pieces of an on-time lie in a period, as [start, end), the last one's overhang put at
the period's start (R334). -/
def dimPieces (ton spread n : Nat) : List (Nat × Nat) :=
  let k := 2 ^ spread
  let slot := dimPeriod / k
  ((List.range k).map (fun i =>
    let len := ton / k + b2n (decide (i < ton % k))
    let lo := i * slot + n * (slot / 8)
    [(lo, min (lo + len) dimPeriod), (0, lo + len - dimPeriod)])).flatten.filter
      (fun e => decide (e.1 < e.2))

/-- Ticks that pieces share with the windows W1 and W2 of a probe period (R340). -/
def windowLoss (l : List (Nat × Nat)) : Nat :=
  l.foldl (fun n e => n + (min e.2 2000 - e.1) + (e.2 - max e.1 48000)) 0

/-- A difference in on-time that a probe leaves is spread over the next 63 periods; one share is
taken from this period (R341). -/
def takeShare (x : LString) : Int × LString :=
  if x.owedFor == 0 then (0, x)
  else
    let share := x.owed / x.owedFor
    (share, { x with owed := x.owed - share, owedFor := x.owedFor - 1 })

/-- The on-time of a period by R334, with the share of a probe's difference: at least 0 and at most
the period; what the limits cut is lost, the rounding is carried. -/
def formOnTime (deff : Nat) (x : LString) : LString :=
  let (share, x) := takeShare x
  let a := x.acc + deff * dimPeriod - share
  let t := a / 65536
  let ton := max 0 (min (dimPeriod : Int) t)
  { x with ton := ton.toNat, acc := if ton == t then a - t * 65536 else 0 }

/-- What the neighbours' windows took from the last period is added (R340). -/
def addCarry (x : LString) : LString :=
  { x with ton := min dimPeriod (x.ton + x.carry), carry := 0 }

/-- Settings written before the period start take effect (R335); they cancel a difference not yet
spread (R341). -/
def takeSettings (reg : W32) (t : Nat) (x : LString) : LString :=
  match x.wrote with
  | none => x
  | some (w, before, earlier) =>
    if w == t then
      { x with cfg := before, wrote := some (w, before, false)
               owed := if earlier then 0 else x.owed, owedFor := if earlier then 0 else x.owedFor }
    else { x with cfg := reg, wrote := none, owed := 0, owedFor := 0 }

/-- String `n` has a probe period at a cycle position (R340, R343). -/
def State.probes (s : State) (n pos : Nat) : Bool :=
  pos == 8 * n && s.strEn n && (s.strDuty n != 0 || s.strDark n) && s.boostState == bsREGULATE

/-- Makes a period a probe period: the pulse, and the difference to be spread (R341, R343). -/
def State.probePeriod (s : State) (n : Nat) : State :=
  let x := s.strOf n
  let held := s.bit (LS_STAT_OFFD n)
  let p := if s.strDuty n == 0 || held then 2000 else min (max x.ton 2000) 48000
  let diff : Int := if s.strDuty n == 0 || held then 0 else ((p : Int) - x.ton) * 65536
  (s.bump (LS_CNT_PROBES n)).modStr n (fun x => { x with
    probe := some p, open_ := false, openNow := false, ton := p, owed := diff, owedFor := 63 })

/-- The neighbours of a probing string lose their on-time in the windows (R340). -/
def State.loseWindows (s : State) (n : Nat) : State :=
  if n < 8 && s.strEn n && (s.strOf n).probe.isNone then
    s.modStr n (fun x => { x with
      carry := windowLoss (dimPieces x.ton (s.strSpread n) n) })
  else s

/-- A period start for string `n` (R332, R334, R335, R340). -/
def State.startPeriod (t pos : Nat) (s : State) (n : Nat) : State :=
  let s := s.modStr n (fun x => { takeSettings (s.rd (LS_CFG n).addr) t x with
    probe := none, open_ := false, openNow := false })
  let deff := s.strDuty n * s.light.factor / 256
  let s := s.put (LS_STAT_DEFF n) deff
  if !s.lightWanted || !s.strEn n then s.modStr n (fun x => { x with ton := 0, carry := 0 })
  else
    let s := if s.bit (LS_STAT_OFFD n) then s.modStr n (fun x => { x with ton := 0, carry := 0 })
      else s.modStr n (fun x => addCarry (formOnTime deff x))
    if s.probes n pos then s.probePeriod n else s

/-- String `n`, lit, reports its headroom in this period: at the end of its probe pulse or of an on-piece
of at least 400 ns; `cut` takes the windows of a neighbour's probe from the pieces (R337, R340). -/
def State.reports (s : State) (n : Nat) (cut : Bool) : Bool :=
  s.strLit n && ((s.strOf n).probe.isSome ||
    (dimPieces (s.strOf n).ton (s.strSpread n) n).any (fun e =>
      if cut then decide (max e.1 2000 + 500 ≤ min e.2 48000) else decide (e.1 + 500 ≤ e.2)))

/-- Notes which strings report in the period that has been laid out, while string `probing` probes. -/
def State.noteReports (s : State) (probing : Option Nat) : State :=
  (List.range 8).foldl (fun s n =>
    let cut := probing == some (n + 1) || (n != 0 && probing == some (n - 1))
    s.modStr n (fun x => { x with shone := x.shone || s.reports n cut })) s

/-- The next period start (R333); after a wrap the grid follows the new count. -/
def State.nextPeriod (s : State) : Tick :=
  let from_ := s.now.toNat + b2n (s.light.period == some s.tb.up)
  let t := (from_ + dimPeriod - 1) / dimPeriod * dimPeriod
  if t < 2 ^ 48 then BitVec.ofNat 48 t else 0

/-- The boost goes OFF. -/
def State.boostOff (s : State) : State := s.setBoost bsOFF

/-- DIMMING_PERIOD_START (R333): with LIGHT off the strings go to zero current and the boost stops
(R46). -/
def State.dimming (s : State) : State :=
  if !s.domOn dLIGHT || !s.tb.started then s
  else
    let s := s.advanceTo s.nextPeriod
    let pos := s.now.toNat / dimPeriod % 64
    let f := s.light.nextF.getD s.light.factor
    let s := (s.modLight (fun x => { x with
      period := some s.tb.up, factor := f, nextF := none })).put LT_TEMP_F (f % 256)
    let s := s.when (!s.lightWanted) State.boostOff
    let s := (List.range 8).foldl (State.startPeriod s.tb.up pos) s
    let probing := (List.range 8).find? (fun n => (s.strOf n).probe.isSome)
    let s := match probing with
      | some n => (if n == 0 then s else s.loseWindows (n - 1)).loseWindows (n + 1)
      | none => s
    s.noteReports probing

/-! ### Verdicts (R342 to R344) -/

/-- A failing verdict of string `n`: its count, its bit and, when first, its source. -/
def State.verdict (s : State) (n : Nat) (f : RF) (src : Nat) (counts : Bool := true) : State :=
  let first := !s.bit f
  ((s.when counts (fun s => s.bump (LS_CNT_FAILS n))).putB f true).when first (fun s => s.raise src)

/-- Holds string `n` off (R344). -/
def State.holdOff (s : State) (n : Nat) : State :=
  (s.putB (LS_STAT_OFFD n) true).modStr n (fun x => { x with ton := 0 })

/-- A short between strings `n` and `n + 1`, found by string `by_` (R342, R344). -/
def State.neighbourShort (s : State) (by_ n : Nat) : State :=
  let s := (if s.bit (LS_STAT_NBR n) then s else (s.putB (LS_STAT_NBR n) true).raise (560 + n)).bump
    (LS_CNT_FAILS by_)
  if s.strFact n || s.strFact (n + 1) then (s.holdOff n).holdOff (n + 1) else s

/-- PROBE_W1_END (R342): the highest sink current of W1's last 400 ns in microamperes, open below 90 %
of the probe current; the pin of a neighbour is within V_NBT. -/
def State.probeW1 (s : State) (n sink : Nat) (nearLower nearUpper : Bool) : State :=
  if (s.strOf n).probe.isNone then s
  else
    let s := if sink < 900 * s.probeCurrent n then
        let s := s.modStr n (fun x => { x with open_ := true, openNow := !s.bit (LS_STAT_OPEN n) })
        let s := s.verdict n (LS_STAT_OPEN n) (544 + n)
        if s.strFact n then s.holdOff n else s
      else s
    let s := if nearLower && n != 0 && s.strEn (n - 1) then s.neighbourShort n (n - 1) else s
    if nearUpper && n != 7 && s.strEn (n + 1) then s.neighbourShort n n else s

/-- PROBE_W2_END (R342): a short to ground replaces the open verdict of the same probe, which is then
one failing verdict with it. -/
def State.probeW2 (s : State) (n : Nat) (pinLow : Bool) : State :=
  if (s.strOf n).probe.isNone then s
  else
    let s := if pinLow then
        let s := if (s.strOf n).openNow then s.putB (LS_STAT_OPEN n) false else s
        let s := s.verdict n (LS_STAT_SGND n) (552 + n) (!(s.strOf n).open_)
        if s.strFact n then s.holdOff n else s
      else s
    s.modStr n (fun x => { x with probe := none, open_ := false, openNow := false })

/-- String `n` has no fault bit left, its lower neighbour's NBR among them. -/
def State.faultFree (s : State) (n : Nat) : Bool :=
  !s.bit (LS_STAT_OPEN n) && !s.bit (LS_STAT_SGND n) && !s.bit (LS_STAT_NBR n) &&
    (n == 0 || !s.bit (LS_STAT_NBR (n - 1)))

/-- A write to LS_STAT (R344): a held string without faults is released. -/
def State.writeLsStat (s : State) (n : Nat) (v : W32) : State :=
  let s := s.plainWrite (LS_STAT n).addr v
  [n, n + 1].foldl (fun s k =>
    if k < 8 && s.faultFree k then s.putB (LS_STAT_OFFD k) false else s) s

/-! ### Boost (R336 to R338) -/

/-- Starts the boost: the target ramps from the measured output, which no step has shown to the model
and is an open value (R336, log entry 26). -/
def State.softStart (s : State) : State :=
  let (v, s) := s.fresh
  let v := v % 256
  (((s.setBoost bsSOFTSTART).put BST_STAT_VOUT v).put BST_STAT_VTGT v).modLight (fun x => { x with
    ramp := (s.tb.up, v) })

/-- Ticks in which the target moves by one step of 0.25 V at 5 V/ms (R336). -/
def rampStep : Nat := 62500

/-- How far the output the ramp starts from lies from VMIN, in steps. -/
def State.rampLength (s : State) : Nat :=
  ((s.light.ramp.2 : Int) - s.get BST_CFG_VMIN).natAbs

/-- The target of a soft start (R336). -/
def State.rampTarget (s : State) : Nat :=
  let n := min s.rampLength ((s.tb.up - s.light.ramp.1) / rampStep)
  if s.light.ramp.2 ≤ s.get BST_CFG_VMIN then s.light.ramp.2 + n else s.light.ramp.2 - n

/-- VTGT follows the ramp of a soft start. -/
def State.settleRamp (s : State) : State :=
  s.when (s.boostState == bsSOFTSTART) (fun s => s.put BST_STAT_VTGT s.rampTarget)

/-- LIGHT is on, or lighting is kept: the boost leaves OFF. -/
def State.lightOn (s : State) : State :=
  if s.boostState == bsOFF && s.lightWanted then s.softStart else s

/-- BOOST_REGULATE (R336): the ramp has reached VMIN, and the output is within 0.5 V of it. -/
def State.boostRegulate (s : State) (vout : Nat) : State :=
  let s := s.put BST_STAT_VOUT vout
  let t := s.get BST_CFG_VMIN
  if s.boostState == bsSOFTSTART && decide (t ≤ vout + 2) && decide (vout ≤ t + 2) then
    (((s.advanceUp (s.light.ramp.1 + s.rampLength * rampStep : Nat)).put BST_STAT_VTGT t).setBoost
      bsREGULATE).raise 574
  else s

/-- BOOST_OVERVOLTAGE (R338). -/
def State.overvoltage (s : State) : State :=
  if !s.bgateSwitches then s
  else
    let l := s.tb.up :: s.light.overs.filter (fun t => decide (s.tb.up < t + 1250000000))
    let s := s.settleRamp
    let s := ((s.modLight (fun x => { x with overs := l })).putB BST_STAT_OV true).raise 568
    if 3 ≤ l.length then
      ((s.modLight (fun x => { x with overs := [] })).setBoost bsLATCHED).raise 569
    else s.setBoost bsRETRY

/-- BOOST_RETRY_END (R336): 10 ms after the overvoltage. -/
def State.retryEnd (s : State) : State :=
  if s.boostState == bsRETRY then
    (s.advanceUp ((s.light.overs.headD s.tb.up) + 12500000 : Nat)).softStart
  else s

/-- A write to BST_STAT (R336): RESTART leaves LATCHED. -/
def State.writeBstStat (s : State) (v : W32) : State :=
  let s := s.plainWrite BST_STAT.addr v
  if BST_STAT_RESTART.read v == 1 && s.boostState == bsLATCHED then s.softStart else s

/-- String `n`'s report counts: it has been lit long enough, is not in fault, and not lit by dark probes
only (R337). -/
def State.reportsHeadroom (s : State) (n : Nat) : Bool :=
  (s.strOf n).shone && s.strEn n && s.strDuty n != 0 && s.faultFree n && !s.bit (LS_STAT_OFFD n)

/-- BOOST_TARGET_ADAPT (R337). -/
def State.boostAdapt (s : State) (reports : List (BitVec 3 × BitVec 8)) (vout : Nat) : State :=
  if s.boostState != bsREGULATE then s
  else
    let s := s.put BST_STAT_VOUT vout
    let l := reports.filter (fun e => s.reportsHeadroom e.1.toNat)
    let s := (List.range 8).foldl (fun s n => s.modStr n (fun x => { x with shone := false })) s
    let s := l.foldl (fun s e => s.put (LS_STAT_HEADV e.1.toNat) e.2.toNat) s
    match l with
    | [] => s
    | e :: rest =>
      let h := rest.foldl (fun m e => min m e.2.toNat) e.2.toNat
      let head := max 1 (s.get BST_CFG_HEAD)
      let t := s.get BST_STAT_VTGT
      let t := if h + 4 < head then t + 1 else if head + 4 < h then t - 1 else t
      s.put BST_STAT_VTGT (max (s.get BST_CFG_VMIN) (min (min 0xE8 (s.get BST_CFG_VMAX)) t))

/-! ### Derating (R339) -/

/-- The derating factor of a code. -/
def State.derating (s : State) (code : Nat) : Nat :=
  let hi := s.get LT_DER_HI
  let lo := s.get LT_DER_LO
  let mn := s.get LT_DER_MIN
  if hi == 0 then 256
  else if 1020 ≤ code || code ≤ 3 then mn
  else if hi ≤ code then 256
  else if code ≤ lo || hi ≤ lo then mn
  else (mn * (hi - lo) + (256 - mn) * (code - lo)) / (hi - lo)

/-- LTMP_READ (R339). -/
def State.ltmpRead (s : State) (code : Nat) : State :=
  let s := s.put LT_TEMP_CODE code
  let bad := s.get LT_DER_HI != 0 && (decide (1020 ≤ code) || decide (code ≤ 3))
  let was := s.bit LT_TEMP_SFAULT
  let s := (s.putB LT_TEMP_SFAULT bad).when (bad && !was) (fun s => s.raise 571)
  let old := s.light.nextF.getD s.light.factor
  let f := s.derating code
  ((s.modLight (fun x => { x with nextF := some f }))).when ((old == 256) != (f == 256))
    (fun s => s.raise 570)

/-! ### Marker chains (R345 to R348) -/

/-- MK_STAT follows the frames of a chain. -/
def State.syncMarker (s : State) (c : Nat) : State :=
  (s.putB (MK_STAT_BUSY c) (s.mkOf c).frame.isSome).putB (MK_STAT_PEND c) (s.mkOf c).next.isSome

/-- T_B in quarters of a tick (R345). -/
def State.bitTime (s : State) (c : Nat) : Nat := if s.bit (MK_CFG_RATE c) then 6250 else 12500

/-- The bits of a frame in the order in which they are sent (R346). -/
def MFrame.bits (f : MFrame) : List Bool :=
  (f.words.flatMap (fun w => (List.range 64).map (fun i => w.getLsbD (63 - i)))).take f.nbits

/-- The levels that a frame puts on MKc, each with its length in quarters of T_B: a bit is high for its
first quarter or its first three, and a low of 32 T_B ends the frame (R345). -/
def MFrame.wave (f : MFrame) : List (Bool × Nat) :=
  f.bits.flatMap (fun b => if b then [(true, 3), (false, 1)] else [(true, 1), (false, 3)]) ++
    [(false, 128)]

/-- The earliest end of the frame in progress: its bits and its latch interval, 2 % fast (R345, R350). -/
def State.frameEnd (s : State) (c : Nat) (f : MFrame) : Nat :=
  (s.mkOf c).began + (f.nbits + 32) * s.bitTime c * 98 / 400

/-- The chain starts to send a frame. -/
def State.sendFrame (s : State) (c : Nat) (f : MFrame) : State :=
  (s.modMk c (fun x => { x with
    frame := some f, began := s.tb.up, last := some { f with tag := none } })).syncMarker c

/-- MARKER_LATCH_END (R347): the frame in progress has latched; a pending one follows. -/
def State.latchEnd (s : State) (c : Nat) : State :=
  match (s.mkOf c).frame with
  | none => s
  | some f =>
    let s := s.advanceUp (s.frameEnd c f : Nat)
    let s := (s.bump (MK_STAT_FRAMES c)).modMk c (fun x => { x with ended := s.tb.up })
    let s := match f.tag with
      | some tag =>
        (s.answer tag stOk 0 [packWord [(s.now.toNat, 16, 48)]]).raise (572 + c)
      | none => s
    match (s.mkOf c).next with
    | some g => (s.modMk c (fun x => { x with next := none })).sendFrame c g
    | none => (s.modMk c (fun x => { x with frame := none })).syncMarker c

/-- The frame that chain `c` resends: its last one, unless one is in progress (R348). -/
def State.resent (s : State) (c : Nat) : Option MFrame :=
  if (s.mkOf c).frame.isSome || s.get (MK_CFG_REFRESH c) == 0 || !s.bit (MK_CFG_EN c) ||
      !s.modeOn mLIGHT || !s.domOn dLIGHT || s.standby then none
  else (s.mkOf c).last

/-- The chain resends its last frame at once, as a takeover asks (R349). -/
def State.markerResend (s : State) (c : Nat) : State :=
  match s.resent c with
  | some f => s.sendFrame c f
  | none => s

/-- MARKER_REFRESH (R348): REFRESH x 10 ms after the previous frame ended. -/
def State.markerRefresh (s : State) (c : Nat) : State :=
  match s.resent c with
  | some f =>
    (s.advanceUp ((s.mkOf c).ended + s.get (MK_CFG_REFRESH c) * 12500000 : Nat)).sendFrame c f
  | none => s

/-- Ends a chain's commanded frame with a reply. -/
def State.endFrame (s : State) (f : Option MFrame) (status detail : Nat) : State :=
  match f.bind (fun f => f.tag) with
  | some tag => s.answer tag status detail
  | none => s

/-- LIGHT goes off (R348): the frame in progress completes, a pending one is discarded. -/
def State.markersLightOff (s : State) : State :=
  [0, 1].foldl (fun s c =>
    ((s.endFrame (s.mkOf c).next stStateConflict 0x14).modMk c (fun x => { x with
      next := none })).syncMarker c) s

/-- FAULT or yield (R348): the chains stop at once. -/
def State.markersStop (s : State) : State :=
  [0, 1].foldl (fun s c =>
    let s := (s.endFrame (s.mkOf c).frame stDataError 1).endFrame (s.mkOf c).next stDataError 1
    (s.modMk c (fun x => { x with frame := none, next := none })).syncMarker c) s

/-- The frame that a MARKER_FRAME spells: P0 and data words. -/
def markerFrame (c : Cmd) : MFrame :=
  { nbits := bits (param c 0) 11 0, words := c.p.tail, tag := some c.tag }

/-- MARKER_FRAME (R347): done at once by a standby, refused, or sent or pending. -/
def State.markerCmd (s : State) (c : Cmd) : ((Nat × Nat) ⊕ State) ⊕ (Bool × State) :=
  let k := bits (param c 0) 63 63
  let f := markerFrame c
  if s.standby then .inl (.inr (s.modMk k (fun x => { x with last := some { f with tag := none } })))
  else if !s.modeOn mLIGHT then .inl (.inl (stStateConflict, 0x14))
  else if !s.bit (MK_CFG_EN k) then .inl (.inl (stStateConflict, 0x90))
  else if c.p.length == 0 then .inl (.inl (stBadParam, 6))
  else if f.nbits == 0 || 2048 < f.nbits then .inl (.inl (stBadParam, 0))
  else if c.p.length != 1 + (f.nbits + 63) / 64 then .inl (.inl (stBadParam, 6))
  else match (s.mkOf k).frame, (s.mkOf k).next with
    | none, _ => .inr (k == 1, s.sendFrame k f)
    | some _, none => .inr (k == 1, (s.modMk k (fun x => { x with next := some f })).syncMarker k)
    | some _, some _ => .inl (.inl (stBusy, 0))

/-! ### The mode -/

/-- LIGHT switches off (R46, R336, R348): lit strings stay lit until the next dimming period, which
stops the boost; one that does not regulate stops at once. -/
def State.lightOff (s : State) : State :=
  (s.when (s.boostState != bsREGULATE) State.boostOff).markersLightOff

/-- LIGHT has drained (R46): the boost is OFF and no marker frame is in progress. -/
def State.lightDrained (s : State) : Bool :=
  s.boostState == bsOFF && [0, 1].all (fun c => (s.mkOf c).frame.isNone)

/-- FAULT without kept lighting, the standby role, a LIGHT rail out: the boost is OFF and the
sinks are dark (R336). -/
def State.lightStop (s : State) : State :=
  (List.range 8).foldl (fun s n => s.modStr n (fun x => { x with ton := 0, probe := none }))
    s.boostOff

/-! ### Register writes -/

/-- A write to LS_CFG (R335). -/
def State.writeLsCfg (s : State) (n : Nat) (v : W32) : State :=
  let before := s.rd (LS_CFG n).addr
  (s.plainWrite (LS_CFG n).addr v).modStr n (fun x => { x with
    wrote := match x.wrote with
      | some (t, b, e) => if t == s.tb.up then some (t, b, e) else some (s.tb.up, before, true)
      | none => some (s.tb.up, before, false) })

/-- A write in the guidance light block. -/
def State.writeLight (s : State) (a : Nat) (v : W32) : State :=
  let n := (a - 0x131000) / 16 % 8
  if a == BST_STAT.addr then s.writeBstStat v
  else if 0x131000 ≤ a && a % 16 == 0 then s.writeLsCfg n v
  else if 0x131000 ≤ a && a % 16 == 4 then s.writeLsStat n v
  else s.plainWrite a v

/-! ### The steps -/

/-- DIMMING_PERIOD_START, R333. -/
def execDimmingPeriodStart (s : State) : Host.Outcome State Fault Refusal := .next s.dimming

/-- PROBE_W1_END, R342. -/
def execProbeW1End (n : BitVec 3) (sink : BitVec 18) (nearLower nearUpper : Bool) (s : State) :
    Host.Outcome State Fault Refusal := .next (s.probeW1 n.toNat sink.toNat nearLower nearUpper)

/-- PROBE_W2_END, R342. -/
def execProbeW2End (n : BitVec 3) (pinLow : Bool) (s : State) :
    Host.Outcome State Fault Refusal := .next (s.probeW2 n.toNat pinLow)

/-- BOOST_REGULATE, R336. -/
def execBoostRegulate (vout : BitVec 8) (s : State) : Host.Outcome State Fault Refusal :=
  .next (s.boostRegulate vout.toNat)

/-- BOOST_OVERVOLTAGE, R338. -/
def execBoostOvervoltage (s : State) : Host.Outcome State Fault Refusal := .next s.overvoltage

/-- BOOST_RETRY_END, R336. -/
def execBoostRetryEnd (s : State) : Host.Outcome State Fault Refusal := .next s.retryEnd

/-- BOOST_TARGET_ADAPT, R337. -/
def execBoostTargetAdapt (reports : List (BitVec 3 × BitVec 8)) (vout : BitVec 8) (s : State) :
    Host.Outcome State Fault Refusal := .next (s.boostAdapt reports vout.toNat)

/-- LTMP_READ, R339. -/
def execLtmpRead (code : BitVec 10) (s : State) : Host.Outcome State Fault Refusal :=
  .next (s.ltmpRead code.toNat)

/-- MARKER_LATCH_END, R347. -/
def execMarkerLatchEnd (c : Bool) (s : State) : Host.Outcome State Fault Refusal :=
  .next (s.latchEnd (b2n c))

/-- MARKER_REFRESH, R348. -/
def execMarkerRefresh (c : Bool) (s : State) : Host.Outcome State Fault Refusal :=
  .next (s.markerRefresh (b2n c))

end Sys2Proof.Machine
end

