-- ==== Sys2Proof/Machine/Sewing.lean ====
section
/-! DEFINITION. The Sieve on waveforms (R359 to R361) and Sewing (R363, R364). -/
namespace Sys2Proof.Machine

/-! ### The Sieve: baseline and runs (R359, R360) -/

/-- The Sieve reads channel `c` (R359). -/
def State.sieveOn (s : State) (c : Nat) : Bool :=
  s.modeOn mLISTEN && s.domOn dCAPMEM && s.bit (SV_CFG_EN c) && s.bit (FA_CFG_EN c) &&
    !s.oddOfPair c && !s.faExclusive c && !s.standby

/-- The first label of a channel at or after a tick. -/
def State.labelFrom (s : State) (c : Nat) (t : Tick) : Tick :=
  let per := if s.paired c then 2 else 4
  BitVec.ofNat 48 ((t.toNat + per - 1) / per * per)

def State.svThr (s : State) (c : Nat) : Nat := max 1 (s.get (SV_THR_THR c))

/-- Samples of a run at which it closes. -/
def State.svMax (s : State) (c : Nat) : Nat := max 1 (s.get (SV_CFG_MAXRUN c)) * 1024

/-- D0 of a run (R360); a part without an excursion sample of its own leaves EXC open. -/
def runD0 (exc : Tick) (nexc : Nat) : W64 := packWord [(exc.toNat, 16, 48), (saturate 16 nexc, 0, 16)]

/-- The records of a run part as stamp and payload (R155, R360). -/
def runParts (per : Nat) (start exc : Tick) (nexc : Nat) (cut : Bool) (words : List (BitVec 16)) :
    List (Tick × List W64) :=
  let label (i : Nat) : Tick := start + BitVec.ofNat 48 (i * per)
  let pre := (List.range words.length).countP (fun i => tickLt (label i) exc)
  let parts := chunks 4084 words.length words
  (List.range parts.length).zip parts |>.map (fun e =>
    (label (e.1 * 4084), runD0 exc nexc ::
      packWord [(words.length, 47, 17), (pre, 30, 17), (e.1 * 4084, 13, 17), (b2n cut, 12, 1)] ::
      packValues 16 (e.2.map (fun w => w.toNat))))

/-- Publishes the records of a run part, the last with `ovf`; tells how many were taken. -/
def State.publishRun (c : Nat) (ovf : Bool) :
    List (Tick × List W64) → Nat → State → Nat × State
  | [], n, s => (n, s)
  | (t, p) :: rest, n, s =>
    let gen := (s.svOf c).gen
    let (r, s1) := s.makeRec 2 (0x20 + c) { tick := t } p false (!rest.isEmpty)
      (ovf && rest.isEmpty) gen
    let (ok, l, s2) := s1.storeItem (s.get SV_GCFG_QUEUE) { words := recWords r, gen := gen }
    if ok then State.publishRun c ovf rest (n + 1) (s2.raiseAll l) else (n, s)

/-- EXC of the open run. -/
def State.runExc (s : State) (c : Nat) : Tick × State :=
  match (s.svOf c).exc with
  | some t => (t, s)
  | none => (BitVec.ofNat 48 s.fresh.1, s.fresh.2)

/-- The open run ends and its samples are let go. -/
def State.dropRun (s : State) (c : Nat) : State :=
  s.modSv c (fun v => { v with
    run := false, exc := none, nexc := 0, quiet := 0, words := [], back := [], cut := false })

/-- Samples sent in runs are counted (R367). -/
def State.countSent (s : State) (c n : Nat) : State :=
  s.count (SV_CNT_SAMPLES c) n

/-- The run stops on overflow (R157, R361): the records taken stand, the last with OVF, and an
overflow mark closes it. -/
def State.stopRun (s : State) (c : Nat) (cause : Nat) : State :=
  let v := s.svOf c
  let (exc, s) := s.runExc c
  let parts := runParts (if s.paired c then 2 else 4) v.start exc v.nexc v.cut v.words
  let (n, _) := State.publishRun c false parts 0 s
  let n := if cause == 1 then n else parts.length
  let (n, s) := State.publishRun c true (parts.take n) 0 s
  let sent := min v.words.length (n * 4084)
  let (miss, s) := if cause == 1 then (v.words.length - sent, s) else s.fresh
  let (t, s) := s.lagged s.now
  let (r, s) := s.makeRec 7 (0x20 + c) { tick := t } [runD0 exc v.nexc,
    packWord [(sent, 47, 17), (miss, 30, 17), (cause, 22, 8)]]
  let s := (s.publish (s.get SV_GCFG_QUEUE) r).2
  let s := (s.countSent c sent).bump (SV_STAT_RUNS c)
  ((s.dropRun c).putB (SV_STAT_OVR c) true).raise 578

/-- Publishes the part of the open run that `words` holds; a full queue stops the run. Tells
whether it was published. -/
def State.publishPart (s : State) (c : Nat) (cut : Bool) : Bool × State :=
  let v := s.svOf c
  if v.words.isEmpty then (true, s)
  else
    let (exc, s) := s.runExc c
    let parts := runParts (if s.paired c then 2 else 4) v.start exc v.nexc (v.cut || cut) v.words
    let (n, s') := State.publishRun c false parts 0 s
    if n == parts.length then (true, s'.countSent c v.words.length)
    else (false, s.stopRun c 1)

/-- Samples of the open part beyond KPOST after the last excursion. -/
def State.tail (s : State) (c : Nat) : Nat :=
  min (s.svOf c).words.length ((s.svOf c).quiet - s.get (SV_CFG_KPOST c))

/-- SIEVE_RUN_CLOSE (R360): the run is published without its tail, whose last KPRE samples are kept
back for the next run. -/
def State.closeRun (s : State) (c : Nat) : State :=
  let n := s.tail c
  let v := s.svOf c
  let keep := v.words.length - n
  let back := ((v.words.drop keep).reverse).take (s.get (SV_CFG_KPRE c))
  let s := s.modSv c (fun v => { v with words := v.words.take keep })
  let (ok, s) := s.publishPart c false
  if ok then ((s.dropRun c).bump (SV_STAT_RUNS c)).modSv c (fun v => { v with back := back }) else s

/-- The run has reached MAXRUN (R360): its first samples close, the rest goes on as a new run. -/
def State.splitRun (s : State) (c : Nat) (l : Tick) (exc : Bool) : State :=
  let v := s.svOf c
  let m := s.svMax c
  let per := if s.paired c then 2 else 4
  let rest := v.words.drop m
  let s := s.modSv c (fun v => { v with
    words := v.words.take m, nexc := if exc && !rest.isEmpty then v.nexc - 1 else v.nexc })
  let (ok, s) := s.publishPart c false
  if !ok then s
  else
    let s := s.bump (SV_STAT_RUNS c)
    if rest.isEmpty then
      let goesOn := decide (v.quiet < s.get (SV_CFG_KPOST c))
      (s.dropRun c).modSv c (fun x => { x with
        run := goesOn, quiet := v.quiet, start := l + BitVec.ofNat 48 per })
    else
      s.modSv c (fun x => { x with
        words := rest, start := v.start + BitVec.ofNat 48 (m * per), cut := false
        exc := if exc then some l else none, nexc := b2n exc })

/-- The part in hand touches the samples that are left to a capture. -/
def State.touchesWindow (s : State) (c : Nat) : Bool :=
  match (s.svOf c).sinceWin with
  | some n => decide (n ≤ s.get (SV_CFG_KPRE c))
  | none => false

/-- A sample outside every capture window, as an excursion or not (R360). -/
def State.sieveTake (s : State) (c : Nat) (l : Tick) (w : BitVec 16) (exc : Bool) : State :=
  let v := s.svOf c
  let per := if s.paired c then 2 else 4
  if !v.run then
    if exc then
      let back := v.back.take (s.get (SV_CFG_KPRE c))
      let cut := s.touchesWindow c
      let s := s.modSv c (fun v => { v with
        run := true, start := l - BitVec.ofNat 48 (back.length * per), exc := some l, nexc := 1
        quiet := 0, words := back.reverse ++ [w], back := [], cut := cut
        sinceWin := none })
      if s.svMax c ≤ (s.svOf c).words.length then s.splitRun c l exc else s
    else
      s.modSv c (fun v => { v with
        back := (w :: v.back).take 1023
        sinceWin := v.sinceWin.bind (fun n => if n < 1024 then some (n + 1) else none) })
  else
    let s := s.modSv c (fun v => { v with
      start := if v.words.isEmpty then l else v.start
      cut := v.cut || (v.words.isEmpty && v.sinceWin.isSome), sinceWin := none
      words := v.words ++ [w], quiet := if exc then 0 else v.quiet + 1
      exc := if exc && v.exc.isNone then some l else v.exc, nexc := v.nexc + b2n exc })
    let v := s.svOf c
    if s.svMax c ≤ v.words.length && decide (v.quiet ≤ s.get (SV_CFG_KPOST c)) then
      s.splitRun c l exc
    else if s.get (SV_CFG_KPOST c) + s.get (SV_CFG_KPRE c) < v.quiet then s.closeRun c
    else s

/-- A sample that a capture carries splits the run (R361). -/
def State.sieveLeave (s : State) (c : Nat) (l : Tick) (exc : Bool) : State :=
  let s := if !(s.svOf c).run then s
    else if s.tail c != 0 then s.closeRun c
    else
      let (ok, s) := s.publishPart c true
      if ok then s.modSv c (fun v => { v with words := [] }) else s
  let s := s.modSv c (fun v => { v with back := [], sinceWin := some 0 })
  if exc then
    s.modSv c (fun v => { v with
      run := true, quiet := 0, exc := some (v.exc.getD l), nexc := v.nexc + 1 })
  else
    let s := s.modSv c (fun v => { v with quiet := v.quiet + 1 })
    if (s.svOf c).run && decide (s.get (SV_CFG_KPOST c) < (s.svOf c).quiet) then
      (s.dropRun c).bump (SV_STAT_RUNS c)
    else s

/-- The sample of moment `m` lies in the window of a committed gathering that cuts the channel
(R361). -/
def State.inCapture (s : State) (c : Nat) (m : Int) : Bool :=
  s.trg.windows.any (fun w => w.1.contains (BitVec.ofNat 5 c) && decide (w.2.1 ≤ m) &&
    decide (m < w.2.2))

/-- A sample against the baseline, and the baseline after it (R359): an excursion or not. -/
def State.judge (s : State) (c : Nat) (w : BitVec 16) : Bool × State :=
  let x := sampleOf w
  let quietFlags := w.getLsbD 0 || w.getLsbD 1
  match (s.svOf c).base with
  | none =>
    (false, if quietFlags then s else s.modSv c (fun v => { v with base := some (x * 65536) }))
  | some b =>
    let (r, s) := s.roundNear b 65536
    let exc := decide (s.svThr c ≤ (x - r).natAbs)
    if exc || quietFlags then (exc, s)
    else
      let (d, s) := s.roundOpen (x * 65536 - b) (2 ^ s.get (SV_CFG_BSH c))
      (exc, s.modSv c (fun v => { v with base := some (b + d) }))

/-- SV_STAT follows the channel. -/
def State.syncSieve (s : State) (c : Nat) : State :=
  let (b, s) := s.roundNear ((s.svOf c).base.getD 0) 65536
  (s.put (SV_STAT_BASE c) (asCode 14 b)).putB (SV_STAT_ACTIVE c) (s.svOf c).run

/-- LAG of R361, in ticks. -/
def State.svLag (s : State) : Nat := 4 * s.get TRG_WIN_PRE + s.get TRG_SET_SETTLE + 16

/-- The Sieve goes on with the first label at or after tick `t` of the present count. -/
def State.sieveFrom (s : State) (c : Nat) (t : Tick) : State :=
  s.modSv c (fun v => { v with next := some (s.labelFrom c t), gen := s.tb.gen, back := [] })

/-- The Sieve starts on a channel: LISTEN or EN has been switched on. -/
def State.sieveStart (s : State) (c : Nat) : State :=
  (s.modSv c (fun _ => {})).sieveFrom c s.now

/-- The next label of the channel lies behind a step: an open run closes, since a part's labels are
consecutive, and the Sieve goes on with the new count (R360; log entry 15). -/
def State.sieveOverStep (s : State) (c : Nat) : State :=
  let v := s.svOf c
  match v.next, s.tb.lastStep with
  | some l, some (n, u) =>
    if v.gen < s.tb.gen && (decide ((u : Int) ≤ s.elapsedAt l v.gen) || v.gen + 1 < s.tb.gen) then
      let s := if v.run then s.closeRun c else s
      (s.dropRun c).sieveFrom c (n.tick + BitVec.ofInt 48 n.k)
    else s
  | _, _ => s

/-- SIEVE_DECIDE (R361): the sample labelled L is judged once the counter has reached L + LAG. -/
def State.sieveDecide (s : State) (c : Nat) : State :=
  if !s.sieveOn c then s
  else
    let per := if s.paired c then 2 else 4
    let s := s.when (s.svOf c).next.isNone (fun s => s.sieveFrom c s.now)
    let s := s.sieveOverStep c
    let gen := (s.svOf c).gen
    let l := (s.svOf c).next.getD 0
    let m := s.elapsedAt l gen
    let s := (s.advanceUp (m + s.svLag)).settleRings
    if s.slotLost c l gen then
      let s := if (s.svOf c).run then s.stopRun c 2 else s
      s.sieveFrom c s.now
    else
      let w := s.ringWord c l gen
      let (exc, s) := s.judge c w
      let s := if s.inCapture c m then s.sieveLeave c l exc else s.sieveTake c l w exc
      (s.modSv c (fun v => { v with next := some (l + BitVec.ofNat 48 per) })).syncSieve c

/-- SIEVE_OVERFLOW (R361). -/
def State.sieveOverflow (s : State) (c : Nat) (cause : OvfCause) : State :=
  if !(s.svOf c).run then s
  else (s.stopRun c (match cause with
    | .fullQueue => 1
    | .ringOverrun => 2)).syncSieve c

/-- LISTEN or EN goes off: open runs close (R360). -/
def State.sieveStop (s : State) (c : Nat) : State :=
  let s := if (s.svOf c).run then s.closeRun c else s
  (s.modSv c (fun _ => {})).putB (SV_STAT_ACTIVE c) false

/-- LISTEN switches on or off for every channel. -/
def State.sieveListen (s : State) (on : Bool) : State :=
  (List.range 32).foldl (fun s c => if on then s.sieveStart c else s.sieveStop c) s

/-- A write to SV_CFG: EN starts and stops the channel. -/
def State.writeSvCfg (s : State) (c : Nat) (v : W32) : State :=
  let was := s.bit (SV_CFG_EN c)
  let new := (SV_CFG_EN c).read v == 1
  let s := if was && !new then s.sieveStop c else s
  let s := s.plainWrite (SV_CFG c).addr v
  if new && !was then s.sieveStart c else s

/-! ### Sewing (R363, R364) -/

/-- The order of keys (R363), with the TICK relative to the counter. -/
def keyLt (c : Tick) (a b : Rec) : Bool :=
  let k (r : Rec) : List Int := [tickDiff r.tick c, r.fine.toNat, r.unit.toNat, r.seq.toNat,
    r.type.toNat, r.source.toNat]
  decide (k a < k b)

/-- No record of `l` is one that the unit of `h` stamped before a step that `h` follows (R63). -/
def stepFirst (l : List HeldRec) (h : HeldRec) : Bool :=
  l.all (fun x => x.r.unit != h.r.unit || h.gen ≤ x.gen)

/-- The unit itself has something stamped before its step number `gen` that has not reached Sewing:
hits, runs, captures, or records in its queues (R63). -/
def State.ownBehind (s : State) (gen : Nat) : Bool :=
  s.tb.gen != 0 &&
    (s.tk.any (fun k => (k.run ++ k.buf ++ k.block).any (fun h => h.gen < gen) ||
        k.closed.any (fun it => it.gen < gen)) ||
      s.sieve.any (fun v => v.run && v.gen < gen) ||
      s.trg.gaths.any (fun g => !g.cuts.isEmpty && g.gen < gen) ||
      s.loam.queues.any (fun e => s.get (Q_CFG_CONS e.1) == 0 &&
        e.2.items.any (fun it => !it.host && it.gen < gen)) ||
      s.loam.waiting.any (fun e => e.2.gen < gen) || s.sew.inbox.any (fun h => h.gen < gen))

/-- The record may leave: its unit stamped nothing before a step that it follows and that is still
here or on its way here (R63). -/
def State.mayLeave (s : State) (h : HeldRec) : Bool :=
  stepFirst (s.sew.held ++ s.sew.urgent) h && !(h.port == 0 && s.ownBehind h.gen)

/-- The held record that is to be sent next. -/
def State.nextHeld (s : State) : Option HeldRec :=
  match s.sew.held.filter s.mayLeave with
  | [] => none
  | h :: rest => some (rest.foldl (fun b x => if keyLt s.now x.r b.r then x else b) h)

/-- The spine port takes a record from Sewing: it is up, and its credit covers the records it has not
framed yet and this one (R29, R402). -/
def State.spineTakes (s : State) (r : Rec) : Bool :=
  s.gxLive 0 && !s.spineHeld &&
    decide (s.sew.out.foldl (fun n x => n + recGrains x) (recGrains r) ≤ s.get (GX_CRED_CR0 0))

/-- Sends a record up the spine port; the port that brought it gets its credit back (R402). -/
def State.sendUp (s : State) (h : HeldRec) : State :=
  let s := (s.modSew (fun x => { x with out := s.sew.out ++ [h.r] }))
  if h.port == 0 then s else s.modGx h.port (fun g => { g with ret0 := g.ret0 + recGrains h.r })

/-- Takes a record out of the hold. -/
def State.unhold (s : State) (h : HeldRec) : State :=
  ((s.modSew (fun x => { x with held := s.sew.held.erase h }))).rearmWatermark 0xFF

/-- Records that are to be sent at once go, as far as the spine port takes them (R29, R63, R363). -/
def State.sendUrgent : Nat → State → State
  | 0, s => s
  | n + 1, s =>
    match s.sew.urgent.find? s.mayLeave with
    | none => s
    | some h =>
      if !s.spineTakes h.r then s
      else State.sendUrgent n ((s.modSew (fun x => { x with urgent := x.urgent.erase h })).sendUp h)

def State.sewWindow (s : State) : Nat := max 2 (s.get SEW_CFG_W)

/-- Forced sends until the hold is within GRAINS (R364); none while the spine port holds back
(R29). -/
def State.forceSends : Nat → State → State
  | 0, s => s
  | n + 1, s =>
    if heldGrains s.sew.held ≤ s.get SEW_LIM_GRAINS then s
    else match s.nextHeld with
      | none => s
      | some h =>
        if !s.spineTakes h.r then s
        else
          let s := (s.unhold h).sendUp h
          let s := (s.modSew (fun x => { x with frontier := some (s.wide h.r.tick) }))
          State.forceSends n ((s.bump SEW_CNT_FORCED).raise 577)

/-- What the spine port takes at once of what waits: records to be sent at once, then forced
sends. -/
def State.sewFlow (s : State) : State :=
  let s := State.sendUrgent s.sew.urgent.length s
  if s.sew.urgent.any s.mayLeave then s else State.forceSends s.sew.held.length s

/-- The record comes after its window has closed, or below the frontier (R363, R364). -/
def State.comesLate (s : State) (r : Rec) : Bool :=
  decide (tickDiff r.tick s.now + s.sewWindow < 0) ||
    (match s.sew.frontier with
      | some f => decide (s.wide r.tick < f)
      | none => false)

/-- A record is sent at once (R363). -/
def State.sendNow (s : State) (h : HeldRec) : State :=
  let s := s.modSew (fun x => { x with urgent := x.urgent ++ [h] })
  State.sendUrgent s.sew.urgent.length s

/-- A record reaches Sewing (R363). -/
def State.sewArrive (s : State) (h : HeldRec) : State :=
  if s.has SEW_CFG_BYPASS h.r.type.toNat || h.r.late then s.sendNow h
  else if s.comesLate h.r then
    ((s.sendNow { h with r := { h.r with late := true } }).bump SEW_CNT_LATE).raiseLimited 576
  else
    let s := (s.modSew (fun x => { x with held := s.sew.held ++ [h] }))
    let (l, s) := s.afterAppend 0xFF
    (s.raiseAll l).sewFlow

/-- Steps that a unit below has announced by its STEP markers, this record's among them (R63). -/
def State.stepsOf (s : State) (r : Rec) : Nat × State :=
  let seen := (s.sew.stepsSeen.find? (fun e => e.1 == r.unit)).elim 0 (fun e => e.2)
  if r.type == 0 && (r.payload.head?.elim 0 (fun w => bits w 47 40)) == 2 then
    (seen + 1, (s.modSew (fun x => { x with
      stepsSeen := (r.unit, seen + 1) :: s.sew.stepsSeen.filter (fun e => e.1 != r.unit) })))
  else (seen, s)

/-- A record from fore-edge port `k`, 0 to 2, reaches Sewing. -/
def State.sewChild (s : State) (k : Nat) (r : Rec) : State :=
  let (g, s) := s.stepsOf r
  s.sewArrive { gen := g, r := r, port := k + 1 }

/-- The unit's own next record reaches Sewing. -/
def State.sewOwn (s : State) : State :=
  match s.sew.inbox with
  | [] => s
  | h :: rest => ((s.modSew (fun x => { x with inbox := rest }))).sewArrive h

/-- SEWING_SEND (R363): what waits to be sent at once goes; then the window of the smallest key has
passed, and its record goes if the spine port takes it. -/
def State.sewSend (s : State) : State :=
  let s := s.sewFlow
  if s.sew.urgent.any s.mayLeave then s
  else match s.nextHeld with
    | none => s
    | some h =>
      if !s.spineTakes h.r then s
      else ((s.advanceUp (s.tb.up + tickDiff h.r.tick s.now + s.sewWindow)).unhold h).sendUp h

/-- HELD as a read of SEW_STAT shows it (R367). -/
def State.sewStat (s : State) : W32 := BitVec.ofNat 32 (saturate 16 s.sew.held.length * 65536)

/-! ### The steps -/

/-- SIEVE_DECIDE, R361. -/
def execSieveDecide (c : BitVec 5) (s : State) : Host.Outcome State Fault Refusal :=
  .next (s.sieveDecide c.toNat)

/-- SIEVE_OVERFLOW, R361. -/
def execSieveOverflow (c : BitVec 5) (cause : OvfCause) (s : State) :
    Host.Outcome State Fault Refusal := .next (s.sieveOverflow c.toNat cause)

/-- SEWING_SEND, R363. -/
def execSewingSend (s : State) : Host.Outcome State Fault Refusal := .next s.sewSend

end Sys2Proof.Machine
end

