-- ==== Sys2Proof/Machine/Loam.lean ====
section
/-! DEFINITION. The Loam pool's queues (R369 to R389, R515): producers, consumers, stalls, flushes,
the retest and the queue commands. Admission and storing are in Ops, which every producer uses. -/
namespace Sys2Proof.Machine

/-! ### How a command ends -/

/-- How a command's own part ends: with a reply, or pending (R429). -/
inductive CmdEnd where
  | answered (status detail : Nat) (body : List W64) (hi lo : Nat) (s : State)
  | pending (w : Waits) (s : State)

/-- A refusal without effect. -/
def CmdEnd.refuse (s : State) (status detail : Nat) : CmdEnd := .answered status detail [] 0 0 s

/-- OK with a reply body. -/
def CmdEnd.ok (s : State) (body : List W64 := []) : CmdEnd := .answered stOk 0 body 0 0 s

/-! ### Producers and consumers (R370 to R374) -/

/-- What a producer does when its item is refused (R374): records that are lost mark their
stream, those whose producer waits are kept. -/
def State.refusedItem (s : State) (q : Nat) (it : Item) : State :=
  match recOfWords it.words with
  | none => s
  | some r =>
    if r.type.toNat ∈ [3, 4, 5, 6] then s.markOvf (recKey r)
    else if r.type.toNat ∈ [0, 8, 9, 10] then
      (s.modLoam (fun x => { x with waiting := s.loam.waiting ++ [(BitVec.ofNat 8 q, it)] }))
    else s

/-- ITEM_APPEND (R373): a producer offers an item, which is admitted whole or refused. -/
def State.itemAppend (s : State) (q : Nat) (words : List W64) : State :=
  let it : Item := { words := words, gen := s.tb.gen }
  let (ok, s) := s.offer q it
  if ok then s else s.refusedItem q it

/-- Takes the oldest waiting item of a queue out of the list of waiting ones. -/
def dropWaiting (q : BitVec 8) : List (BitVec 8 × Item) → List (BitVec 8 × Item)
  | [] => []
  | e :: rest => if e.1 == q then rest else e :: dropWaiting q rest

/-- PRODUCER_UNBLOCK (R374): the oldest waiting item of a queue is stored once it is admitted; a
hit-block queue takes its channel's closed block. -/
def State.producerUnblock (s : State) (q : BitVec 8) : State :=
  let s := if 0x80 ≤ q.toNat && q.toNat ≤ 0xBF then s.retryBlock (q.toNat - 0x80) else s
  match s.loam.waiting.find? (fun e => e.1 == q) with
  | none => s
  | some e =>
    if !s.domOn dLOAM || (s.admission q.toNat (itemGrains e.2)).isSome then s
    else
      let s := (s.modLoam (fun x => { x with waiting := dropWaiting q s.loam.waiting }))
      (s.offer q.toNat e.2).2

/-- Sewing takes an item that it has read out (R379, R380): an error in the header discards the
record, one in the payload sets FAULT. -/
def State.takeItem (s : State) (it : Item) : State :=
  match recOfWords it.words with
  | none => s
  | some r =>
    if it.uncorrectable.any (fun k => decide (k < 2)) then s.raise 614
    else
      let r := if it.uncorrectable.isEmpty then r else { r with fault := true }
      (s.modSew (fun x => { x with inbox := s.sew.inbox ++ [{ gen := it.gen, r := r }] }))

/-- Sewing takes nothing more from its queues while the spine port holds it back and the hold is
full (R29, R364, R374). -/
def State.sewingFull (s : State) : Bool :=
  decide (s.get SEW_LIM_GRAINS ≤ heldGrains s.sew.held + heldGrains s.sew.urgent) &&
    !(match s.sew.urgent ++ s.nextHeld.toList with
      | [] => true
      | h :: _ => s.spineTakes h.r)

/-- ITEM_REMOVE (R370, R371): Sewing removes and releases the oldest item of a queue it consumes. A
unit without an ID sends no records to Sewing (R441). -/
def State.itemRemove (s : State) (q : Nat) : State :=
  match (s.queue q).items with
  | [] => s
  | it :: _ =>
    if q == 0xFF || s.get (Q_CFG_CONS q) != 0 || !s.bit ENUM_STAT_VALID || s.sewingFull then s
    else
      let (l, s) := (s.popItem q).readOut q it
      (s.raiseAll l).takeItem it

/-! ### Stalls (R377, R378) -/

/-- A stall limit has expired: TOCNT, TO and source 611. -/
def State.stallTimeout (s : State) (q : Nat) : State :=
  ((s.bump (Q_CNT_TOCNT q)).putB (Q_FLAG_TO q) true).raise 611

/-- The stalled Q_READ of a queue ends with a status; nothing without one. -/
def State.endStall (s : State) (q status detail : Nat) : State :=
  match (s.queue q).stall with
  | none => s
  | some st =>
    ((s.setQueue q { s.queue q with stall := none }).putB (Q_FLAG_STALLED q) false).answer
      st.tag status detail [] 0 (if status == stTimedOut then s.level q else 0)

/-- STALL_EXPIRY (R377). -/
def State.stallExpiry (s : State) (q : Nat) : State :=
  match (s.queue q).stall with
  | some st =>
    if st.timed && (s.queue q).items.isEmpty then
      (s.stallTimeout q).endStall q stTimedOut 0
    else s
  | none => s

/-- STREAM_STALL_EXPIRY (R378): once per stall, which Q_FLAG.STALLED and the engine's own mark
tell. -/
def State.streamStallExpiry (s : State) : State :=
  let q := s.streamQueue
  if s.patState == paSTARVED && s.bit (Q_FLAG_STALLED q) && s.get (Q_STALL_LIMIT q) != 0 &&
      !s.pat.timedOut then
    ((s.modPat (fun x => { x with timedOut := true }))).stallTimeout q
  else s

/-! ### Quarantine (R381) -/

/-- A write of LP_QUAR.RETEST. -/
def State.startRetest (s : State) : State := s.putB LP_QUAR_BUSY true

/-- RETEST_COMPLETE: the grains that passed go back to the free list. -/
def State.retestComplete (s : State) (passed : Nat) : State :=
  if !s.bit LP_QUAR_BUSY then s
  else
    let s := (s.modLoam (fun x => { x with quar := s.loam.quar - passed }))
    let s := (s.modLoam (fun x => { x with
      qlimRaised := s.loam.qlimRaised && decide (s.get LP_CFG_QLIM < s.loam.quar) }))
    (s.putB LP_QUAR_BUSY false).raise 616

/-! ### Settings (R382, R383, R515) -/

/-- The block registers that name a queue, with the domain of their block (R515). -/
def queueNames : List (RF × Nat) :=
  [(TRG_CFG_QUEUE, dCORE), (SV_GCFG_QUEUE, dCORE), (CE_TEL_QUEUE, dCTRL),
   (PAT_STREAM_QUEUE, dPAT)] ++ (List.range 16).map (fun d => (DM_OUT_QUEUE d, dDEMOD)) ++
    (List.range 8).map (fun k => (PC_OUT_QUEUE k, dPCV))

/-- Domain of the producer of a fixed queue (R372, R515). -/
def fixedDomain (q : Nat) : Option Nat :=
  if 0x80 ≤ q && q ≤ 0xBF then some (tkDomain (q - 0x80))
  else if q == 0xC0 || (0xF0 ≤ q && q ≤ 0xF2) then some dCORE
  else none

/-- The pattern engine is in RUN or STARVED and its stream names the queue. -/
def State.streaming (s : State) (q : Nat) : Bool :=
  s.streamQueue == q && (s.patState == paRUN || s.patState == paSTARVED)

/-- The queue is in use (R515). -/
def State.queueInUse (s : State) (q : Nat) : Bool :=
  (match fixedDomain q with
    | some d => s.domOn d
    | none => false) ||
  queueNames.any (fun e => s.get e.1 == q && s.domOn e.2) || (s.queue q).stall.isSome ||
  s.streaming q

/-- What refuses new settings of a queue (R382): the first check that fails. -/
def State.queueCheck (s : State) (q : Nat) (en : Bool) (cons depth rsv : Nat) :
    Option (Nat × Nat) :=
  if q == 0xFF then some (stBadParam, 1)
  else if 0x8000 < depth then some (stBadParam, 0)
  else if cons != s.get (Q_CFG_CONS q) && !(s.queue q).items.isEmpty then
    some (stStateConflict, 0xC3)
  else if !en && s.queueInUse q then some (stStateConflict, 0xC3)
  else if s.freeGrains + s.level q < s.reserveSum - s.get (Q_RSV_RSV q) + rsv then some (stLimit, 3)
  else none

/-- The check of a queue's settings with one register of it rewritten (R383); a register that no
check bears on keeps its queue's other settings, which passed. -/
def State.queueWriteCheck (s : State) (q o : Nat) (v : W32) : Option (Nat × Nat) :=
  if q == 0xFF then some (stBadParam, 1)
  else if o == 0 then
    s.queueCheck q ((Q_CFG_EN q).read v == 1) ((Q_CFG_CONS q).read v) 0 (s.get (Q_RSV_RSV q))
  else if o == 4 then
    if 0x8000 < (Q_LIM_DEPTH q).read v then some (stBadParam, 0) else none
  else if o == 8 then
    s.queueCheck q true (s.get (Q_CFG_CONS q)) 0 ((Q_RSV_RSV q).read v)
  else none

/-- A write into the block at 0C0000h. -/
def State.writeLoam (s : State) (a : Nat) (v : W32) : WriteResult :=
  if 0xC1000 ≤ a && a < 0xC3000 && (a - 0xC1000) % 32 < 16 then
    match s.queueWriteCheck ((a - 0xC1000) / 32) ((a - 0xC1000) % 32) v with
    | some e => refuseWrite e.1 e.2
    | none => .ok (s.plainWrite a v)
  else if a == LP_QUAR.addr then
    .ok (if LP_QUAR_RETEST.read v == 1 then s.startRetest else s)
  else .ok (s.plainWrite a v)

/-! ### The commands (R382 to R385) -/

/-- Removes up to `n` items for a Q_READ: the reply words, how many, the sources to raise. -/
def State.removeItems : Nat → Nat → State → List W64 × Nat × List Nat × State
  | 0, _, s => ([], 0, [], s)
  | n + 1, q, s =>
    match (s.queue q).items with
    | [] => ([], 0, [], s)
    | it :: _ =>
      let (l, s) := (s.popItem q).readOut q it
      let (ws, k, l', s) := State.removeItems n q s
      (itemReply it ++ ws, k + 1, l ++ l', s)

/-- Q_READ, R382. -/
def State.qReadCmd (s : State) (c : Cmd) : CmdEnd :=
  let q := bits (param c 0) 63 56
  if q == 0xFF then .refuse s stBadParam 1
  else if !s.bit (Q_CFG_EN q) then .refuse s stStateConflict 0xC0
  else if s.get (Q_CFG_CONS q) != 1 then .refuse s stStateConflict 0xC1
  else if (s.queue q).stall.isSome then .refuse s stBusy 0
  else if (s.queue q).items.isEmpty && !bitOf (param c 0) 48 then
    let limit := bits (param c 0) 23 0
    .pending (.qRead (BitVec.ofNat 8 q)) ((s.setQueue q { s.queue q with
      stall := some { tag := c.tag, timed := limit != 0 || s.get (Q_STALL_LIMIT q) != 0 } }).putB
        (Q_FLAG_STALLED q) true)
  else
    let (ws, k, l, s) := State.removeItems (max 1 (bits (param c 0) 47 32)) q s
    .answered stOk 0 ws k (s.level q) (s.raiseAll l)

/-- Q_WRITE, R382: checked, then admitted by R373. -/
def State.qWriteCmd (s : State) (c : Cmd) : CmdEnd :=
  let q := bits (param c 0) 63 56
  let ws := c.p.drop 1
  if c.p.length < 2 || 1026 < c.p.length then .refuse s stBadParam 6
  else if q == 0xFF then .refuse s stBadParam 1
  else if !s.bit (Q_CFG_EN q) then .refuse s stStateConflict 0xC0
  else if !s.bit (Q_CFG_HOSTW q) then .refuse s stStateConflict 0xC1
  else if s.get (Q_CFG_CONS q) == 2 && ws.length % 8 != 0 then .refuse s stBadParam 0
  else if s.get (Q_CFG_CONS q) == 0 && bits (param c 1) 41 32 + 2 != ws.length then
    .refuse s stBadParam 0
  else
    let why := s.admission q (grainsOf ws.length)
    let (ok, s) := s.offer q { words := ws, gen := s.tb.gen, host := true }
    if ok then .ok s else .refuse s stLimit (if why == some 610 then 2 else 1)

/-- Q_CONFIG, R382. -/
def State.qConfigCmd (s : State) (c : Cmd) : CmdEnd :=
  let p0 := param c 0
  let p1 := param c 1
  let q := bits p0 63 56
  if c.p.length != 3 then .refuse s stBadParam 6
  else match s.queueCheck q (bitOf p0 31) (bits p0 29 28) (bits p1 63 48) (bits p1 31 16) with
    | some e => .refuse s e.1 e.2
    | none =>
      let s := ((s.putB (Q_CFG_EN q) (bitOf p0 31)).putB (Q_CFG_HOSTW q) (bitOf p0 30)).put
        (Q_CFG_CONS q) (bits p0 29 28)
      let s := (s.put (Q_LIM_DEPTH q) (bits p1 63 48)).put (Q_LIM_WM q) (bits p1 47 32)
      .ok ((s.put (Q_RSV_RSV q) (bits p1 31 16)).put (Q_STALL_LIMIT q) (bits (param c 2) 23 0))

/-- The stream that a discarded item of this unit's own making belongs to (R384). -/
def Item.stream (it : Item) : Option Nat :=
  if it.host then none else (recOfWords it.words).map recKey

/-- Every item of a queue is read out and discarded; its streams are marked (R379, R384). -/
def State.flushQueue (s : State) (q : Nat) : List Nat × State :=
  let items := (s.queue q).items
  let s := (s.setQueue q { s.queue q with items := [] }).rearmWatermark q
  let s := s.when (s.streamQueue == q) (fun s =>
    (s.modPat (fun x => { x with relOff := 0, ahead := 0 })))
  let s := (items.filterMap Item.stream).foldl State.markOvf s
  items.foldl (fun (a : List Nat × State) it =>
    let (l, s) := a.2.readOut q it
    (a.1 ++ l, s)) ([], s)

/-- Q_FLUSH, R382, R384. -/
def State.qFlushCmd (s : State) (c : Cmd) : CmdEnd :=
  let q := bits (param c 0) 63 56
  if q == 0xFF then .refuse s stBadParam 1
  else if s.streaming q then .refuse s stStateConflict 0xC4
  else
    let (l, s) := s.flushQueue q
    .ok ((s.raiseAll l).endStall q stStateConflict 0xC2)

/-- LOAM powers down: every queue is emptied and every setting returns to its reset value. -/
def State.loamOff (s : State) : State :=
  { (s.resetRegs 0xC0000 0xC4000) with loam := {}, sew := { s.sew with held := [], inbox := [], urgent := [] } }

/-! ### The steps -/

/-- ITEM_APPEND, R373. -/
def execItemAppend (q : BitVec 8) (words : List W64) (s : State) :
    Host.Outcome State Fault Refusal := .next (s.itemAppend q.toNat words)

/-- PRODUCER_UNBLOCK, R374. -/
def execProducerUnblock (q : BitVec 8) (s : State) : Host.Outcome State Fault Refusal :=
  .next (s.producerUnblock q)

/-- ITEM_REMOVE, R370. -/
def execItemRemove (q : BitVec 8) (s : State) : Host.Outcome State Fault Refusal :=
  .next (s.itemRemove q.toNat)

/-- STALL_EXPIRY, R377. -/
def execStallExpiry (q : BitVec 8) (s : State) : Host.Outcome State Fault Refusal :=
  .next (s.stallExpiry q.toNat)

/-- STREAM_STALL_EXPIRY, R378. -/
def execStreamStallExpiry (s : State) : Host.Outcome State Fault Refusal :=
  .next s.streamStallExpiry

/-- RETEST_COMPLETE, R381. -/
def execRetestComplete (passed : BitVec 16) (s : State) : Host.Outcome State Fault Refusal :=
  .next (s.retestComplete passed.toNat)

end Sys2Proof.Machine
end

