-- ==== Sys2Proof/Machine/TimeBase.lean ====
section
/-! DEFINITION. Reference, ticks and link-wide time (R53 to R81, R516). -/
namespace Sys2Proof.Machine

def alHEAD : Nat := 0
def alUNALIGNED : Nat := 1
def alACQUIRE : Nat := 2
def alLOCKED : Nat := 3
def alDEGRADED : Nat := 4
def alHOLDOVER : Nat := 5

def State.alignState (s : State) : Nat := s.get TB_STATUS_ALIGN

/-- STEP_LIMIT in fine units. -/
def State.stepLimit (s : State) : Int := s.get TB_CFG_STEP_LIMIT * 1024

/-! ### Traceability (R68) -/

/-- Whether the parent's TRSTAT lets a DEGRADED unit trace: 10b reports TRACE 1, 00b and 11b report
nothing (R407). -/
def State.trustsParent (s : State) (trstat : BitVec 2) : Bool :=
  trstat == 2 || ((trstat == 0 || trstat == 3) && s.bit TB_CFG_TRUST_OLD)

/-- TRACE as R68 gives it. -/
def State.traceNow (s : State) : Bool :=
  if s.alignState == alHEAD then s.bit TB_STATUS_PLL_LOCK
  else if s.alignState == alLOCKED then s.tb.parentTrace && s.bit TB_STATUS_PLL_LOCK
  else if s.alignState == alDEGRADED then
    s.tb.steps.isEmpty && s.tb.slew == 0 && s.bit TB_STATUS_PLL_LOCK &&
      (match s.tb.handshake with
       | some (tr, aged) => !aged && s.trustsParent tr
       | none => false)
  else false

/-- Brings TRACE up to date. A return to 1 sends HOLD_EXIT (R60, R79), and raises source 33 when the
unit has been in HOLDOVER meanwhile (R81; DEDUCED, log entry 18). -/
def State.updateTrace (s : State) : State :=
  let b := s.traceNow
  if b == s.bit TB_STATUS_TRACE then s
  else
    let s := s.setTrace b
    if !b then s
    else
      let back := s.tb.traced
      let held := s.tb.heldOver
      let s := s.modTb (fun x => { x with traced := true, heldOver := false })
      let s := if back then
          let (t, s) := s.lagged s.now
          s.epochMarker 4 t
        else s
      s.when held (fun s => s.raise 33)

/-! ### Alignment states (R67) -/

/-- Enters LOCKED or DEGRADED: LOCK marker and source 34. -/
def State.enterAligned (s : State) (al : Nat) : State :=
  let s := (s.put TB_STATUS_ALIGN al).updateTrace
  let (t, s) := s.lagged s.now
  (s.epochMarker 5 t).raise 34

/-- Enters ACQUIRE, which corrects from 16 exchanges of its own (DEDUCED, log entry 18); source 35
when it comes from LOCKED. -/
def State.enterAcquire (s : State) : State :=
  let was := s.alignState
  let s := s.put TB_STATUS_ALIGN alACQUIRE
  let s := (s.modTb (fun x => { x with stepDone := false, good := 0, acq := 0 }))
  let s := s.updateTrace
  s.when (was == alLOCKED) (fun s => s.raise 35)

/-- Enters HOLDOVER (R78): internal oscillator, TRACE 0, HOLD_ENTER marker, source 32. A LINK_ALIGN
that still measures ends with STATE_CONFLICT 31h; one whose step is decided does not (R62, R73). -/
def State.enterHoldover (s : State) : State :=
  let s := (s.put TB_STATUS_SRC 2).put TB_STATUS_ALIGN alHOLDOVER
  let s := (s.setTrace false).modTb (fun x => { x with heldOver := true })
  let s := match s.tb.align with
    | some { tag := tag, result := none, .. } =>
      (s.answer tag stStateConflict 0x31).modTb (fun b => { b with align := none })
    | _ => s
  let (t, s) := s.lagged s.now
  (s.epochMarker 3 t).raise 32

/-- The spine is up at version 3, or at an older version with its handshake measured: a child
leaves UNALIGNED, or HOLDOVER once its reference has qualified (R67, R79). -/
def State.alignByLink (s : State) : State :=
  if s.isHead || !s.gxLive 0 then s
  else
    let ready := s.alignState == alUNALIGNED || (s.alignState == alHOLDOVER && s.tb.refOk)
    if !ready then s
    else if s.get (PORT_STAT_VER 0) == 3 then s.enterAcquire
    else if s.tb.handshake.isSome then s.enterAligned alDEGRADED
    else s

/-! ### Steps (R62, R63) -/

/-- The smallest multiple of 2^23 at least 2^23 ticks after a tick. -/
def stepTickAfter (t : Tick) : Tick :=
  BitVec.ofNat 48 ((t.toNat + 2 ^ 23 + (2 ^ 23 - 1)) / 2 ^ 23 * 2 ^ 23)

/-- Decides to step by k ticks. -/
def State.decideStep (s : State) (k : Int) (load : Option (BitVec 16 × Tick) := none) : State :=
  (s.modTb (fun x => { x with
      steps := s.tb.steps ++ [{ k := k, tick := stepTickAfter s.now, load := load }] })).putB
    TB_STATUS_STEP_PEND true

/-- Steps by the whole ticks of a correction of `c` fine units and slews the rest (R66). -/
def State.stepAndSlew (s : State) (c : Int) (load : Option (BitVec 16 × Tick) := none) : State :=
  let k := divRound c 1024
  let s := (s.modTb (fun x => { x with slew := c - 1024 * k }))
  if k == 0 && load.isNone then (s.modTb (fun x => { x with stepDone := true }))
  else s.decideStep k load

/-- Epoch and counter after a step of k ticks from STEP_TICK; a TSYNC load names the epoch. -/
def steppedTime (epoch : BitVec 16) (t : Tick) (k : Int) (load : Option (BitVec 16 × Tick)) :
    BitVec 16 × Tick :=
  let total : Int := Int.ofNat t.toNat + k
  let tick := BitVec.ofInt 48 total
  match load with
  | some (e, l) => (if tick.toNat < l.toNat then e + 1 else e, tick)
  | none => (epoch + BitVec.ofInt 16 (total / 2 ^ 48), tick)

/-- The pending step with the earliest STEP_TICK. -/
def State.firstStep (s : State) : Option StepNotice :=
  s.tb.steps.foldl (fun b n => match b with
    | none => some n
    | some m => if tickLt n.tick m.tick then some n else some m) none

/-- A LINK_ALIGN ends OK: P1 the offset, P2 the delay (R73). -/
def State.answerAlign (s : State) (tag : BitVec 16) (off del : Int) : State :=
  (s.answer tag stOk 0 [BitVec.ofInt 64 off, packWord [(asCode 32 del, 0, 32)]]).modTb
    (fun b => { b with align := none })

/-- The LINK_ALIGN whose step has STEP_TICK `t` replies (R73). -/
def State.stepAnnounced (s : State) (t : Tick) : State :=
  match s.tb.align with
  | some { tag := tag, result := some (off, del, u), .. } =>
    if u == t then s.answerAlign tag off del else s
  | _ => s

/-- The counter reaches the earliest STEP_TICK: it is replaced, a STEP marker and source 36 follow
(R60, R62, R81). With no step pending nothing happens. -/
def State.applyStep (s : State) : State :=
  match s.firstStep with
  | none => s
  | some first =>
    let s := (s.advanceTo first.tick).stepAnnounced first.tick
    let k := (s.tb.steps.filter (fun n => n.tick == first.tick)).foldl (fun a n => a + n.k) 0
    let old := (s.tb.epoch, s.tb.tick)
    let (e, t) := steppedTime s.tb.epoch s.tb.tick k first.load
    let wrapped := e == s.tb.epoch + 1
    let rest := s.tb.steps.filter (fun n => n.tick != first.tick)
    let s := (s.modTb (fun x => { x with
      tick := t, epoch := e, steps := rest, gen := x.gen + 1, ks := k :: x.ks
      lastStep := some ({ first with k := k }, x.up), stepDone := true, good := 0, acq := 0 }))
    let s := s.putB TB_STATUS_STEP_PEND (!rest.isEmpty)
    let s := (s.epochMarker 2 t (some old)).raise 36
    (s.when wrapped (fun s => s.raise 37)).updateTrace

/-! ### Exchanges (R64 to R69) -/

/-- PORTn_CFG.ASYM as a signed number of fine units. -/
def State.asym (s : State) (n : Nat) : Int := asSigned 16 (s.get (PORT_CFG_ASYM n))

/-- Offset in halves of a fine unit and twice the delay, from a_in and a_out (R64). -/
def exchangeOf (ain aout asym : Int) : Int × Int := (ain - aout - asym, ain + aout)

/-- Mean, in whole fine units, of offsets held in halves (R66). -/
def meanHalves (l : List Int) : Int := divRound (l.foldl (· + ·) 0) (2 * max 1 l.length)

/-- A time-base port takes one more exchange into its filter and reports it (R66, R69). -/
def State.recordExchange (s : State) (n : Nat) (half twice : Int) : State :=
  let s := s.modTbPort n (fun p =>
    let l := (half :: p.offsets).take 16
    { p with offsets := l, offset := meanHalves l })
  let s := s.put (PORT_DELAY_DELAY n) (asCode 32 (divRound twice 2))
  let s := (s.put (PORT_STAT_EXCH n) (s.get (PORT_STAT_EXCH n) + 1)).putB (PORT_STAT_VALID n) true
  let lim : Int := s.get (PORT_CFG_LIMIT n)
  s.when (n != 0 && lim != 0 && decide (lim < (s.tbPort n).offset.natAbs)) (fun s => s.raise 40)

/-- LINK_ALIGN has measured: a step beyond STEP_LIMIT, else a slew. It replies at once, but for a
step that a version 3 fore-edge port has to announce first (R73). -/
def State.finishAlign (s : State) (j : AlignJob) (off del : Int) : State :=
  if s.stepLimit < off.natAbs then
    let n := s.tb.steps.length
    let s := s.stepAndSlew (-off)
    let told := [1, 2, 3].any (fun n => s.get (PORT_STAT_VER n) == 3)
    match s.tb.steps.getLast? with
    | some st =>
      if told && n < s.tb.steps.length then
        s.modTb (fun x => { x with align := some { j with result := some (off, del, st.tick) } })
      else s.answerAlign j.tag off del
    | none => s.answerAlign j.tag off del
  else (s.answerAlign j.tag off del).modTb (fun b => { b with slew := -off })

/-- A LINK_ALIGN in progress takes the exchange; 16 of them make its measurement (R73). -/
def State.alignExchange (s : State) (half twice : Int) : State :=
  match s.tb.align with
  | some j =>
    if j.result.isSome then s
    else
      let j := { j with offsets := half :: j.offsets, delays := twice :: j.delays }
      if j.offsets.length < 16 then (s.modTb (fun x => { x with align := some j }))
      else
        s.finishAlign j (meanHalves j.offsets) (meanHalves j.delays)
  | none => s

/-- The spine port of a child corrects its counter after an exchange (R66, R67). -/
def State.correctSpine (s : State) (half : Int) : State :=
  let p := s.tbPort 0
  let correct (s : State) : State :=
    (s.stepAndSlew (-p.offset)).modTb (fun x => { x with acq := 0 })
  let s := s.modTb (fun x => { x with acq := x.acq + 1 })
  if s.alignState == alACQUIRE then
    if !s.tb.steps.isEmpty then s
    else if !s.tb.stepDone then (if 16 ≤ s.tb.acq then correct s else s)
    else
      let good := if half.natAbs ≤ 128 then s.tb.good + 1 else 0
      let s := (s.modTb (fun x => { x with good := good }))
      if 16 ≤ good then s.enterAligned alLOCKED
      else if 16 ≤ s.tb.acq && s.tb.slew == 0 && 64 < p.offset.natAbs then correct s
      else s
  else if s.alignState == alLOCKED then
    if s.stepLimit < p.offset.natAbs then s.enterAcquire
    else (s.modTb (fun x => { x with slew := -p.offset }))
  else s

/-- The notice is the step applied last: for 2^23 ticks after it a marker sent before it may still
carry it (DEDUCED, log entry 18). -/
def State.stepIsOld (s : State) (k : Int) (t : Tick) : Bool :=
  match s.tb.lastStep with
  | some (n, u) => n.k == k && n.tick == t && decide (s.tb.up < u + 2 ^ 23)
  | none => false

/-- Takes a parent's step notice that is not held yet, not past and not the one applied last
(R62). -/
def State.takeNotice (s : State) (m : TimeMark) : State :=
  let k := m.stepK.toInt
  let t : Tick := BitVec.ofNat 48 (m.stepHi.toNat * 2 ^ 23)
  if !m.step || tickLe t s.now || s.stepIsOld k t ||
      s.tb.steps.any (fun n => n.k == k && n.tick == t) then s
  else (s.modTb (fun x => { x with steps := s.tb.steps ++ [{ k := k, tick := t }] })).putB
    TB_STATUS_STEP_PEND true

/-- The exchange that a marker completes spans STEP_TICK at the far end, or the far end has stepped
and this unit has not (R62). -/
def State.spansStep (s : State) (m : TimeMark) : Bool :=
  tickLt m.depTick m.arrTick || s.tb.steps.any (fun n => tickLe n.tick m.depTick)

/-- A time-transfer marker arrives on port `n` (R64, R66 to R69, R73): it completes the exchange with
the marker of this unit that it names. A version 3 link only; the head's spine carries none (R55,
R408). An exchange that spans a step is discarded (R62). -/
def State.timeMarker (s : State) (n : Nat) (m : TimeMark) (arr : Stamp) : State :=
  if s.get (PORT_STAT_VER n) != 3 || (n == 0 && s.isHead) then s
  else
    let s := s.advanceTo arr.tick
    let p := s.tbPort n
    let s := s.modTbPort n (fun p => { p with arr := some (m.seq, arr) })
    let spine := n == 0
    let s := s.when spine (fun s =>
      ((s.modTb (fun x => { x with parentTrace := m.trace })).takeNotice m).updateTrace)
    match p.deps.find? (fun d => d.1 == m.arrSeq) with
    | some (_, dep, gen) =>
      if gen == s.tb.gen && !s.spansStep m then
        let ain := stampDiff arr { tick := m.depTick, fine := m.depFine }
        let aout := stampDiff { tick := m.arrTick, fine := m.arrFine } dep
        let (half, twice) := exchangeOf ain aout (s.asym n)
        let s := s.recordExchange n half twice
        if spine then (s.alignExchange half twice).correctSpine half else s
      else s
    | none => s

/-- The notice that a port's markers carry: the earliest pending step, on fore-edge ports (R62). -/
def State.noticeFor (s : State) (n : Nat) : Option StepNotice :=
  if n == 1 || n == 2 || n == 3 then s.firstStep else none

/-- A version 3 port sends its time-transfer marker (R62, R64, R397): the departure stamp is the
present tick with an open fine part. An announced step lets LINK_ALIGN answer (R73). Before a marker
has been received it carries number 0 and stamp 0 for the arrival (DESIGN CHOICE, log entry 18). -/
def State.sendTimeMark (s : State) (n : Nat) : State :=
  if s.get (PORT_STAT_VER n) != 3 || (n == 0 && s.isHead) then s
  else
    let (f, s) := s.fresh
    let p := s.tbPort n
    let seq := match p.deps with | (q, _) :: _ => q + 1 | [] => 0
    let dep : Stamp := { tick := s.now, fine := BitVec.ofNat 10 f }
    let note := s.noticeFor n
    let arr := p.arr.getD (0, {})
    let m : TimeMark :=
      { depTick := dep.tick, depFine := dep.fine, trace := s.bit TB_STATUS_TRACE
        step := note.isSome, align := BitVec.ofNat 4 s.alignState
        arrTick := arr.2.tick, arrFine := arr.2.fine
        stepK := BitVec.ofInt 32 ((note.map StepNotice.k).getD 0)
        stepHi := ((note.map StepNotice.tick).getD 0).extractLsb' 23 25
        seq := seq, arrSeq := arr.1 }
    let s := s.modTbPort n (fun p => { p with deps := ((seq, dep, s.tb.gen) :: p.deps).take 128 })
    let s := s.modGx n (fun g => { g with txTime := g.txTime ++ [m] })
    match note with
    | some st => s.stepAnnounced st.tick
    | none => s

/-- A handshake measurement on a version 1 or 2 spine (R71): source 41, then a slew, or a step
beyond STEP_LIMIT. The parent's TRSTAT is kept for TRACE (R68). -/
def State.handshake (s : State) (ain aout : Int) (trstat : BitVec 2) : State :=
  let (half, twice) := exchangeOf ain aout (s.asym 0)
  let s := s.modTbPort 0 (fun p => { p with offsets := [half], offset := meanHalves [half] })
  let s := (s.put (PORT_DELAY_DELAY 0) (asCode 32 (divRound twice 2))).putB (PORT_STAT_VALID 0) true
  let s := s.put (PORT_STAT_EXCH 0) (s.get (PORT_STAT_EXCH 0) + 1)
  let s := (s.modTb (fun x => { x with handshake := some (trstat, false) }))
  let s := s.raise 41
  let off := meanHalves [half]
  let s := match s.tb.align with
    | some j => if j.result.isNone then s.finishAlign j off (divRound twice 2) else s
    | none =>
      if s.stepLimit < off.natAbs then s.stepAndSlew (-off)
      else s.modTb (fun x => { x with slew := -off })
  s.updateTrace

/-! ### TSYNC (R74 to R76) -/

/-- Error of a stamp against the nearest expected edge, `per` fine units apart; halfway between two
expected edges either may be taken, so the side is open. -/
def tsyncError (d : Int) (per : Nat) (side : Nat) : Int :=
  if per == 0 then d
  else
    let r := d % per
    if 2 * r < per then r
    else if 2 * r == per && side % 2 == 0 then r
    else r - per

/-- An edge after a load is checked against L + n * PER (R75, R76); TRACK slews by the mean of the last
16. An error that TSYNC_ERR cannot hold reads as an open value. -/
def State.checkTsync (s : State) (st : Stamp) (l : Int) (track : Bool) : State :=
  let (side, s) := s.fresh
  let (wide, s) := s.fresh
  let d := (s.wide st.tick - l) * 1024 + st.fine.toNat
  let err := tsyncError d (s.get TSYNC_PER_PER * 1024) side
  let fits := decide (-(2 ^ 31) ≤ err ∧ err < 2 ^ 31)
  let s := s.put TSYNC_ERR_ERR (if fits then asCode 32 err else wide)
  if s.stepLimit < err.natAbs then s.raise 39
  else if track then
    let l := (err :: s.tb.tsErrs).take 16
    (s.modTb (fun x => { x with
      tsErrs := l, slew := -(divRound (l.foldl (· + ·) 0) (max 1 l.length)) }))
  else s

/-- The armed edge loads TSYNC_LOAD (R75). -/
def State.loadTsync (s : State) (st : Stamp) : State :=
  let e := BitVec.ofNat 16 (s.get TSYNC_LOAD_HI_EPOCH)
  let l : Tick := BitVec.ofNat 48 (s.get TSYNC_LOAD_HI_TICK_H * 2 ^ 32 + s.get TSYNC_LOAD_LO_TICK_L)
  let d := stampDiff { tick := l } st
  let s := (s.modTb (fun x => { x with
    tsArmed := false, tsLoad := some (s.wide st.tick + tickDiff l st.tick), tsErrs := [] }))
  s.stepAndSlew d (some (e, l))

/-- A TSYNC edge (R74). Edges while a step is pending are stamped and not checked (R76, log entry
11). -/
def State.tsyncEdge (s : State) (st : Stamp) (rising : Bool) : State :=
  let mode := s.get TSYNC_CFG_MODE
  if mode == 0 || rising == s.bit TSYNC_CFG_EDGE then s
  else
    let s := s.advanceTo st.tick
    let s := ((s.modTb (fun x => { x with tsLast := st }))).raise 38
    let loads := s.isHead && (mode == 2 || mode == 3)
    if !s.tb.steps.isEmpty then s
    else if loads && s.tb.tsArmed then s.loadTsync st
    else match s.tb.tsLoad with
      | some l => s.checkTsync st l (loads && mode == 3)
      | none => s

/-! ### The commands -/

/-- TSYNC_ARM (R75): a write to TSYNC_CFG; ARM arms a load on the next edge. -/
def State.writeTsyncCfg (s : State) (v : W32) : State :=
  let s := match regRow? TSYNC_CFG.addr with
    | some r => s.wr TSYNC_CFG.addr (r.afterWrite v (s.rd TSYNC_CFG.addr))
    | none => s
  if bitOf v 3 then (s.modTb (fun x => { x with tsArmed := true })) else s

/-- A write to TB_CFG; a change of SPINE_REF retrains the head's spine unless it is DISABLED
(R404). -/
def State.writeTbCfg (s : State) (v : W32) : State :=
  let old := s.bit TB_CFG_SPINE_REF
  let s := match regRow? TB_CFG.addr with
    | some r => s.wr TB_CFG.addr (r.afterWrite v (s.rd TB_CFG.addr))
    | none => s
  let s := s.updateTrace
  if s.isHead && s.bit TB_CFG_SPINE_REF != old then s.gxRetrain 0 else s

/-- LINK_ALIGN (R73) after its general checks: status and DETAIL of a refusal, or the state in
which it is in progress. -/
def State.linkAlign (s : State) (tag : BitVec 16) : (Nat × Nat) ⊕ State :=
  if s.isHead then .inl (stStateConflict, 0x30)
  else if s.alignState == alUNALIGNED || s.alignState == alHOLDOVER then
    .inl (stStateConflict, 0x31)
  else if s.tb.align.isSome then .inl (stBusy, 0)
  else .inr (s.modTb (fun x => { x with align := some { tag := tag } }))

/-- PLL_LOCK (R59, R68, R405, R411, R516). -/
def State.pllLock (s : State) : State :=
  if !s.domOn dPLL || s.bit TB_STATUS_PLL_LOCK then s
  else
    let s := s.putB TB_STATUS_PLL_LOCK true
    let s := if s.alignState == alHOLDOVER && !s.tb.refOk then s.put TB_STATUS_SRC 2
      else s.put TB_STATUS_SRC (if s.isHead then 0 else 1)
    let first := !s.tb.started
    let s := s.when first (fun s =>
      (s.modTb (fun x => { x with started := true, tick := 0, epoch := 0 })))
    let s := s.updateTrace
    let s := s.when first (fun s => s.epochMarker 7 0)
    let s := (List.range 5).foldl State.gxStart s
    s.alignByLink

/-- PLL_LOCK_LOSS (R516). The reference has to qualify again (R79; DEDUCED, log entry 17). -/
def State.pllLockLoss (s : State) : State :=
  if !s.bit TB_STATUS_PLL_LOCK then s
  else
    let s := (s.putB TB_STATUS_PLL_LOCK false).raise 43
    let s := (s.put TB_STATUS_SRC 2).modTb (fun x => { x with refOk := false })
    if s.alignState == alHOLDOVER then s.updateTrace else s.enterHoldover

/-- REFERENCE_LOST (R77, R78): the tick clock, once it runs, moves to the internal oscillator. From
UNALIGNED the table of R67 has no transition. -/
def State.referenceLost (s : State) : State :=
  let s := (s.modTb (fun x => { x with refOk := false }))
  let s := s.when s.tb.started (fun s => s.put TB_STATUS_SRC 2)
  if s.alignState == alHOLDOVER || s.alignState == alUNALIGNED then s else s.enterHoldover

/-- REFERENCE_QUALIFIED (R79). A unit with HEAD low that still waits in HOLDOVER for its link or its
measurement shows SPRX0 in TB_STATUS.SRC at once (DESIGN CHOICE, log entry 18). -/
def State.referenceQualified (s : State) : State :=
  let s := (s.modTb (fun x => { x with refOk := true }))
  if s.alignState != alHOLDOVER then s
  else if s.isHead then ((s.put TB_STATUS_SRC 0).put TB_STATUS_ALIGN alHEAD).updateTrace
  else (s.put TB_STATUS_SRC 1).alignByLink

/-- PERIODIC_MARKER (R60): the counter reaches the next multiple of 2^PERIOD. -/
def State.periodicMarker (s : State) : State :=
  let k := s.get TB_CFG_PERIOD
  if k < 24 || 47 < k || !s.tb.started then s
  else
    let t : Tick := BitVec.ofNat 48 ((s.now.toNat + (2 ^ k - 1)) / 2 ^ k * 2 ^ k)
    (s.advanceTo t).epochMarker 6 t

/-- What the REFOUT pins do (R57). -/
inductive RefOut where
  /-- P low, N high -/
  | held
  /-- 156.25 MHz; true in a tick on which P rises, those whose count is a multiple of 8 -/
  | runs (rises : Bool)
  deriving DecidableEq, Repr

/-- REFOUT as R57 gives it, whatever source the tick clock follows. -/
def State.refout (s : State) : RefOut :=
  if s.bit TB_CFG_REFOUT_EN && s.bit TB_STATUS_PLL_LOCK then .runs (s.now.toNat % 8 == 0)
  else .held

def execPllLock (s : State) : Host.Outcome State Fault Refusal := .next s.pllLock

def execPllLockLoss (s : State) : Host.Outcome State Fault Refusal := .next s.pllLockLoss

/-- TICK_WRAP (R59, R60). -/
def execTickWrap (s : State) : Host.Outcome State Fault Refusal :=
  .next (if s.tb.started then s.wrapTick else s)

def execPeriodicMarker (s : State) : Host.Outcome State Fault Refusal := .next s.periodicMarker

def execExchangeSend (n : Fin 5) (s : State) : Host.Outcome State Fault Refusal :=
  .next (s.sendTimeMark n.val)

def execTimeTransferMarker (n : Fin 5) (m : TimeMark) (t : Tick) (f : Fine) (s : State) :
    Host.Outcome State Fault Refusal :=
  .next (s.timeMarker n.val m { tick := t, fine := f })

def execReferenceLost (s : State) : Host.Outcome State Fault Refusal := .next s.referenceLost

def execReferenceQualified (s : State) : Host.Outcome State Fault Refusal :=
  .next s.referenceQualified

def execTsyncEdge (t : Tick) (f : Fine) (rising : Bool) (s : State) :
    Host.Outcome State Fault Refusal :=
  .next (if s.domOn dPLL then s.tsyncEdge { tick := t, fine := f } rising else s)

/-- LREF_LOST (R404): source 42 and the spine held in DETECT while SPINE_REF is 1. -/
def execLrefLost (s : State) : Host.Outcome State Fault Refusal :=
  .next (if !s.isHead then s
    else
      let s := s.putB TB_STATUS_LREF_OK false
      if s.bit TB_CFG_SPINE_REF then (s.raise 42).gxRetrain 0 else s)

/-- LREF_QUALIFIED (R404): the held spine port resumes, in DETECT. -/
def execLrefQualified (s : State) : Host.Outcome State Fault Refusal :=
  .next (if s.isHead then s.putB TB_STATUS_LREF_OK true else s)

/-- SLEW_COMPLETE (R66, R68). -/
def execSlewComplete (s : State) : Host.Outcome State Fault Refusal :=
  .next ((s.modTb (fun x => { x with slew := 0 })).updateTrace)

/-- MEASUREMENT_AGED (R68): the latest handshake measurement becomes 10 minutes old. -/
def execMeasurementAged (s : State) : Host.Outcome State Fault Refusal :=
  .next ((s.modTb (fun x => { x with
    handshake := x.handshake.map (fun h => (h.1, true)) })).updateTrace)

end Sys2Proof.Machine
end

