-- ==== Sys2Proof/Machine/Grenyx.lean ====
section
/-! DEFINITION. The Grenyx ports (R390 to R420): training, negotiation, frames with credit and
replay, electrical idle and fault injection. Port states and moves are in Links. -/
namespace Sys2Proof.Machine

/-! ### Settings of a port -/

/-- VMAX and VMIN; 00b acts as 01b (R408, R419). -/
def State.gxVmax (s : State) (n : Nat) : Nat := max 1 (s.get (GX_PCFG_VMAX n))
def State.gxVmin (s : State) (n : Nat) : Nat := max 1 (s.get (GX_PCFG_VMIN n))

/-- Full width as GX_PSTAT.WIDTH codes it (R390, R419). -/
def gxFull (n : Nat) : Nat := if n == 0 then 3 else 2

/-- The widest permitted width whose lanes have locked; 0 is none (R391). -/
def State.gxWidth (s : State) (n : Nat) (lanes : BitVec 4) : Nat :=
  let two := lanes.getLsbD 0 && lanes.getLsbD 1
  let four := two && lanes.getLsbD 2 && lanes.getLsbD 3
  let w := if n == 0 && four then 3 else if two then 2 else if lanes.getLsbD 0 then 1 else 0
  if w == gxFull n || s.bit (GX_PCFG_NARROW n) then w else 0

/-! ### Training (R405, R406) -/

/-- PARTNER_PATTERN_LOCK: DETECT to TRAIN, at the rate of the pattern; precoding at full rate. The
settings of this training are those in force now (R419). -/
def State.patternLock (s : State) (n : Nat) (half : Bool) : State :=
  if s.gxState n != gxDETECT || (n == 0 && s.spineHeld) ||
      (half && s.gxInitiator n && s.gxVmin n != 1) then s
  else
    let s := ((s.gxMove n gxTRAIN).putB (GX_PSTAT_HALF n) half).putB (GX_PSTAT_PRECODE n) (!half)
    let v := s.gxVmax n
    s.modGx n (fun g => { g with half := half, vmax := v })

/-- What a port's present state, window or round began, plus `d` ticks, is the earliest moment of what
comes now. -/
def State.waitPort (s : State) (n d : Nat) : State :=
  s.advanceUp ((s.gxOf n).since + d : Nat)

/-- TRAINING_WINDOW_END, 2 ms after the window began: the initiator's next window is at the other rate; half rate only while
VMIN is 1. -/
def State.nextWindow (s : State) (n : Nat) : State :=
  if s.gxState n != gxDETECT || !s.gxInitiator n then s
  else
    let ok := s.gxVmin n == 1
    let s := s.waitPort n (2 * msTicks)
    s.modGx n (fun g => { g with half := !g.half && ok, since := s.tb.up })

/-- The words this end sends in round `k`: its departure stamp is the present tick with an open
fine part (R407). -/
def State.sendRound (s : State) (n k : Nat) (heard : Option Round) : State :=
  let (f, s) := s.fresh
  let g := s.gxOf n
  let here := heard.elim (0, 0) (fun r => (r.hereTick, r.hereFine))
  let lanes : BitVec 4 := match s.get (GX_PSTAT_WIDTH n) with
    | 0 => 0
    | 1 => 1
    | 2 => 3
    | _ => 15
  let mine : Round :=
    { vmax := BitVec.ofNat 2 g.vmax, vmin := BitVec.ofNat 2 (s.gxVmin n), lanes := lanes
      init := s.gxInitiator n, resume := g.canResume, next := g.got + 1
      trstat := if s.bit TB_STATUS_TRACE then 2 else 1, round := BitVec.ofNat 3 k
      depTick := s.now, depFine := BitVec.ofNat 10 f, arrTick := here.1, arrFine := here.2 }
  s.modGx n (fun x => { x with mine := some mine, since := s.tb.up })

/-- TRAIN_COMPLETE: a width is chosen and the capability exchange starts. -/
def State.trainComplete (s : State) (n : Nat) (lanes : BitVec 4) : State :=
  let w := s.gxWidth n lanes
  if s.gxState n != gxTRAIN || w == 0 then s
  else
    let s := (s.gxMove n gxNEGOTIATE).put (GX_PSTAT_WIDTH n) w
    (s.modGx n (fun g => { g with rounds := 0, partner := none })).sendRound n 0 none

/-- Back to DETECT from a training state. -/
def State.backToDetect (s : State) (n : Nat) : State :=
  ((s.gxMove n gxDETECT).put (GX_PSTAT_WIDTH n) 0).modGx n (fun g => { g with
    rounds := 0, partner := none })

/-! ### Capability exchange (R407 to R410) -/

/-- The handshake measurement of a spine on version 1 or 2 (R71), from this round's C1 and C2 and
this end's C1 of the round before. -/
def State.measure (s : State) (own : Option Round) (r : Round) : State :=
  match own with
  | none => s
  | some m =>
    let ain := stampDiff { tick := r.hereTick, fine := r.hereFine }
      { tick := r.depTick, fine := r.depFine }
    let aout := stampDiff { tick := r.arrTick, fine := r.arrFine }
      { tick := m.depTick, fine := m.depFine }
    s.handshake ain aout r.trstat

/-- The partner's NEXT lies within the kept frames (R410). -/
def GxPort.holds (g : GxPort) (next : BitVec 12) : Bool :=
  next == g.fsn || g.kept.any (fun f => f.fsn == next)

/-- Both ends resume, or both restart their numbering with nothing kept (R410). A restart grants
credit anew: the command buffer whole (R402, R422), a share of the Sewing hold that the spec leaves
open. -/
def State.resumePort (s : State) (n : Nat) (r : Round) : State :=
  let g := s.gxOf n
  if g.canResume && r.resume && g.holds r.next then
    let back := g.kept.dropWhile (fun f => f.fsn != r.next)
    (s.modGx n (fun g => { g with replay := back, kept := back, canResume := false })).putB
      (GX_PSTAT_RESUMED n) true
  else
    let (share, s) := s.fresh
    let hold := share % (s.get SEW_LIM_GRAINS + 1)
    let s := s.modGx n (fun g => { g with
      kept := [], replay := [], fsn := 0, got := BitVec.allOnes 12, acked := 0, canResume := false
      wantNak := false, spill := 0, heldFrames := [], heldRecs := []
      ret0 := if n == 0 || n == 4 then 0 else hold
      ret1 := if n == 0 then 64 else 0 })
    ((s.put (GX_CRED_CR0 n) 0).put (GX_CRED_CR1 n) 0).putB (GX_PSTAT_RESUMED n) false

/-- The port enters UP at a version: sources 640 and 643 (R405, R408, R420). -/
def State.gxUp (s : State) (n v : Nat) (r : Round) : State :=
  let s := s.resumePort n r
  let s := s.modGx n (fun g => { g with ver := v, naks := 0, badHeaders := 0, txTime := [], lastData := s.tb.up })
  let s := (s.put (GX_PSTAT_STATE n) gxUP).put (GX_PSTAT_VER n) v
  let s := (s.put (PORT_STAT_VER n) v).bump (GX_PSTAT_UPCNT n)
  let s := s.raise (640 + 4 * n)
  if v < s.gxVmax n || s.bit (GX_PSTAT_HALF n) || s.get (GX_PSTAT_WIDTH n) != gxFull n then
    (s.raise (643 + 4 * n)).when (n == 0) State.sewFlow
  else s.when (n == 0) State.sewFlow

/-- The end of the exchange: UP at the version both offer, 1 at half rate, or REFUSED below VMIN
(R406, R408). -/
def State.linkUp (s : State) (n : Nat) (own : Option Round) (r : Round) : State :=
  let v := if s.bit (GX_PSTAT_HALF n) then 1 else min (s.gxOf n).vmax (max 1 r.vmax.toNat)
  if v < s.gxVmin n then
    ((s.put (GX_PSTAT_STATE n) gxREFUSED).put (GX_PSTAT_WIDTH n) 0).raise (641 + 4 * n)
  else
    let s := s.gxUp n v r
    if n == 0 && !s.isHead then
      (if v == 3 then s else s.measure own r).alignByLink
    else s

/-- NEGOTIATION_ROUND (R407, R409): a round arrives and is answered; the eighth ends the exchange.
On a spine at version 1 or 2 that is up, it is the handshake that a LINK_ALIGN asked for (R71). -/
def State.negotiationRound (s : State) (n : Nat) (r : Round) : State :=
  let own := (s.gxOf n).mine
  if s.gxState n == gxNEGOTIATE then
    let k := (s.gxOf n).rounds + 1
    let s := s.modGx n (fun g => { g with rounds := k, partner := some r })
    let s := s.put (GX_PSTAT_PVMAX n) r.vmax.toNat
    if k < 8 then s.sendRound n k (some r) else s.linkUp n own r
  else if n == 0 && s.gxLive 0 && s.get (PORT_STAT_VER 0) != 3 && s.tb.align.isSome &&
      !s.isHead then
    (s.measure own r).sendRound 0 (r.round.toNat + 1) (some r)
  else s

/-- RECOVER_COMPLETE: lock and one round bring the port back at its version (R405, R407, R410). It
measures nothing: R71 measures at link-up and at each LINK_ALIGN, and one round has no C2. -/
def State.recoverComplete (s : State) (n : Nat) (r : Round) : State :=
  if s.gxState n != gxRECOVER then s
  else
    let s := s.gxUp n (s.gxOf n).ver r
    s.when (n == 0 && !s.isHead) State.alignByLink

/-- UP or IDLE to RECOVER; this end sends its one round (R405, R407). -/
def State.enterRecover (s : State) (n : Nat) : State :=
  (s.gxMove n gxRECOVER).sendRound n 0 none

/-! ### Receiving frames (R395, R402, R403) -/

/-- Frames that an ACK acknowledges leave the kept ones; tells whether it made progress. -/
def GxPort.takeAck (g : GxPort) (ack : BitVec 12) : Bool × GxPort :=
  if g.kept.any (fun f => f.fsn == ack) then
    (true, { g with kept := (g.kept.dropWhile (fun f => f.fsn != ack)).tail, acked := ack
                    replay := g.replay.filter (fun f =>
                      (g.kept.takeWhile (fun x => x.fsn != ack)).all (fun x => x.fsn != f.fsn) &&
                        f.fsn != ack) })
  else (false, g)

/-- A frame is accepted in order: its ACK, and the credit its header returns (CREDIT_RETURN), with which
the spine port takes what Sewing has held back (R29). -/
def State.acceptFrame (s : State) (n : Nat) (f : Frame) : State :=
  let s := s.modGx n (fun g =>
    let (moved, g) := g.takeAck f.ack
    { g with got := f.fsn, wantNak := false, naks := if moved then 0 else g.naks })
  let s := (s.bump (GX_CRED_CR0 n) f.cred0.toNat).bump (GX_CRED_CR1 n) f.cred1.toNat
  s.when (n == 0) State.sewFlow

/-- The frame and every later one are discarded until the replay (R403). -/
def State.discardFrame (s : State) (n : Nat) : State :=
  s.modGx n (fun g => { g with wantNak := true })

/-- FRAME_RECEIVED (R395, R403, R405). A frame that comes a second time is ignored; the records,
packets and markers of an accepted frame, and a NAK in its header, come as steps of their own. -/
def State.frameReceived (s : State) (n : Nat) (f : Frame) : State :=
  if !s.gxLive n then s
  else
    let s := s.count (GX_CWCORR_COUNT n) f.corrected.toNat
    let s := s.count (GX_SYM_COUNT n) f.symbols.toNat
    let bad := if f.headerOk then 0 else (s.gxOf n).badHeaders + 1
    let s := s.modGx n (fun g => { g with badHeaders := bad })
    let s := if f.ok then s else (s.bump (GX_CWUNC_UNCORR n)).raiseLimited (642 + 4 * n)
    if 4 ≤ bad then s.enterRecover n
    else if !f.ok || !f.headerOk then s.discardFrame n
    else
      let ahead := (f.fsn - (s.gxOf n).got).toNat
      if ahead == 1 then s.acceptFrame n f
      else if 2048 ≤ ahead || ahead == 0 then s
      else s.discardFrame n

/-- NAK_RECEIVED (R403): replay from ACK + 1; the eighth in a row without progress recovers. -/
def State.nakReceived (s : State) (n : Nat) (ack : BitVec 12) : State :=
  if !s.gxLive n then s
  else
    let (moved, g) := (s.gxOf n).takeAck ack
    let naks := if moved then 1 else g.naks + 1
    let s := s.modGx n (fun _ => { g with naks := naks, replay := g.kept })
    if 8 ≤ naks then s.enterRecover n else s

/-! ### Sending frames (R395 to R403) -/

/-- Blocks of a frame that control blocks leave for data (R395, R399). -/
def dataBlocks (controls : Nat) : Nat := 79 - controls

/-- Records that may be begun in a frame: each needs credit for all of its grains and a free word
to start in (R402). Answers them, those left, the credit and the words left (negative: spilled). -/
def takeRecs (credit : Nat) : Int → List Rec → List Rec × List Rec × Nat × Int
  | room, [] => ([], [], credit, room)
  | room, r :: rest =>
    if room ≤ 0 || credit < recGrains r then ([], r :: rest, credit, room)
    else
      let (out, left, c, w) := takeRecs (credit - recGrains r)
        (room - (2 + r.payload.length : Nat)) rest
      (r :: out, left, c, w)

/-- The same for packets. -/
def takeCmds (credit : Nat) : Int → List (List W64) → List (List W64) × List (List W64) × Nat × Int
  | room, [] => ([], [], credit, room)
  | room, p :: rest =>
    if room ≤ 0 || credit < grainsOf p.length then ([], p :: rest, credit, room)
    else
      let (out, left, c, w) := takeCmds (credit - grainsOf p.length) (room - (p.length : Nat)) rest
      (p :: out, left, c, w)

/-- An injection action is counted and reported (R415). -/
def State.injected (s : State) (f : RF) : State := (s.bump f).raiseLimited 660

/-- An injection action (R413, R414). -/
inductive Injection where
  | none | drop | corrupt | reorder

/-- The first of drop, corrupt and reorder that a draw takes (R413), and the LFSR after the draws. -/
def State.drawInjection (s : State) (n : Nat) : Injection × State :=
  let draw (w : BitVec 16) (rate : Nat) : Bool :=
    rate != 0 && Config.injectHit w (BitVec.ofNat 16 rate)
  let w1 := Config.lfsr (s.gxOf n).lfsr
  if draw w1 (s.get (GX_INJR1_DROP n)) then (.drop, s.modGx n (fun g => { g with lfsr := w1 }))
  else
    let w2 := Config.lfsr w1
    if draw w2 (s.get (GX_INJR1_CORR n)) then (.corrupt, s.modGx n (fun g => { g with lfsr := w2 }))
    else
      let w3 := Config.lfsr w2
      (if draw w3 (s.get (GX_INJR2_REORD n)) then .reorder else .none,
        s.modGx n (fun g => { g with lfsr := w3 }))

/-- A record's source at a port: its unit and stream. -/
def portKey (r : Rec) : Nat := r.unit.toNat * 65536 + recKey r

/-- Inverts payload bit `k` of a record, taken modulo its length, and sets TRIAL. -/
def corruptRec (k : Nat) (r : Rec) : Rec :=
  let k := k % (64 * r.payload.length)
  { r with trial := true
           payload := r.payload.modify (k / 64) (fun w => w ^^^ ((1 : W64) <<< (k % 64))) }

/-- A record goes out, and after it those that a reorder held back (R414). -/
def State.passRec (s : State) (n : Nat) (r : Rec) : List Rec × State :=
  let g := s.gxOf n
  let marked := g.trialSrc.contains (portKey r) || !g.heldRecs.isEmpty
  ({ r with trial := r.trial || marked } :: g.heldRecs,
   s.modGx n (fun g => { g with
     heldRecs := [], trialSrc := g.trialSrc.filter (· != portKey r) }))

/-- Record-level injection (R414): the records that go out in place of one. -/
def State.injectRec (s : State) (n : Nat) (r : Rec) : List Rec × State :=
  let (act, s) := s.drawInjection n
  match act with
  | .drop =>
    ([], (s.modGx n (fun g => { g with trialSrc := portKey r :: g.trialSrc })).injected
      (GX_INJCNT_DROPPED n))
  | .corrupt =>
    if r.payload.isEmpty then s.passRec n r
    else
      let w := Config.lfsr (s.gxOf n).lfsr
      let s := s.modGx n (fun g => { g with lfsr := w })
      ((s.injected (GX_INJCNT_CORRUPTED n)).passRec n (corruptRec (Config.injectBit w) r))
  | .reorder =>
    ([], (s.modGx n (fun g => { g with
      heldRecs := { r with trial := true } :: g.heldRecs })).injected (GX_INJCNT2_REORDERED n))
  | .none => s.passRec n r

/-- The records of a frame as they go out. -/
def State.passRecs (s : State) (n : Nat) : List Rec → List Rec × State
  | [] => ([], s)
  | r :: rest =>
    let (a, s) := if s.bit (GX_INJ_EN n) && s.bit (GX_INJ_LEVEL n) then s.injectRec n r
      else s.passRec n r
    let (b, s) := s.passRecs n rest
    (a ++ b, s)

/-- A frame goes on the lanes, and after it those that a reorder held back (R413). -/
def State.putFrame (s : State) (n : Nat) (f : Frame) : State :=
  s.modGx n (fun g => { g with sent := g.sent ++ f :: g.heldFrames, heldFrames := [] })

/-- Frame-level injection (R413). -/
def State.injectFrame (s : State) (n : Nat) (f : Frame) : State :=
  if !(s.bit (GX_INJ_EN n) && !s.bit (GX_INJ_LEVEL n)) then s.putFrame n f
  else
    let (act, s) := s.drawInjection n
    match act with
    | .drop => s.injected (GX_INJCNT_DROPPED n)
    | .corrupt =>
      let k := max 1 (s.get (GX_INJ_NSYM n))
      (s.injected (GX_INJCNT_CORRUPTED n)).putFrame n
        (if k ≤ 15 then { f with corrected := 1, symbols := BitVec.ofNat 8 k }
         else { f with ok := false })
    | .reorder =>
      (s.modGx n (fun g => { g with heldFrames := f :: g.heldFrames })).injected
        (GX_INJCNT2_REORDERED n)
    | .none => s.putFrame n f

/-- Header fields that a frame takes as it is sent (R395): ACK, NAK and the credit returned. -/
def State.sendHeader (s : State) (n : Nat) (f : Frame) : Frame × State :=
  let g := s.gxOf n
  ({ f with
     ack := g.got, nak := g.wantNak, cred0 := BitVec.ofNat 16 (saturate 16 g.ret0)
     cred1 := BitVec.ofNat 16 (saturate 16 g.ret1) },
   s.modGx n (fun x => { x with
     wantNak := false, ret0 := g.ret0 - saturate 16 g.ret0, ret1 := g.ret1 - saturate 16 g.ret1 }))

/-- A new frame: trigger markers, oldest first, the time-transfer marker, and the records or
packets that begin in it (R396, R399, R402). -/
def State.newFrame (s : State) (n : Nat) : Frame × State :=
  let g := s.gxOf n
  let marks := g.txMarks.take 79
  let time := g.txTime.take (min 1 (79 - marks.length))
  let switch := if n != 0 && !g.txCmds.isEmpty then 1 else 0
  let room : Int := 4 * dataBlocks (marks.length + time.length + switch) - g.spill
  let recsIn := if n == 0 then s.sew.out else []
  let (recs, left, cr0, w) := takeRecs (s.get (GX_CRED_CR0 n)) room recsIn
  let (cmds, cleft, cr1, w) := takeCmds (s.get (GX_CRED_CR1 n)) w g.txCmds
  let s := if n == 0 then (s.modSew (fun x => { x with out := left })) else s
  let (recs, s) := s.passRecs n recs
  let s := (s.put (GX_CRED_CR0 n) cr0).put (GX_CRED_CR1 n) cr1
  let s := s.modGx n (fun x => { x with
    txMarks := g.txMarks.drop marks.length, txTime := g.txTime.drop time.length, txCmds := cleft
    spill := (-w).toNat
    lastData := if g.spill != 0 || !recs.isEmpty || !cmds.isEmpty then s.tb.up else g.lastData })
  ({ fsn := g.fsn, ack := 0, recs := recs, cmds := cmds, marks := marks, time := time }, s)

/-- FRAME_SEND (R395, R403): the next frame to be replayed, or a new one while fewer than 64 are
unacknowledged. A replayed frame carries no time-transfer marker (R400). -/
def State.frameSend (s : State) (n : Nat) : State :=
  if s.gxState n != gxUP then s
  else match (s.gxOf n).replay with
    | f :: rest =>
      let (f, s) := s.sendHeader n { f with time := [] }
      let s := s.modGx n (fun g => { g with replay := rest })
      (s.bump (GX_CWUNC_REPLAY n)).injectFrame n f
    | [] =>
      if 64 ≤ (s.gxOf n).kept.length then s
      else
        let (f, s) := s.newFrame n
        let (f, s) := s.sendHeader n f
        let s := s.modGx n (fun g => { g with fsn := g.fsn + 1, kept := g.kept ++ [f] })
        s.injectFrame n f

/-! ### Electrical idle (R412) -/

/-- The port has something to send. -/
def State.gxBusy (s : State) (n : Nat) : Bool :=
  let g := s.gxOf n
  !g.replay.isEmpty || !g.txMarks.isEmpty || !g.txTime.isEmpty || g.wantNak || g.ret0 != 0 ||
    g.ret1 != 0 || (n == 0 && !s.sew.out.isEmpty) || !g.txCmds.isEmpty || g.spill != 0

/-- IDLE_ENTRY: IDLE_T after the last data block the closing frame goes out, then the lanes idle. -/
def State.idleEntry (s : State) (n : Nat) : State :=
  if s.gxState n != gxUP || !s.bit (GX_PCFG_IDLE_EN n) || s.gxBusy n then s
  else
    let s := s.advanceUp (((s.gxOf n).lastData + 16 * max 1 (s.get (GX_PCFG_IDLE_T n)) : Nat) : Int)
    let s := s.frameSend n
    (s.put (GX_PSTAT_STATE n) gxIDLE).putB (GX_PSTAT_IDLE n) true

/-- IDLE_EXIT. -/
def State.idleExit (s : State) (n : Nat) : State :=
  if s.gxState n != gxIDLE then s
  else ((s.put (GX_PSTAT_STATE n) gxUP).putB (GX_PSTAT_IDLE n) false).bump (GX_LINK_EXITS n)

/-! ### Transmit lanes (R56, R391, R405, R406, R411, R412) -/

/-- What a transmit lane does. -/
inductive TxLane where
  /-- transmitter off, or its port listening -/
  | silent
  | training
  | frames
  /-- idle fill and markers, on lane 0 of a fore-edge port whose other lane idles -/
  | fill
  | electricalIdle
  deriving DecidableEq, Repr

/-- Lanes of a port (R390), and of a width as GX_PSTAT.WIDTH codes it. -/
def gxLanes (n : Nat) : Nat := if n == 0 then 4 else 2

def widthLanes (w : Nat) : Nat := if w == 3 then 4 else w

/-- Transmit lane `i` of port `n`. Lane 0 of a fore-edge port never idles while its link is up (R56); a
responder in DETECT listens (R406), and no transmitter starts before the tick clock has locked
(R411). -/
def State.txLane (s : State) (n i : Nat) : TxLane :=
  let st := s.gxState n
  let used := decide (i < widthLanes (s.get (GX_PSTAT_WIDTH n)))
  if !s.tb.started || gxLanes n ≤ i then .silent
  else if st == gxDETECT then (if s.gxInitiator n then .training else .silent)
  else if st == gxTRAIN || st == gxRECOVER then .training
  else if st == gxNEGOTIATE then (if used then .training else .silent)
  else if st == gxUP then (if used then .frames else .silent)
  else if st == gxIDLE then
    (if !used then .silent
     else if (n == 1 || n == 2 || n == 3) && i == 0 then .fill else .electricalIdle)
  else .silent

/-! ### Markers and registers -/

/-- LINK_MARKER_RECEIVED (R398, R400): acted on once, as soon as its CRC checks. -/
def State.linkMarker (s : State) (n : Nat) (m : TrigMark) (crcOk replayed : Bool) : State :=
  if !s.gxLive n || !crcOk || replayed then s
  else if m.kind == 1 then s.armMarker m n
  else if m.kind == 2 then s.fireMarker m n
  else if m.kind == 3 then s.disarmMarker m n
  else s

/-- A write to GX_PCFG (R405): EN starts and stops the port and ends REFUSED; RETRAIN sends it to
DETECT. -/
def State.writeGxPcfg (s : State) (n : Nat) (v : W32) : State :=
  let s := s.plainWrite (GX_PCFG n).addr v
  if !s.bit (GX_PCFG_EN n) then s.gxStop n
  else if s.gxState n == gxREFUSED then s.backToDetect n
  else
    let s := s.gxStart n
    if (GX_PCFG_RETRAIN n).read v == 1 then (s.gxRetrain n).put (GX_PSTAT_WIDTH n) 0 else s

/-- A write into the block at 020000h. A write of GX_INJ seeds the port's LFSR (R415). -/
def State.writeGrenyx (s : State) (a : Nat) (v : W32) : State :=
  if a == GX_CFG.addr then (s.plainWrite a v).foreCheck
  else
    let n := (a - 0x21000) / 0x100
    if a == (GX_PCFG n).addr then s.writeGxPcfg n v
    else if a == (GX_INJ n).addr then
      let s := s.plainWrite a v
      let seed := BitVec.ofNat 16 (max 1 (s.get (GX_INJ_SEED n)))
      s.modGx n (fun g => { g with lfsr := seed })
    else s.plainWrite a v

/-! ### The steps -/

/-- PARTNER_PATTERN_LOCK, R405, R406. -/
def execPartnerPatternLock (n : Fin 5) (half : Bool) (s : State) :
    Host.Outcome State Fault Refusal := .next (s.patternLock n.val half)

/-- TRAIN_COMPLETE, R391, R405. -/
def execTrainComplete (n : Fin 5) (lanes : BitVec 4) (s : State) :
    Host.Outcome State Fault Refusal := .next (s.trainComplete n.val lanes)

/-- TRAIN_TIMEOUT, R405. -/
def execTrainTimeout (n : Fin 5) (s : State) : Host.Outcome State Fault Refusal :=
  .next (if s.gxState n.val == gxTRAIN then
    (s.waitPort n.val (10 * msTicks)).backToDetect n.val else s)

/-- NEGOTIATION_ROUND, R407. -/
def execNegotiationRound (n : Fin 5) (r : Round) (s : State) : Host.Outcome State Fault Refusal :=
  .next (s.negotiationRound n.val r)

/-- ROUND_TIMEOUT, R405, R409. -/
def execRoundTimeout (n : Fin 5) (s : State) : Host.Outcome State Fault Refusal :=
  .next (if s.gxState n.val == gxNEGOTIATE then
    (s.waitPort n.val (msTicks / 10)).backToDetect n.val else s)

/-- FRAME_RECEIVED, R395, R403. -/
def execFrameReceived (n : Fin 5) (f : Frame) (s : State) : Host.Outcome State Fault Refusal :=
  .next (s.frameReceived n.val f)

/-- NAK_RECEIVED, R403. -/
def execNakReceived (n : Fin 5) (ack : BitVec 12) (s : State) : Host.Outcome State Fault Refusal :=
  .next (s.nakReceived n.val ack)

/-- FRAME_SEND, R395. -/
def execFrameSend (n : Fin 5) (s : State) : Host.Outcome State Fault Refusal :=
  .next (s.frameSend n.val)

/-- LINK_MARKER_RECEIVED, R400. -/
def execLinkMarkerReceived (n : Fin 5) (m : TrigMark) (crcOk replayed : Bool) (s : State) :
    Host.Outcome State Fault Refusal := .next (s.linkMarker n.val m crcOk replayed)

/-- RECOVER_COMPLETE, R405, R410. -/
def execRecoverComplete (n : Fin 5) (r : Round) (s : State) : Host.Outcome State Fault Refusal :=
  .next (s.recoverComplete n.val r)

/-- RECOVER_TIMEOUT, R405. -/
def execRecoverTimeout (n : Fin 5) (s : State) : Host.Outcome State Fault Refusal :=
  .next (if s.gxState n.val == gxRECOVER then
    (s.waitPort n.val msTicks).backToDetect n.val else s)

/-- IDLE_ENTRY, R412. -/
def execIdleEntry (n : Fin 5) (s : State) : Host.Outcome State Fault Refusal :=
  .next (s.idleEntry n.val)

/-- IDLE_EXIT, R412. -/
def execIdleExit (n : Fin 5) (s : State) : Host.Outcome State Fault Refusal :=
  .next (s.idleExit n.val)

/-- TRAINING_WINDOW_END, R406. -/
def execTrainingWindowEnd (n : Fin 5) (s : State) : Host.Outcome State Fault Refusal :=
  .next (s.nextWindow n.val)

end Sys2Proof.Machine
end

