-- ==== Sys2Proof/Machine/Events.lean ====
section
/-! DEFINITION. The event matrix (R454 to R461) and the pace counters (R19 to R22). A raise itself
is in Ops, which every block uses. -/
namespace Sys2Proof.Machine

/-- EVTN is driven low (R460): PIN_EN, and an enabled source routed to the pin is latched. -/
def State.evtnLow (s : State) : Bool :=
  s.domOn dCORE && s.unitState != usOff && s.unitState != usBoot && s.bit EV_CFG_PIN_EN &&
    (List.range 704).any (fun k => s.bit (EV_SRC_EN k) && s.bit (EV_SRC_PIN k) &&
      s.has (EV_LATCH_SRC (k / 32)) (k % 32))

/-- EV_SUM as a read shows it (R461). -/
def State.evSum (s : State) : W32 :=
  (List.range 22).foldl (fun w b => setBit w b (s.get (EV_LATCH_SRC b) != 0)) 0

/-- A write into the event matrix block: the register of a reserved source ignores it (R455). -/
def State.writeEvents (s : State) (a : Nat) (v : W32) : State :=
  if 0x44000 ≤ a && a < 0x44B00 && sourceReserved ((a - 0x44000) / 4) then s
  else s.plainWrite a v

/-- A source is raised by its block (R456). -/
def State.sourceRaise (s : State) (n : Nat) : State := s.raise n

/-- Effective floor of a pace region (R20). -/
def State.paceLimit (s : State) (n : Nat) : Nat :=
  s.get (PACE_FLOOR n) + 16 * s.get PACE_CTRL_MARGIN

/-- A region's window ends with a count of ring cycles (R19, R20). -/
def State.paceWindow (s : State) (n : Nat) (count : BitVec 16) : State :=
  let s := s.put (PACE_COUNT n) count.toNat
  let s := s.put (PACE_MIN_MIN n) (min (s.get (PACE_MIN_MIN n)) count.toNat)
  if count.toNat < s.paceLimit n then (s.mark PACE_LOW_BELOW n).raise (8 + n) else s

/-- PACE_WINDOW_END: all four regions while RUN is 1 (R19). The spec does not say when the first
window starts, nor what becomes of a window in progress at RUN = 0: no window start is held, and a
window may end at any time while RUN is 1 (DESIGN CHOICE, log entry 44). -/
def State.paceEnd (s : State) (c0 c1 c2 c3 : BitVec 16) : State :=
  if !s.domOn dCORE || !s.bit PACE_CTRL_RUN then s
  else (((s.paceWindow 0 c0).paceWindow 1 c1).paceWindow 2 c2).paceWindow 3 c3

/-- SOURCE_RAISE, R456. -/
def execSourceRaise (n : Fin 704) (s : State) : Host.Outcome State Fault Refusal :=
  .next (s.sourceRaise n.val)

/-- PACE_WINDOW_END, R19, R20. -/
def execPaceWindowEnd (c0 c1 c2 c3 : BitVec 16) (s : State) : Host.Outcome State Fault Refusal :=
  .next (s.paceEnd c0 c1 c2 c3)

end Sys2Proof.Machine
end

