-- ==== Sys2Proof/Machine/Guard.lean ====
section
/-! DEFINITION. Custody states (R464 to R468, R480, R482): what a change of CSTATE brings, MIRROR on
and off, self-diagnosis. The frames, copies and handovers are in Custody. -/
namespace Sys2Proof.Machine

/-- The unit is strapped as a partner of a pair (R464). -/
def State.isPair (s : State) : Bool := s.role != 0

/-- The mate port is UP or IDLE. -/
def State.mateUp (s : State) : Bool := s.gxLive 4

/-- The mirror frame in ticks: PER as it acts (R470). -/
def State.mirrorPer (s : State) : Nat :=
  if s.get MIR_CFG_PER == 0 then s.framePer else max 1250 (min 12500000 (s.get MIR_CFG_PER))

/-- Moment at which the mirror frame before the present one began (R470, R472). -/
def State.lastFrame (s : State) : Int :=
  let n := s.now.toNat / s.mirrorPer
  let last : Int := if n == 0 then ((2 ^ 48 - 1) / s.mirrorPer * s.mirrorPer : Nat) - 2 ^ 48
    else ((n - 1) * s.mirrorPer : Nat)
  s.tb.up - (s.now.toNat - last)

/-- DIAG_OK (R472), with the causes that TRIAL_CAUSE presents on self-diagnosis (R450). -/
def State.diagOk (s : State) : Bool :=
  s.rd FAULT_CAUSE.addr == 0 && s.cus.raisedAt.all (fun t => decide ((t : Int) < s.lastFrame)) &&
    s.atq.trialCause != some .pace && s.atq.trialCause != some .reference

/-- GUARDO runs in ACTIVE until a cause stops it (R464, R466, R474). -/
def State.guardRuns (s : State) : Bool := s.isPair && s.cstate == csACTIVE && !s.cus.holding

/-- The custody pins follow the state (R466). -/
def State.syncCustody (s : State) : State :=
  let g := s.guardRuns
  let p := s.cstate == csLOST
  (s.modPins (fun x => { x with guardo := g, pairLost := p })).putB CUS_STAT_PLOST p

/-- CUS_STAT as a read shows it (R482): HOLDS, DIAG_OK, GUARD and MATE are live, ROLE is the
strap. -/
def State.cusStat (s : State) : W32 :=
  let w := s.rd CUS_STAT.addr
  let w := CUS_STAT_ROLE.write (s.get STRAP_ROLE) w
  let w := CUS_STAT_HOLDS.write (b2n (s.cstate == csACTIVE)) w
  let w := CUS_STAT_DIAG_OK.write (b2n s.diagOk) w
  let w := CUS_STAT_GUARD.write (b2n (!s.cus.silent)) w
  CUS_STAT_MATE.write (b2n s.mateUp) w

/-- Publishes a mirror status record (R480). -/
def State.mirrorRecord (s : State) (hb : Tick) : State :=
  let p0 := packWord [(s.cstate, 60, 4), (s.get STRAP_ROLE, 58, 2), (b2n s.diagOk, 57, 1),
    (s.get CUS_STAT_REASON, 53, 4), (hb.toNat, 0, 48)]
  let p1 := packWord [(s.cus.copies.toNat, 32, 32), (s.get MIR_STAT_AGE, 16, 16),
    (s.get CUS_STAT_CLEAN, 0, 16)]
  let (t, s) := s.lagged s.now
  let (r, s) := s.makeRec 10 0 { tick := t } [p0, p1]
  s.publishWait 0xF2 r

/-- Sources of a change of custody state (R483): LOST left and entered, SYNC to STANDBY, control
taken and released. -/
def custodySources (old new : Nat) : List Nat :=
  let holds (c : Nat) : Bool := c == csACTIVE
  (if old == csLOST then [677] else []) ++ (if new == csLOST then [676] else []) ++
    (if new == csACTIVE then [673] else []) ++ (if holds old && new != csSOLO then [674] else []) ++
    (if old == csSYNC && new == csSTANDBY then [684] else [])

/-- Every pin is let go as in a standby (R48, R475, R252, R281, R349). -/
def State.releasePins (s : State) : State :=
  let s := (s.patternOff.lightStop.markersStop).modPins (fun x => { x with trigout := false })
  (s.modTrg (fun x => { x with pulses := [], pulseEnd := none })).refreshPorts.refreshPwf

/-- Changes CSTATE (R467): pins, sources and the mirror status record follow. -/
def State.setCstate (s : State) (c : Nat) (hb : Tick := 0) : State :=
  let old := s.cstate
  if old == c then s
  else
    let was := s.standby
    let s := (s.put CUS_STAT_CSTATE c).modCus (fun x => { x with
      cleanStandby := 0, asked := x.asked && c != csACTIVE && c != csSYNC
      seekFrom := if c == csSEEK then s.tb.up else x.seekFrom })
    let s := s.syncCustody
    let s := if !was && s.standby then s.releasePins else s
    (s.raiseAll (custodySources old c)).mirrorRecord hb

/-- At least one AO pin drives, PAT is not OFF, or an LS sink is on (R467). -/
def State.outputsLive (s : State) : Bool :=
  (List.range 32).any (fun n => decide (aoCLEAR ≤ s.aoState n)) || s.patState != paOFF ||
    (List.range 8).any s.strLit

/-- MIRROR switches on in SOLO (R467). -/
def State.mirrorOn (s : State) : State :=
  if s.cstate != csSOLO then s
  else
    let live := s.outputsLive && s.cus.silent
    let s := s.modCus (fun x => { x with
      joined := false, hb := none, outgoing := none, planned := false, taking := false
      silentTake := false, giveUp := false, copy := none, copyAt := none, sending := none
      boundary := none, copies := 0, acked := false, aged := false, orphan := none
      partnerStat := 0 })
    (s.put MIR_STAT_AGE 0xFFFF).setCstate (if live then csACTIVE else csSEEK)

/-- MIRROR switches off: SOLO. A unit that was a standby keeps its outputs high impedance until
they are written (R49, R467). -/
def State.mirrorOff (s : State) : State :=
  let was := s.standby
  let s := s.modCus (fun x => { x with
    joined := false, hb := none, outgoing := none, planned := false, taking := false
    silentTake := false, giveUp := false, holding := false, orphan := none, sending := none
    released := if was then BitVec.allOnes 32 else x.released })
  s.setCstate csSOLO

/-- MIRROR bits of a MODE_SET that cannot be applied (R464, R469). -/
def State.mirrorCheck (s : State) (select value : Nat) : Option Nat :=
  if !select.testBit mMIRROR then none
  else if value.testBit mMIRROR then (if s.isPair then none else some 0x80)
  else if s.cstate == csACTIVE && s.cus.joined then some 0x89
  else none

end Sys2Proof.Machine
end

