-- ==== Sys2Proof/Machine/Modes.lean ====
section
/-! DEFINITION. Unit states, the mode mask and power requests (R30 to R49, R437, R487 to R489):
MODE_SET and DOMAIN, draining, entry to FAULT. -/
namespace Sys2Proof.Machine

/-! ### Pending commands (R429, R432, R477) -/

/-- Every pending command that `sel` picks ends with a status, unless its happening has come. -/
def State.endPending (s : State) (status detail : Nat) (sel : Pend → Bool) : State :=
  (s.modAtq (fun x => { x with pend := x.pend.map (fun p =>
    if sel p && !p.waits.isReady then { p with waits := .ready status detail 0 0 [] } else p) }))

/-- What the blocks keep for a command that has ended is let go: stalls, calibrations, a
LINK_ALIGN, an ARM. -/
def State.dropJobs (s : State) : State :=
  let s := s.loam.queues.foldl (fun s e => if e.2.stall.isSome then
    (s.setQueue e.1 { s.queue e.1 with stall := none }).putB (Q_FLAG_STALLED e.1) false else s) s
  let s := (List.range 16).foldl (fun s p => s.modSp p (fun x => { x with cal := none })) s
  ((s.modTb (fun x => { x with align := none })).modTrg (fun x => { x with
    arms := [], fires := x.fires.map (fun f => { f with tags := [] }) }))

/-! ### FAULT (R31, R32) -/

/-- Enters FAULT; `lightRail` when the cause is a rail that feeds the LIGHT domain. -/
def State.enterFault (s : State) (lightRail : Bool) : State :=
  let keep := s.bit MODE_CFG_LIGHT_KEEP && s.modeOn mLIGHT && !lightRail && !s.standby
  let s := (s.markersStop.endPending stStateConflict 4 (fun _ => true)).dropJobs
  let s := s.sieveListen false
  let s := (s.patternOff.loopsOff).disarmSet
  let s := s.dmDiscardAll
  let s := ((s.put MODE_STATUS_MASK 0).put MODE_STATUS_DRAINING 0).put MODE_STATUS_PENDING 0
  let s := s.putB MODE_STATUS_LKEPT keep
  let s := if keep then s else s.lightStop
  ((s.enterState usFault).raise 3).refreshPorts.refreshPwf

/-- A fault cause is latched: an active partner's self-diagnosis sees it first (R32), any other
unit in READY or ACTIVE enters FAULT (R30). -/
def State.faultCause (s : State) (f : RF) (cause : Cause) (lightRail : Bool := false) : State :=
  let s := (s.putB f true).modCus (fun x => { x with frameClean := false })
  if s.cstate == csACTIVE then (s.modCus (fun x => { x with causes := x.causes ++ [cause] }))
  else if s.readyOrActive then s.enterFault lightRail
  else s

/-! ### Domains that modes need (R37, R40) -/

/-- Domains of a loop input (R40, R289, R290). -/
def inputDomains (ty sel : Nat) : List Nat :=
  if ty == 0 then [faDomain sel]
  else if ty == 1 then [dSP (sel / 8), dPCV]
  else if ty == 2 then [dDEMOD]
  else []

/-- Domains of the inputs of every enabled loop. -/
def State.loopDomains (s : State) : List Nat :=
  ((List.range 16).map (fun m =>
    if !s.bit (LOOP_CFG_EN m) then []
    else inputDomains (s.get (LOOP_IN_ITYPE m)) (s.get (LOOP_IN_ISEL m)) ++
      (if s.bit (LOOP_STRUCT_FFEN m) then
        inputDomains (s.get (LOOP_FFIN_ITYPE m)) (s.get (LOOP_FFIN_ISEL m)) else []))).flatten

/-- FA and TK groups that hold claimed channels (R40, R42). -/
def State.claimDomains (s : State) : List Nat :=
  let fa := (List.range 32).filter (fun c => s.has CLAIM_FA_CH c)
  let hit := (List.range 32).filter (fun c => s.has CLAIM_HIT_CH c)
  fa.map faDomain ++ fa.map tkDomain ++ hit.map (fun c => tkDomain (32 + c))

/-- Domains that mode `n` switches on (R40). -/
def State.modeDomains (s : State) (n : Nat) : List Nat :=
  if n == mSURVEY then [dSP 0, dSP 1, dPCV]
  else if n == mLISTEN then
    (List.range 4).map dTK ++ (List.range 4).map dFA ++ [dCAPMEM]
  else if n == mPROBE then [dPAT, dDEMOD] ++ s.claimDomains
  else if n == mREGULATE then [dCTRL, dAO 0, dAO 1] ++ s.loopDomains
  else if n == mLIGHT then [dLIGHT]
  else [dLMATE]

/-- Modes of a mask, as numbers. -/
def modesOf (m : Nat) : List Nat := (List.range 6).filter (fun n => m.testBit n)

/-- The lowest mode that is on and needs a domain (R38). -/
def State.neededBy (s : State) (d : Nat) : Option Nat :=
  (modesOf (s.get MODE_STATUS_MASK)).find? (fun n => (s.modeDomains n).contains d)

/-! ### Modes on and off (R46) -/

/-- Channels newly exclusive to PROBE whose fired capture completes first (R46). -/
def State.waitingClaims (s : State) : W32 :=
  (List.range 32).foldl (fun w c => setBit w c (s.has CLAIM_FA_CH c && !s.shared c &&
    s.trg.gaths.any (fun g => g.cuts.contains (BitVec.ofNat 5 c)))) 0

/-- Exclusive channels leave the Sieve or come back to it (R42, R46, R359). -/
def State.sieveClaims (s : State) (on : Bool) : State :=
  (List.range 32).foldl (fun s c =>
    if s.has CLAIM_FA_CH c && !s.shared c then (if on then s.sieveStart c else s.sieveStop c)
    else s) s

/-- What switching mode `n` on brings. -/
def State.modeStarts (s : State) (n : Nat) : State :=
  if n == mSURVEY then
    (List.range 8).foldl (fun s k => s.modPc k (fun x => { x with scan := 0 })) s
  else if n == mLISTEN then
    ((s.modTrg (fun x => { x with since := s.tb.up }))).sieveListen true
  else if n == mPROBE then
    let s := s.when (s.modeOn mLISTEN) (fun s => s.sieveClaims false)
    ((s.modTrg (fun x => { x with claimWait := s.waitingClaims })).patternProbeOn).dmProbeOn
  else if n == mLIGHT then s.lightOn
  else if n == mMIRROR then s.mirrorOn
  else s

/-- What switching mode `n` off begins. -/
def State.modeStops (s : State) (n : Nat) : State :=
  if n == mLISTEN then (s.sieveListen false).disarmSet
  else if n == mPROBE then s.patternProbeOff
  else if n == mREGULATE then
    (List.range 16).foldl (fun s m =>
      if s.bit (LOOP_CFG_BIND m) && s.bit (LOOP_CFG_EN m) && s.loopState m != loRUN &&
          s.loopState m != loFROZEN then s.aoExit (s.get (LOOP_CFG_AO m))
      else s) s
  else if n == mLIGHT then s.lightOff
  else if n == mMIRROR then s.mirrorOff
  else s

/-- READY or ACTIVE by the mask and the draining modes (R30). -/
def State.settleState (s : State) : State :=
  if !s.readyOrActive then s
  else s.enterState
    (if s.get MODE_STATUS_MASK == 0 && s.get MODE_STATUS_DRAINING == 0 then usReady else usActive)

/-- Puts a mask in force (R34, R39, R46). -/
def State.applyMask (s : State) (new : Nat) (drain : Bool) : State :=
  let old := s.get MODE_STATUS_MASK
  let ons := (modesOf new).filter (fun n => !old.testBit n)
  let offs := (modesOf old).filter (fun n => !new.testBit n)
  let s := s.put MODE_STATUS_MASK new
  let s := if drain then offs.foldl (fun s n => s.mark MODE_STATUS_DRAINING n) s else s
  let s := s.settleState
  let s := offs.foldl State.modeStops s
  let s := ons.foldl State.modeStarts s
  s.refreshPorts.refreshPwf

/-- The mask after SELECT and VALUE (R34). -/
def maskAfter (old select value : Nat) : Nat :=
  (modesOf 63).foldl (fun m n =>
    if (if select.testBit n then value else old).testBit n then m + 2 ^ n else m) 0

/-! ### Requests in progress (R37, R437, R487) -/

/-- The domain is on and stays on. -/
def State.domSettled (s : State) (d : Nat) (on : Bool) : Bool :=
  if on then s.domOn d && !s.falling d else !s.domOn d && !s.rising d && !s.pwr.again.contains d

/-- Domains that a change of the mask still waits for. -/
def State.maskWaits (s : State) (new : Nat) : List Nat :=
  (((modesOf new).filter (fun n => !s.modeOn n)).map s.modeDomains).flatten.filter
    (fun d => !s.domSettled d true)

/-- Bits of the domains that are on. -/
def State.domBits (s : State) : W64 := packWord [(s.get DOM_STAT_ON, 0, 26)]

/-- A pending MODE_SET or DOMAIN ends once its domains have reached their states (R39, R437). -/
def State.settlePend (s : State) (p : Pend) : State :=
  match p.waits with
  | .modeSet none sel val _ =>
    let new := maskAfter (s.get MODE_STATUS_MASK) sel.toNat val.toNat
    if s.standby then (s.applyMask 0 false).settleState.answer p.tag stOk 0
    else if (s.maskWaits new).isEmpty then (s.applyMask new true).answer p.tag stOk 0
    else s
  | .domain sel val failed =>
    if (List.range 26).all (fun k => !sel.getLsbD k || failed == some (k + 1) ||
        s.domSettled (k + 1) (val.getLsbD k)) then
      match failed with
      | some d => s.answer p.tag stDataError d [s.domBits]
      | none => s.answer p.tag stOk 0 [s.domBits]
    else s
  | _ => s

def State.settleRequests (s : State) : State := s.atq.pend.foldl State.settlePend s

/-- Domains of the modes that a change switches on start to come up (R37, R487). -/
def State.askModes (s : State) (new : Nat) : State :=
  ((((modesOf new).filter (fun n => !s.modeOn n)).map s.modeDomains).flatten).foldl State.askOn s

/-! ### Commands -/

/-- A change waits for its apply tick, or for its domains. -/
def State.changePending (s : State) : Bool :=
  s.atq.pend.any (fun p => match p.waits with
    | .modeSet .. => true
    | _ => false)

/-- MODE_SET (R34 to R39, R49): how its own part ends. A MODE_SET without AT is settled by the
caller once it is pending. -/
def State.modeSetCmd (s : State) (c : Cmd) : CmdEnd :=
  let p0 := param c 0
  let sel := bits p0 13 8
  let val := bits p0 5 0
  let at_ := bitOf p0 63
  let t : Tick := BitVec.ofNat 48 (bits (param c 1) 47 0)
  if c.p.length == 0 || 2 < c.p.length || (at_ && c.p.length == 1) then .refuse s stBadParam 6
  else if s.standby && (sel != 32 || val.testBit mMIRROR) then .refuse s stRefused 0
  else if at_ && tickLt s.now t && decide (2 ^ 31 < (t - s.now).toNat) then .refuse s stBadParam 0
  else if s.changePending || (List.range 6).any (fun n => sel.testBit n && s.draining n) then
    .refuse s stBusy 0
  else if at_ && tickLt t s.now then .refuse s stTimedOut 0
  else match s.mirrorCheck sel val with
    | some d => .refuse s stStateConflict d
    | none =>
      if s.standby && !at_ then .ok ((s.applyMask 0 false).settleState)
      else if at_ then
        .pending (.modeSet (some t) (BitVec.ofNat 6 sel) (BitVec.ofNat 6 val) false)
          (s.put MODE_STATUS_PENDING sel)
      else
        .pending (.modeSet none (BitVec.ofNat 6 sel) (BitVec.ofNat 6 val) false)
          (s.askModes (maskAfter (s.get MODE_STATUS_MASK) sel val))

/-- Domains that DOMAIN never switches off (R437). -/
def State.domFixed (s : State) (d : Nat) : Bool :=
  d ≤ dLOAM || d == dPLL || d == dLSPINE ||
    (d == dLFORE && (s.bit GX_CFG_FSCAN || [1, 2, 3].any (fun n => s.gxLive n)))

/-- DOMAIN (R38, R437, R487, R489). Where several modes need the named domains, DETAIL shows the lowest
mode that needs the lowest of them (DESIGN CHOICE, log entry 44). -/
def State.domainCmd (s : State) (c : Cmd) : CmdEnd :=
  let sel := BitVec.ofNat 26 (bits (param c 0) 57 32)
  let val := BitVec.ofNat 26 (bits (param c 0) 25 0)
  let ups := (setBits (sel &&& val)).map (fun k => k + 1)
  let downs := (setBits (sel &&& ~~~val)).map (fun k => k + 1)
  if downs.any s.domFixed then .refuse s stBadParam 1
  else match (downs.filterMap s.neededBy).head? with
    | some n => .refuse s stStateConflict (0x20 + n)
    | none =>
      let s := ups.foldl (fun s d => (s.askOn d).mark DOM_CMD_CMDON (d - 1)) s
      let s := downs.foldl (fun s d => (s.askOff d).unmark DOM_CMD_CMDON (d - 1)) s
      .pending (.domain sel val none) s

/-! ### Apply tick and drain end (R39, R46, R489) -/

/-- MODE_APPLY_TICK: the change at its tick goes ahead. -/
def State.modeApply (s : State) : State :=
  match s.atq.pend.find? (fun p => match p.waits with
    | .modeSet (some _) _ _ _ => true
    | _ => false) with
  | some { tag := tag, waits := .modeSet (some t) sel val f, .. } =>
    let s := (s.advanceTo t).put MODE_STATUS_PENDING 0
    let s := (s.modAtq (fun x => { x with pend := x.pend.map (fun p =>
      if p.tag == tag && !p.waits.isReady then { p with waits := .modeSet none sel val f } else p) }))
    let new := maskAfter (s.get MODE_STATUS_MASK) sel.toNat val.toNat
    (if s.standby then s else s.askModes new).settleRequests
  | _ => s

/-- A conversion that runs for SURVEY alone is still to be completed (R46). -/
def State.surveyConverts (s : State) : Bool :=
  (List.range 16).any (fun p => s.portState p == psCONVERT && (s.scanList (p / 2)).contains p &&
    !s.loopPort p && !s.tempPort p)

/-- The last item of mode `n` in the table of R46 is done: SURVEY's running conversion; LISTEN's
captures and hits; PROBE's pattern engine and gates; REGULATE's loops; LIGHT's boost and marker
frames. MIRROR drains at a frame's end. -/
def State.workDone (s : State) (n : Nat) : Bool :=
  if n == mSURVEY then !s.surveyConverts
  else if n == mLISTEN then s.trg.gaths.all (fun g => g.cuts.isEmpty) && !s.hitsLeft false
  else if n == mPROBE then s.patState == paOFF && s.gatesClosed
  else if n == mREGULATE then
    (List.range 16).all (fun m => s.loopState m != loRUN && s.loopState m != loFROZEN)
  else if n == mLIGHT then s.lightDrained
  else true

/-- Mode `n` has drained. -/
def State.modeDrained (s : State) (n : Nat) : State :=
  if !s.draining n || !s.workDone n then s
  else
    let s := s.when (n == mPROBE) State.dmProbeOff
    let s := s.when (n == mLISTEN || n == mPROBE) (fun s => s.closeOwned (n == mPROBE))
    let s := s.unmark MODE_STATUS_DRAINING n
    let s := s.when (n == mPROBE && s.modeOn mLISTEN) (fun s => s.sieveClaims true)
    s.when (n == mPROBE) (fun s => (s.modTrg (fun x => { x with claimWait := 0 })))

/-- AUTO_OFF: domains that no mode in force or draining needs and DOMAIN did not switch on
(R489). -/
def State.autoOff (s : State) : State :=
  if !s.bit MODE_CFG_AUTO_OFF then s
  else
    let live := (List.range 6).filter (fun n => s.modeLive n)
    ([26] ++ ((List.range 18).map (fun k => k + 5)).reverse).foldl (fun s d =>
      if s.domOn d && !s.has DOM_CMD_CMDON (d - 1) &&
          !live.any (fun n => (s.modeDomains n).contains d) then s.askOff d
      else s) s

/-- MODE_DRAIN_END: source 1 when the last mode has drained. -/
def State.drainEnd (s : State) (modes : BitVec 6) : State :=
  let was := s.get MODE_STATUS_DRAINING
  let s := (setBits modes).foldl State.modeDrained s
  if s.get MODE_STATUS_DRAINING == was then s
  else
    let s := s.refreshPorts.refreshPwf.autoOff
    let s := s.when (s.get MODE_STATUS_DRAINING == 0) (fun s => s.raise 1)
    s.settleState

/-- MODE_APPLY_TICK, R36, R39. -/
def execModeApplyTick (s : State) : Host.Outcome State Fault Refusal := .next s.modeApply

/-- MODE_DRAIN_END, R39, R46. -/
def execModeDrainEnd (modes : BitVec 6) (s : State) : Host.Outcome State Fault Refusal :=
  .next (s.drainEnd modes)

end Sys2Proof.Machine
end

