-- ==== Sys2Proof/Machine/Custody.lean ====
section
/-! DEFINITION. Mirror frames, copies, handovers and the guard (R467 to R480), and the custody
commands PAIR, YIELD and RECLAIM. -/
namespace Sys2Proof.Machine

/-! ### Mirror frames (R470) -/

/-- The first frame boundary at or after a tick; past the wrap it is count 0. -/
def State.boundaryFrom (s : State) (t : Tick) : Tick :=
  let n := (t.toNat + s.mirrorPer - 1) / s.mirrorPer * s.mirrorPer
  if n < 2 ^ 48 then BitVec.ofNat 48 n else 0

/-- The next frame boundary that has not been taken yet. -/
def State.nextBoundary (s : State) : Tick :=
  s.boundaryFrom (if s.cus.boundary == some s.now then s.now + 1 else s.now)

/-- HB for a request made now: the first boundary at least 1,250 ticks ahead (R474). -/
def State.handoverTick (s : State) : Tick := s.boundaryFrom (s.now + 1250)

/-- Schedules a handover: CUS_HB records its boundary (R474). -/
def State.setHb (s : State) (hb : Tick) : State :=
  ((s.put CUS_HB_LO_TICK_L (hb.toNat % 2 ^ 32)).put CUS_HB_HI_TICK_H (hb.toNat / 2 ^ 32)).modCus
    (fun x => { x with hb := some hb })

/-! ### The copy (R471) -/

def biquadWords (q : Biquad) : List W32 := [q.x1, q.x2, q.y1, q.y2].map (BitVec.ofInt 32)

/-- The sections that the words of a loop copy spell. -/
def biquadsOf : List W32 → List Biquad
  | x1 :: x2 :: y1 :: y2 :: rest =>
    { x1 := x1.toInt, x2 := x2.toInt, y1 := y1.toInt, y2 := y2.toInt } :: biquadsOf rest
  | _ => []

/-- A loop as a copy at boundary `b` carries it (R310): all 76 slots in the first copy, which have no
sample start of their own and carry the boundary, else the writes since. -/
def State.loopCopy (s : State) (b : Tick) (m : Nat) : LoopCopy :=
  let l := s.ceOf m
  { state := BitVec.ofNat 3 (s.loopState m), cgen := BitVec.ofNat 16 (s.get (LOOP_STAT_CGEN m))
    integ := l.vals.integ, e1 := BitVec.ofInt 32 l.vals.e1, out := BitVec.ofInt 32 l.vals.out
    sections := (l.vals.sections ++ l.vals.ff).flatMap biquadWords
    slots := if !s.cus.acked then (List.range 76).map (fun k =>
        ((BitVec.ofNat 7 k, BitVec.ofNat 5 (s.coef m k).2, s.rd (COEF_VAL_VALUE m k).addr), b))
      else l.mirror.filter (fun e => tickLt e.2 b) }

/-- The accumulator of the pattern engine's NCO at the start of a tick. -/
def State.accAt (s : State) (b : Tick) : W32 :=
  let rate := match s.pat.cur with
    | some o => o.rate
    | none => 0
  s.pat.acc + BitVec.ofNat 32 ((b - s.pat.ref).toNat * s.inc rate)

/-- Types whose sequence counters the mirror never copies: epoch markers, replies, mirror status
records (R358). -/
def copiedStream (key : Nat) : Bool := key / 256 != 0 && key / 256 != 8 && key / 256 != 10

/-- The copy as at boundary `b`. -/
def State.snapshotAt (s : State) (b : Tick) : MirrorCopy :=
  let o : VecOut := s.pat.cur.getD {}
  { boundary := b, stat := s.cusStat, mask := BitVec.ofNat 6 (s.get MODE_STATUS_MASK)
    loops := (List.range 16).map (fun m => (BitVec.ofNat 4 m, s.loopCopy b m))
    ao := (List.range 32).map (fun n => (BitVec.ofNat 5 n, BitVec.ofNat 16 (s.get (AO_DATA_CODE n))))
    patState := BitVec.ofNat 3 s.patState, patSeg := o.seg, patPass := o.pass, patVec := o.num
    patRep := o.rep, patAcc := s.accAt b
    patReq := if s.bit PAT_BR_PEND then some (BitVec.ofNat 10 (s.get PAT_BR_TARGET)) else none
    patLoop := o.pass, passesDone := s.pat.passes
    armState := BitVec.ofNat 2 s.armState, armRoot := s.armRoot, armTick := s.armTick
    members := BitVec.ofNat 64 (s.get TRG_MEM_HI_MEM_H * 2 ^ 32 + s.get TRG_MEM_LO_MEM_L)
    armOnce := s.bit TRG_STAT_ONCE, hold := BitVec.ofNat 16 (s.get TRG_SET_HOLD)
    settle := BitVec.ofNat 14 (s.get TRG_SET_SETTLE)
    seqs := (s.ev.seqs.filter (fun e => copiedStream e.1)).map (fun e => (BitVec.ofNat 12 e.1, e.2))
    tbStatus := s.rd TB_STATUS.addr }

/-- A copy is abandoned: MISSED, and source 681 at most once per 12,500 ticks (R471, R483). -/
def State.missCopy (s : State) : State :=
  ((s.modCus (fun x => { x with sending := none })).bump MIR_STAT_MISSED).raiseLimited 681

/-- A copy is complete (R471): AGE 0, COPIES. -/
def State.copyDone (s : State) (b : Tick) : State :=
  let s := (s.modCus (fun x => { x with
    copyAt := some (s.elapsedAt b), copies := x.copies + 1, copied := true, acked := true
    aged := false }))
  (s.put MIR_STAT_AGE 0).count MIR_CNT_COPIES

/-- The active's copy has been acknowledged: the slot writes it carried have been mirrored, and
their commands may be answered (R306). -/
def State.copyAcked (s : State) (c : MirrorCopy) : State :=
  let passes := match s.cus.sending with
    | some x => x.passesDone.length
    | none => 0
  let s := (s.copyDone c.boundary).modCus (fun x => { x with sending := none })
  let s := (s.modPat (fun x => { x with passes := x.passes.drop passes }))
  let s := (List.range 16).foldl (fun s m => s.modCe m (fun l => { l with
    mirror := l.mirror.filter (fun e => tickLe c.boundary e.2) })) s
  let s := (s.modAtq (fun x => { x with pend := x.pend.map (fun p => match p.waits with
    | .coeff ls left done _ =>
      if left.all (fun e => e.2 == 0) && done.all (fun e => tickLt e.2.1 c.boundary) then
        { p with waits := .coeff ls left done true }
      else p
    | _ => p) }))
  s.coeffReplies

/-- One loop of an applied copy (R310). -/
def State.applyLoop (s : State) (e : BitVec 4 × LoopCopy) : State :=
  let m := e.1.toNat
  let c := e.2
  let bs := biquadsOf c.sections
  let s := c.slots.foldl (fun s w => s.putSlot m w.1.1.toNat w.1.2.1.toNat w.1.2.2) s
  let s := (s.setLoop m c.state.toNat).put (LOOP_STAT_CGEN m) c.cgen.toNat
  let s := (s.put (LOOP_OUTV_OUT m) c.out.toNat).put (LOOP_INTG_I m)
    (asCode 32 (writeBack (c.integ, 0)).1)
  s.modCe m (fun l => { l with
    vals := { l.vals with
      integ := c.integ, e1 := c.e1.toInt, out := c.out.toInt, sections := bs.take 8
      ff := (bs.drop 8).take 4 } })

/-- The arm state of an applied copy (R147); an ARM that the unit has not held yet begins a new
set. -/
def State.applyArm (s : State) (c : MirrorCopy) : State :=
  let same := s.armState != armIDLE && s.armTick == c.armTick && s.armRoot == c.armRoot
  let s := s.when (!same && c.armState.toNat != armIDLE) (fun s => s.newSet c.armTick)
  let s := ((s.put TRG_STAT_ARMST c.armState.toNat).put TRG_STAT_ROOT c.armRoot.toNat).putB
    TRG_STAT_ONCE c.armOnce
  let s := (s.put TRG_SET_HOLD c.hold.toNat).put TRG_SET_SETTLE c.settle.toNat
  let s := (s.put TRG_ARMT_LO_TICK_L (c.armTick.toNat % 2 ^ 32)).put TRG_ARMT_HI_TICK_H
    (c.armTick.toNat / 2 ^ 32)
  (s.put TRG_MEM_LO_MEM_L (c.members.toNat % 2 ^ 32)).put TRG_MEM_HI_MEM_H
    (c.members.toNat / 2 ^ 32)

/-- The mode mask of an applied copy (R48): modes whose domains are still coming up wait for a
later frame; a mode that the active has switched off leaves at once, without DRAINING or the work that
ends a drain (DESIGN CHOICE, log entry 44). -/
def State.followMask (s : State) (mask : Nat) : State :=
  if !s.readyOrActive then s
  else
    let new := maskAfter 0 63 (mask ||| 32)
    let s := s.askModes new
    let ok := (modesOf new).filter (fun n => s.modeOn n ||
      (s.modeDomains n).all (fun d => s.domSettled d true))
    s.applyMask (ok.foldl (fun m n => m + 2 ^ n) 0) false

/-- A standby applies a complete copy in one piece (R471). -/
def State.applyCopy (s : State) (c : MirrorCopy) : State :=
  let s := s.followMask c.mask.toNat
  let s := c.loops.foldl State.applyLoop s
  let s := c.ao.foldl (fun s e =>
    if s.aoReady e.1.toNat then s.put (AO_DATA_CODE e.1.toNat) e.2.toNat else s) s
  let s := s.releaseStream (c.passesDone.foldl (fun n g => n + s.segLength g.toNat) 0)
  let s := s.applyArm c
  let s := s.when (!s.cus.acked) (fun s => s.modEv (fun x => { x with
    seqs := x.seqs.filter (fun e => !copiedStream e.1) }))
  let s := c.seqs.foldl (fun s e =>
    if copiedStream e.1.toNat then s.setSeq e.1.toNat e.2 else s) s
  (s.modCus (fun x => { x with copy := some c })).copyDone c.boundary

/-- COPY_COMPLETE: at the active the acknowledgement of the copy in progress, at a standby a copy
received; one that does not check is abandoned (R471). -/
def State.copyComplete (s : State) (c : MirrorCopy) : State :=
  let s := (s.modCus (fun x => { x with partnerStat := c.stat }))
  if s.cstate == csACTIVE then
    match s.cus.sending with
    | some x =>
      if x.boundary != c.boundary || s.cus.holding then s
      else if c.ok then s.copyAcked c
      else s.missCopy
    | none => s
  else if s.cstate == csSYNC || s.cstate == csSTANDBY then
    if !c.ok then s.missCopy
    else
      let s := s.applyCopy c
      if s.cstate == csSYNC then s.setCstate csSTANDBY else s
  else s

/-! ### Control changes hands (R474 to R477) -/

/-- An active plans or makes a handover: HB, the notice, source 672. -/
def State.planHandover (s : State) (reason : Nat) (planned : Bool) : State :=
  let s := (s.modCus (fun x => { x with
    outgoing := some (BitVec.ofNat 4 reason), planned := planned }))
  (s.setHb s.handoverTick).raise 672

/-- A pending command that a standby refuses under R436 or R49; it ends at HB (R477). -/
def standbyRefuses (p : Pend) : Bool :=
  [0x40, 0x41, 0x42, 0x61, 0x62, 0x71, 0x72, 0x73].contains p.opcode.toNat ||
    (match p.waits with
      | .modeSet _ sel val _ => sel != 32 || val.getLsbD mMIRROR
      | _ => false)

/-- Answers the commands that wait for a handover boundary. -/
def State.answerHandover (s : State) (op status detail : Nat) (body : List W64) : State :=
  s.atq.pend.foldl (fun s p => match p.waits with
    | .handover => if p.opcode.toNat == op then s.answer p.tag status detail body else s
    | _ => s) s

def hbBody (hb : Tick) : List W64 := [packWord [(hb.toNat, 16, 48)]]

/-- At HB the outgoing unit releases its pins (R475, R477). -/
def State.giveControl (s : State) (hb : Tick) (reason : BitVec 4) : State :=
  let planned := s.cus.planned
  let s := s.endPending stRefused 0x81 standbyRefuses
  let s := s.when (!s.changePending) (fun s => s.put MODE_STATUS_PENDING 0)
  let s := (s.modAtq (fun x => { x with pend := x.pend.filter (fun p => match p.waits with
    | .coeff .. => false
    | _ => true) }))
  let s := (s.put CUS_STAT_REASON reason.toNat).loopsOff
  let s := (s.modCus (fun x => { x with
    hb := none, outgoing := none, planned := false, holding := false, sending := none
    giveUp := false, orphan := some s.tb.up, asked := false }))
  let s := (s.dmDiscardAll.setCstate (if planned then csSYNC else csYIELDED) hb).portsOff.refreshPorts
  let s := s.answerHandover 0x81 stOk 0 (hbBody hb)
  let s := if s.cus.faultAfter then
      (s.modCus (fun x => { x with faultAfter := false })).enterFault (s.bit FAULT_CAUSE_RAIL)
    else s
  s.when s.cus.resetAfter (fun s =>
    (s.modCus (fun x => { x with resetAfter := false })).modAtq (fun x => { x with resetDue := true }))

/-- A loop resumes at a takeover (R476). The copy does not carry whether the last sample's output was
limited (R310), so that is open (log entry 32). -/
def State.resumeLoop (start : Tick) (s : State) (m : Nat) : State :=
  let fresh := s.cus.copyAt.isSome && decide (s.get MIR_STAT_AGE ≤ s.get CUS_CFG_MAXAGE)
  let (lim, s) := s.fresh
  let s := s.modCe m (fun l => { l with
    vals := { l.vals with hiLim := lim % 3 == 1, loLim := lim % 3 == 2 }, mirror := [] })
  let s := if s.loopState m == loRUN && !fresh then s.loopMode m (s.get (LOOP_CFG_START m)) else s
  s.modCe m (fun l => { l with comp := none, notBefore := some start })

/-- Rate of the vector that the copy shows. -/
def State.copiedRate (s : State) (c : MirrorCopy) : BitVec 2 :=
  if s.segStream c.patSeg.toNat then
    match s.streamVecs[c.patVec.toNat]? with
    | some v => vecRate v.1
    | none => 0
  else vecRate (s.vector c.patVec.toNat)

/-- The pattern engine resumes at a takeover (R476): the copied pass restarts, HB counts as a
slip. -/
def State.resumePattern (s : State) (hb drive : Tick) : State :=
  if !s.modeOn mPROBE || !s.domOn dPAT then s
  else
    let s := (s.setPat paIDLE).idlePins false (drive, 0)
    match s.cus.copy with
    | none => s
    | some c =>
      if c.patState != 2 && c.patState != 3 then s
      else
        let rate := s.copiedRate c
        let s := (s.modPat (fun x => { x with
          start := none, seg := c.patSeg, pass := c.patPass, idx := 0, rep := 0
          serial := x.serial + 1, pastPoint := false, ended := false, issued := [], ahead := 0
          cur := some { gap := true, seg := c.patSeg, pass := c.patPass, rate := rate
                        serial := x.serial + 1 }
          curAt := (hb, 0), acc := c.patAcc, ref := c.boundary, reqTag := none, stops := []
          failAt := none, strobed := true, timedOut := false }))
        let s := ((s.put PAT_STAT_SEG c.patSeg.toNat).put PAT_STAT_PASS c.patPass.toNat).setPat paRUN
        let s := (s.putB PAT_BR_PEND c.patReq.isSome).put PAT_BR_TARGET
          (c.patReq.map BitVec.toNat |>.getD (s.get PAT_BR_TARGET))
        (s.recordSlip hb).resumeAt (hb + BitVec.ofNat 48 tLead)

/-- The sensor ports start afresh (R252). -/
def State.resumePorts (s : State) : State := s.portsOff.refreshPorts.refreshPwf

/-- What a unit that has become ACTIVE drives: pins, loops, pattern engine, lights, ports (R475,
R476). -/
def State.startOutputs (s : State) (hb : Tick) : State :=
  let (open_, s) := s.fresh
  let lag := 225 + open_ % 151
  let drive := hb + BitVec.ofNat 48 lag
  let s := s.modCus (fun x => { x with drive := s.tb.up + lag, acked := false, released := 0 })
  let s := (List.range 16).foldl (State.resumeLoop drive) s
  let s := (s.dmDiscardAll.resumePattern hb drive).lightOn
  let s := [0, 1].foldl (fun s c => s.markerResend c) s
  s.resumePorts

/-- AGE at a boundary; source 685 once it exceeds MAXAGE (R471, R483). -/
def State.ageCopy (s : State) (b : Tick) : State :=
  match s.cus.copyAt with
  | none => s.put MIR_STAT_AGE 0xFFFF
  | some t =>
    let age := min 0xFFFE ((s.elapsedAt b - t).toNat / s.mirrorPer)
    let s := s.put MIR_STAT_AGE age
    if s.get CUS_CFG_MAXAGE < age then
      if s.cus.aged then s
      else (s.modCus (fun x => { x with aged := true })).raise 685
    else (s.modCus (fun x => { x with aged := false }))

/-- Takes control at a boundary (R474). -/
def State.takeControl (s : State) (hb : Tick) : State :=
  let s := ((s.ageCopy hb).bump CUS_CNT_TAKE).modCus (fun x => { x with
    hb := none, taking := false, silentTake := false, sending := none, holding := false
    copied := false })
  let s := ((s.setCstate csACTIVE hb).startOutputs hb)
  (s.answerHandover 0x82 stOk 0 (hbBody hb)).answerHandover 0x80 stOk 0 []

/-- The takeover is due at this unit: accepted or declined (R474). -/
def State.incoming (s : State) (hb : Tick) : State :=
  if s.cstate == csACTIVE then
    (s.modCus (fun x => { x with hb := none, taking := false })).answerHandover 0x80 stOk 0 []
  else if s.cus.taking || (s.cstate == csSTANDBY && s.diagOk && !s.cus.ineligible) then s.takeControl hb
  else
    let s := (s.bump CUS_CNT_DECL).modCus (fun x => { x with hb := none, silentTake := false })
    ((s.raise 675).setCstate csLOST hb).answerHandover 0x82 stStateConflict 0x83 []

/-- HANDOVER_BOUNDARY (R475). -/
def State.handover (s : State) : State :=
  match s.cus.hb with
  | none => s
  | some hb =>
    let s := s.advanceTo hb
    match s.cus.outgoing with
    | some r => s.giveControl hb r
    | none => s.incoming hb

/-! ### A frame boundary (R470 to R472, R478) -/

/-- Automatic reclaim (R478). -/
def State.autoReclaim (s : State) : State :=
  let r := s.get CUS_STAT_REASON
  let auto := s.bit CUS_CFG_RETURN && decide (1 ≤ r) && decide (r ≤ 8) && s.cstate == csSTANDBY &&
    !s.cus.asked
  if auto && decide (1024 ≤ s.cus.cleanStandby) && s.cus.hb.isNone then
    ((s.modCus (fun x => { x with asked := true })).putB CUS_STAT_AUTO false).raise 683
  else s.putB CUS_STAT_AUTO auto

/-- Counts the frame that ends as clean or not (R472). -/
def State.countFrame (s : State) : State :=
  let whole := s.cus.frameClean && s.diagOk && s.mateUp
  let clean := whole && s.cus.copied
  let s := if clean then s.bump CUS_STAT_CLEAN else s.put CUS_STAT_CLEAN 0
  let s := (s.modCus (fun x => { x with
    cleanStandby := if clean && s.cstate == csSTANDBY then x.cleanStandby + 1 else 0 }))
  if s.cstate == csYIELDED && whole && s.unitState != usFault then s.setCstate csSYNC else s

/-- A planned handover waits for the copy as at the boundary before HB (R474). -/
def State.deferHandover (s : State) (b : Tick) : State :=
  if s.cus.planned && s.cus.hb == some b && s.cus.sending.isSome && s.cus.joined then
    s.setHb (s.boundaryFrom (b + 1))
  else s

/-- The copy as at this boundary goes out, unless control leaves at it (R471). -/
def State.sendCopy (s : State) (b : Tick) : State :=
  let leaving := s.cus.outgoing.isSome && (!s.cus.planned || s.cus.hb == some b)
  (s.modCus (fun x => { x with
    copied := false, frameClean := s.diagOk && s.mateUp
    sending := if s.cstate == csACTIVE && s.cus.joined && s.mateUp && !leaving then
        some (s.snapshotAt b)
      else none }))

/-- MIRROR_BOUNDARY. -/
def State.mirrorBoundary (s : State) : State :=
  if s.cstate == csSOLO then s.drainEnd 0x20
  else
    let b := s.nextBoundary
    let s := (s.advanceTo b).countFrame
    let s := s.deferHandover b
    let s := s.when s.cus.sending.isSome State.missCopy
    let s := s.ageCopy b
    let s := (s.modCus (fun x => { x with
      boundary := some b }))
    let s := if s.cus.giveUp && s.cstate == csACTIVE && s.cus.hb.isNone then
        (s.modCus (fun x => { x with planned := true })).giveControl b 8
      else (s.modCus (fun x => { x with giveUp := false }))
    let s := if s.cus.silentTake && s.cus.hb.isNone && (s.cstate == csSYNC || s.cstate == csSTANDBY)
      then (s.setHb b).incoming b else s
    s.autoReclaim.sendCopy b

/-! ### Self-diagnosis, notices, the guard, the join -/

/-- FAULT_CAUSE bit of a cause, if it has one (R472). -/
def causeBit : Cause → Option RF
  | .eccCtrl => some FAULT_CAUSE_ECC_CTRL
  | .watchdog => some FAULT_CAUSE_WATCHDOG
  | .rail => some FAULT_CAUSE_RAIL
  | .domain => some FAULT_CAUSE_DOMAIN
  | .pace | .reference | .otherCus => none

/-- REASON of a cause (R482). -/
def causeReason : Cause → Nat
  | .eccCtrl => 1
  | .watchdog => 2
  | .rail => 3
  | .domain => 4
  | .pace => 5
  | .reference => 6
  | .otherCus => 7

/-- The active gives up control at once (R474): codes held, GUARDO stopped, the copy abandoned. -/
def State.yieldNow (s : State) (reason : Nat) : State :=
  let s := (s.when s.cus.sending.isSome State.missCopy).modCus (fun x => { x with
    holding := true, frameClean := false })
  s.syncCustody.planHandover reason false

/-- SELF_DIAGNOSIS_CAUSE (R472, R474). -/
def State.selfDiagnosis (s : State) (c : Cause) : State :=
  let s := (s.modCus (fun x => { x with causes := x.causes.erase c }))
  if s.cstate == csACTIVE then
    let s := match causeBit c with
      | some f => (s.putB f true).modCus (fun x => { x with faultAfter := true })
      | none => s
    if s.cus.outgoing.isSome && !s.cus.planned then s else s.yieldNow (causeReason c)
  else match causeBit c with
    | some f => s.faultCause f c
    | none => s

/-- HANDOVER_NOTICE: at a standby the notice of HB, at an active the partner's RECLAIM (R474,
R479). -/
def State.handoverNotice (s : State) (hb : Tick) (reclaim : Bool) (stat : W32) : State :=
  let s := (s.modCus (fun x => { x with partnerStat := stat }))
  if s.cstate == csACTIVE then
    if reclaim && s.cus.hb.isNone then s.planHandover 10 true else s
  else if !reclaim && (s.cstate == csSYNC || s.cstate == csSTANDBY) then s.setHb hb
  else s

/-- GUARD_SILENT (R473). -/
def State.guardSilent (s : State) (asserted : Bool) : State :=
  let s := (s.modCus (fun x => { x with silent := true }))
  if s.cstate == csSOLO then s
  else
    let s := s.raise 678
    if (s.cstate == csSYNC || s.cstate == csSTANDBY) && s.cus.hb.isNone then
      if asserted then (s.modCus (fun x => { x with ineligible := true })).raise 679
      else (s.modCus (fun x => { x with silentTake := true }))
    else s

/-- GUARD_CONFLICT (R473). -/
def State.guardConflict (s : State) : State :=
  if s.cstate != csACTIVE then s
  else
    let s := (s.modCus (fun x => { x with silent := false })).raise 686
    if s.role == 2 then (s.modCus (fun x => { x with giveUp := true })) else s

/-- GUARD_EDGES_RETURN (R473). -/
def State.guardReturn (s : State) : State :=
  (s.modCus (fun x => { x with silent := false, ineligible := false, orphan := none }))

/-- OUTGOING_GUARD_TIMEOUT (R475): t_GD, at least 1.9 µs, and a frame after HB. -/
def State.guardTimeout (s : State) : State :=
  match s.cus.orphan with
  | some hb =>
    if s.cus.silent && (s.cstate == csYIELDED || s.cstate == csSYNC) then
      let s := s.advanceUp ((hb + 2375 + s.mirrorPer : Nat) : Int)
      (s.modCus (fun x => { x with orphan := none })).setCstate csLOST
    else s
  | none => s

/-- Time in SEEK after which control is taken, in ticks (R467). -/
def State.seekTicks (s : State) : Nat :=
  max 1 (s.get CUS_CFG_SEEK_T) * msTicks * (if s.role == 2 then 2 else 1)

/-- SEEK_TIMEOUT (R467): control is taken at the next boundary. -/
def State.seekTimeout (s : State) : State :=
  let due := s.advanceUp ((s.cus.seekFrom + s.seekTicks : Nat) : Int)
  if s.cstate != csSEEK || !s.cus.silent || !due.diagOk then s
  else
    let b := due.nextBoundary
    ((due.advanceTo b).setCstate csACTIVE b).startOutputs b

/-- PARTNER_JOIN (R467, R468). A unit in LOST takes the partner's taking of control as its join; a
STANDBY whose partner joins again enters SYNC (DEDUCED, log entry 32). -/
def State.partnerJoin (s : State) (stat : W32) : State :=
  let holds := CUS_STAT_HOLDS.read stat == 1
  if s.cstate == csSOLO || !s.mateUp || (s.cus.joined && !(s.cstate == csLOST && holds)) then s
  else
    let s := ((s.modCus (fun x => { x with
      joined := true, copies := 0, acked := false, partnerStat := stat })).modPat
      (fun x => { x with passes := [] })).raise 682
    if s.cstate == csACTIVE then
      (if holds && s.role == 2 then (s.modCus (fun x => { x with giveUp := true })) else s)
    else if s.cstate == csSEEK then
      if holds then s.setCstate csSYNC
      else if s.role == 1 then (s.setCstate csACTIVE).startOutputs s.now
      else s.setCstate csSYNC
    else if s.cstate == csSTANDBY || (s.cstate == csLOST && holds) then s.setCstate csSYNC
    else s

/-! ### Commands (R479) -/

/-- A handover is already scheduled, or asked for by a command that waits. -/
def State.handoverDue (s : State) : Bool :=
  s.cus.hb.isSome || s.atq.pend.any (fun p => match p.waits with
    | .handover => true
    | _ => false)

/-- PAIR. -/
def State.pairCmd (s : State) (c : Cmd) : CmdEnd :=
  if c.p.length != 1 then .refuse s stBadParam 6
  else if !s.isPair then .refuse s stStateConflict 0x80
  else if !bitOf (param c 0) 0 then
    .answered stOk 0 [packWord [(s.cusStat.toNat, 32, 32), ((s.rd MIR_STAT.addr).toNat, 0, 32)],
      packWord [(s.cus.partnerStat.toNat, 32, 32)]] 0 0 s
  else if s.handoverDue then .refuse s stBusy 0
  else if s.unitState == usFault then .refuse s stStateConflict 4
  else if s.cstate != csSEEK && s.cstate != csLOST then .refuse s stStateConflict 0x82
  else if !s.diagOk then .refuse s stStateConflict 0x83
  else if !s.cus.silent then .refuse s stStateConflict 0x84
  else .pending .handover ((s.setHb s.handoverTick).modCus (fun x => { x with taking := true }))

/-- The unit holds control (R467). -/
def State.holdsControl (s : State) : Bool := s.cstate == csSOLO || s.cstate == csACTIVE

/-- YIELD. -/
def State.yieldCmd (s : State) (_c : Cmd) : CmdEnd :=
  let p := s.cus.partnerStat
  if s.handoverDue then .refuse s stBusy 0
  else if !s.holdsControl then .refuse s stStateConflict 0x81
  else if CUS_STAT_CSTATE.read p != csSTANDBY || CUS_STAT_DIAG_OK.read p == 0 then
    .refuse s stStateConflict 0x85
  else if !s.mateUp || s.cstate == csSOLO then .refuse s stStateConflict 0x88
  else .pending .handover (s.planHandover 9 true)

/-- RECLAIM. -/
def State.reclaimCmd (s : State) (_c : Cmd) : CmdEnd :=
  if s.handoverDue then .refuse s stBusy 0
  else if s.holdsControl then .refuse s stStateConflict 0x86
  else if s.cstate == csSYNC then .refuse s stStateConflict 0x87
  else if s.cstate != csSTANDBY then .refuse s stStateConflict 0x82
  else if !s.diagOk then .refuse s stStateConflict 0x83
  else if !s.mateUp then .refuse s stStateConflict 0x88
  else .pending .handover s

/-! ### The steps -/

/-- MIRROR_BOUNDARY, R471. -/
def execMirrorBoundary (s : State) : Host.Outcome State Fault Refusal := .next s.mirrorBoundary

/-- COPY_COMPLETE, R471. -/
def execCopyComplete (c : MirrorCopy) (s : State) : Host.Outcome State Fault Refusal :=
  .next (s.copyComplete c)

/-- SELF_DIAGNOSIS_CAUSE, R474. -/
def execSelfDiagnosisCause (c : Cause) (s : State) : Host.Outcome State Fault Refusal :=
  .next (s.selfDiagnosis c)

/-- HANDOVER_NOTICE, R474. -/
def execHandoverNotice (hb : Tick) (reclaim : Bool) (stat : W32) (s : State) :
    Host.Outcome State Fault Refusal := .next (s.handoverNotice hb reclaim stat)

/-- HANDOVER_BOUNDARY, R475. -/
def execHandoverBoundary (s : State) : Host.Outcome State Fault Refusal := .next s.handover

/-- GUARD_SILENT, R473. -/
def execGuardSilent (asserted : Bool) (s : State) : Host.Outcome State Fault Refusal :=
  .next (s.guardSilent asserted)

/-- GUARD_CONFLICT, R473. -/
def execGuardConflict (s : State) : Host.Outcome State Fault Refusal := .next s.guardConflict

/-- GUARD_EDGES_RETURN, R473. -/
def execGuardEdgesReturn (s : State) : Host.Outcome State Fault Refusal := .next s.guardReturn

/-- OUTGOING_GUARD_TIMEOUT, R475. -/
def execOutgoingGuardTimeout (s : State) : Host.Outcome State Fault Refusal := .next s.guardTimeout

/-- SEEK_TIMEOUT, R467. -/
def execSeekTimeout (s : State) : Host.Outcome State Fault Refusal := .next s.seekTimeout

/-- PARTNER_JOIN, R468. -/
def execPartnerJoin (stat : W32) (s : State) : Host.Outcome State Fault Refusal :=
  .next (s.partnerJoin stat)

end Sys2Proof.Machine
end

