-- ==== Sys2Proof/Machine/Power.lean ====
section
/-! DEFINITION. Supply, rails, temperatures, power domains and reset (R484 to R495, R502, R503): the
happenings of the field die, domains coming up and going off, RESETN and RESET_UNIT. -/
namespace Sys2Proof.Machine

/-! ### What a domain loses (R487) -/

/-- Address ranges of domain `d`'s own registers (R462, R463). CORE, ATSQ, LOAM, PLL and LSPINE go
off only with the whole unit. -/
def domainRanges (d : Nat) : List (Nat × Nat) :=
  if 6 ≤ d && d ≤ 9 then
    [(0x81000 + 0x200 * (d - 6), 0x81000 + 0x200 * (d - 5)),
      (0x88000 + 0x2000 * (d - 6), 0x88000 + 0x2000 * (d - 5))]
  else if 10 ≤ d && d ≤ 13 then [(0x91000 + 0x100 * (d - 10), 0x91000 + 0x100 * (d - 9))]
  else if 14 ≤ d && d ≤ 15 then [(0xF1000 + 0x200 * (d - 14), 0xF1000 + 0x200 * (d - 13))]
  else if d == 16 then [(0x100000, 0x110000)]
  else if d == 17 then [(0xD0000, 0xE0000)]
  else if d == 18 then [(0xE0000, 0xF0000)]
  else if d == 19 then [(0x110000, 0x120000)]
  else if 20 ≤ d && d ≤ 21 then [(0x121000 + 0x100 * (d - 20), 0x121000 + 0x100 * (d - 19))]
  else if d == 22 then [(0x130000, 0x140000)]
  else if d == 25 then [(0x21100, 0x21400)]
  else if d == 26 then [(0x21400, 0x21500)]
  else []

/-- The groups that share a block's common registers with domain `d` (R462). -/
def domainGroup (d : Nat) : List Nat :=
  if 6 ≤ d && d ≤ 9 then [6, 7, 8, 9]
  else if 10 ≤ d && d ≤ 13 then [10, 11, 12, 13]
  else if 14 ≤ d && d ≤ 15 then [14, 15]
  else if 20 ≤ d && d ≤ 21 then [20, 21]
  else []

/-- Address ranges of the common registers of domain `d`'s block, which go with its last group. -/
def commonRanges (d : Nat) : List (Nat × Nat) :=
  if 6 ≤ d && d ≤ 9 then [(0x80000, 0x81000), (0x82000, 0x83000)]
  else if 10 ≤ d && d ≤ 13 then [(0x90000, 0x91000)]
  else if 14 ≤ d && d ≤ 15 then [(0xF0000, 0xF1000)]
  else if 20 ≤ d && d ≤ 21 then [(0x120000, 0x120004), (0x120008, 0x121000)]
  else []

/-- Another group of domain `d`'s block is on. -/
def State.groupOn (s : State) (d : Nat) : Bool := (domainGroup d).any (fun k => k != d && s.domOn k)

/-- Resets the registers of address ranges. -/
def State.resetRanges (s : State) (l : List (Nat × Nat)) : State :=
  l.foldl (fun s r => s.resetRegs r.1 r.2) s

/-- Forgets what memory holds in an address range. -/
def State.clearMem (s : State) (lo hi : Nat) : State :=
  { s with mem := s.mem.filter (fun c => !(lo ≤ c.1 && c.1 < hi)) }

/-- A sensor port as the loss of its SP domain leaves it: PCV holds its results, calibration sets and
tables (R274). A calibration under way runs into its timeout, and the Sieve's deadband stays. -/
def SpPort.lose (x : SpPort) : SpPort :=
  { cal := x.cal, deadband := x.deadband, last := x.last, before := x.before, marked := x.marked
    gainSet := x.gainSet, use := x.use }

/-- What the loss of PCV leaves of it. -/
def SpPort.losePcv (x : SpPort) : SpPort := { cal := x.cal, deadband := x.deadband }

/-- The structures that stand for domain `d`'s circuits lose their contents (R487). -/
def State.loseCircuits (s : State) (d : Nat) : State :=
  if d == 5 then s.gapRange 0x400000 0x800000
  else if 6 ≤ d && d ≤ 9 then
    let s := s.endPending stStateConflict 0x11 (fun p => match p.waits with
      | .grade todo _ _ _ => (List.range 16).any (fun k => todo.getLsbD (16 * (d - 6) + k))
      | _ => false)
    let s := (List.range 16).foldl (fun s k => s.modTk (16 * (d - 6) + k) (fun t =>
      { block := t.block, closed := t.closed })) s
    if s.groupOn d then s else { s with iv := List.replicate 16 {} }
  else if 10 ≤ d && d ≤ 13 then
    (List.range 8).foldl (fun s k =>
      ((s.sieveStop (8 * (d - 10) + k)).modFa (8 * (d - 10) + k) (fun f =>
        { late := f.late })).tkRelease (8 * (d - 10) + k) s.now) s
  else if 14 ≤ d && d ≤ 15 then
    (List.range 8).foldl (fun s k => s.modSp (8 * (d - 14) + k) SpPort.lose) s
  else if d == 16 then
    (List.range 16).foldl (fun s p => s.modSp p SpPort.losePcv)
      { s with pc := List.replicate 8 {} }
  else if d == 17 then
    (s.patternOff.clearMem 0x800000 0x900000).modPat (fun x => { x with relOff := 0, passes := [] })
  else if d == 18 then { s with dm := List.replicate 16 {} }
  else if d == 19 then
    let s := s.endPending stStateConflict 0x63 (fun p => match p.waits with
      | .coeff .. => true
      | _ => false)
    { s.loopsOff with ce := List.replicate 16 {} }
  else if 20 ≤ d && d ≤ 21 then
    let s := (s.modPwr (fun x => { x with aoReady := setBit x.aoReady (d - 20) false }))
    (s.modPins (fun x => { x with
      aoBusy := (List.range 16).foldl (fun w k => setBit w (16 * (d - 20) + k) false) x.aoBusy }))
  else if d == 22 then
    ((s.markersStop.putB MODE_STATUS_LKEPT false).modLight (fun _ => {}))
  else if d == 25 then
    [1, 2, 3].foldl (fun s n => (s.gxStop n).modGx n (fun _ => {})) s
  else if d == 26 then (s.gxStop 4).modGx 4 (fun _ => {})
  else s

/-- Domain `d` loses its registers and what its circuits hold. -/
def State.loseDomain (s : State) (d : Nat) : State :=
  let s := (s.loseCircuits d).resetRanges (domainRanges d)
  if s.groupOn d then s else s.resetRanges (commonRanges d)

/-! ### Rails (R484, R486, R491) -/

/-- Rails that a domain uses. -/
def railsOf (d : Nat) : List Nat :=
  if d == 1 then [0]
  else if (2 ≤ d && d ≤ 4) || d == 17 then [1, 3]
  else if d == 5 || d == 18 || d == 19 then [1]
  else if (6 ≤ d && d ≤ 9) || d == 23 then [1, 2]
  else if (10 ≤ d && d ≤ 13) || (24 ≤ d && d ≤ 26) then [1, 2, 3]
  else if d == 16 then [1, 4]
  else if 20 ≤ d && d ≤ 21 then [3, 4, 5, 6]
  else [3, 4]

/-- Rail `k` feeds a domain that is on. -/
def State.railUsed (s : State) (k : Nat) : Bool :=
  (List.range 26).any (fun n => s.domOn (n + 1) && (railsOf (n + 1)).contains k)

/-- The rail is checked against its window (R491). -/
def State.railChecked (s : State) (k : Nat) : Bool :=
  if k == 0 then s.pwr.supply else s.railUsed k

/-- Rails 4 to 6 are up only while a domain needs them (R484): RAIL_STAT.INW follows, and a rail that
has stopped is out of window no more. -/
def State.syncRails (s : State) : State :=
  let s := s.modPwr (fun x => { x with railOut := x.railOut.filter (fun k => k < 4 || s.railUsed k) })
  [4, 5, 6].foldl (fun s k =>
    if s.railUsed k && !s.pwr.railOut.contains k then s.mark RAIL_STAT_INW k
    else s.unmark RAIL_STAT_INW k) s

/-- Nominal output of rail `k`, or its set point, in millivolts (R484, R485). -/
def State.railNominal (s : State) (k : Nat) : Int :=
  let high := s.bit AO_GSTAT_HIRNG
  match k with
  | 0 => 800
  | 1 => 750
  | 2 => 1200
  | 3 => 1800
  | 4 => 5000
  | 5 => if high then 11000 else 7000
  | _ => if high then -11000 else -7000

/-- Half width of rail `k`'s window, in microvolts: 4 % for VCORE and 5 % for the others (W_CORE and
W_RAIL of R492). -/
def State.railWindow (s : State) (k : Nat) : Nat :=
  (s.railNominal k).natAbs * (if k == 1 then 40 else 50)

/-- Every rail that domain `d` uses is in its window, as far as it is checked (R486). -/
def State.railsGood (s : State) (d : Nat) : Bool :=
  (railsOf d).all (fun k => !s.pwr.railOut.contains k)

/-- The rails that feed LIGHT (R486). -/
def lightRail (k : Nat) : Bool := k == 3 || k == 4

/-- RAIL_OUT (R491): the boost and kept lighting end with a rail that feeds LIGHT (R31, R336). -/
def State.railOut (s : State) (k : Nat) : State :=
  if !s.railChecked k || s.pwr.railOut.contains k then s
  else
    let s := (s.modPwr (fun x => { x with railOut := k :: x.railOut }))
    let s := (s.mark RAIL_STAT_OUTW k).unmark RAIL_STAT_INW k
    let s := s.when (lightRail k && s.domOn dLIGHT) (fun s =>
      s.lightStop.putB MODE_STATUS_LKEPT false)
    s.raise (12 + k)

/-- RAIL_FAULT (R52, R491). -/
def State.railFault (s : State) (k : Nat) : State :=
  if !s.railChecked k || !s.pwr.railOut.contains k then s
  else s.faultCause FAULT_CAUSE_RAIL .rail (lightRail k)

/-- RAIL_RETURN (R491): LIGHT, while it is on, starts its boost again (R336). -/
def State.railReturn (s : State) (k : Nat) : State :=
  if !s.pwr.railOut.contains k then s
  else
    let s := (s.modPwr (fun x => { x with railOut := x.railOut.filter (· != k) }))
    let s := if k ≤ 3 then s.mark RAIL_STAT_INW k else s.syncRails
    let s := s.when (lightRail k) State.lightOn
    s.raise (19 + k)

/-! ### Domains up and down (R487 to R489) -/

/-- DOMAIN_UP: the domain's rails have qualified, and it counts as on, with its registers at their
reset values (R486, R487). -/
def State.domainUp (s : State) (d : Nat) : State :=
  if !s.rising d || !s.railsGood d then s
  else
    let s := (s.modPwr (fun x => { x with rising := x.rising.filter (· != d) })).loseDomain d
    let s := (s.mark DOM_STAT_ON (d - 1)).syncRails
    let s := s.when (20 ≤ d && d ≤ 21) (fun s =>
      (s.modPwr (fun x => { x with aoReady := setBit x.aoReady (d - 20) true })))
    let s := (List.range 5).foldl State.gxStart s
    s.refreshPorts.refreshPwf.settleRequests

/-- DOMAIN_OFF: domains go off in descending order (R487). -/
def State.domainOff (s : State) (d : Nat) : State :=
  if s.pwr.falling.head? != some d then s
  else
    let again := s.pwr.again.contains d
    let s := (s.modPwr (fun x => { x with
      falling := x.falling.filter (· != d), again := x.again.filter (· != d) }))
    let s := ((s.unmark DOM_STAT_ON (d - 1)).unmark DOM_CMD_CMDON (d - 1)).loseDomain d
    let s := s.when again (fun s => s.askOn d)
    s.syncRails.refreshPorts.refreshPwf.settleRequests

/-- The pending commands hear that domain `d` has failed (R37, R437). -/
def State.failRequests (s : State) (d : Nat) : State :=
  s.atq.pend.foldl (fun s p => match p.waits with
    | .modeSet none sel val _ =>
      if (s.maskWaits (maskAfter (s.get MODE_STATUS_MASK) sel.toNat val.toNat)).contains d then
        s.answer p.tag stDataError 0
      else s
    | .domain sel val none =>
      if sel.getLsbD (d - 1) && val.getLsbD (d - 1) then
        (s.modAtq (fun x => { x with pend := x.pend.map (fun q =>
          if q.tag == p.tag && !q.waits.isReady then { q with waits := .domain sel val (some d) }
          else q) }))
      else s
    | _ => s) s

/-- A DOMAIN that names a failed domain is answered before the unit enters FAULT. -/
def State.closeDomains (s : State) : State :=
  s.atq.pend.foldl (fun s p => match p.waits with
    | .domain _ _ (some d) => s.answer p.tag stDataError d [s.domBits]
    | _ => s) s

/-- DOMAIN_FAIL (R488). In BOOT the unit cannot go on, and enters FAULT. -/
def State.domainFail (s : State) (d : Nat) : State :=
  if !s.rising d then s
  else
    let s := (s.modPwr (fun x => { x with rising := x.rising.filter (· != d) }))
    let s := (s.mark DOM_FAIL_FAIL (d - 1)).unmark DOM_CMD_CMDON (d - 1)
    let s := (s.failRequests d).settleRequests
    let s := s.raise 29
    if s.cstate == csACTIVE then s.faultCause FAULT_CAUSE_DOMAIN .domain
    else if s.unitState == usBoot then (s.putB FAULT_CAUSE_DOMAIN true).enterFault false
    else s.closeDomains.faultCause FAULT_CAUSE_DOMAIN .domain

/-! ### Temperatures (R492) -/

/-- The limit in steps of 0.125 degrees. -/
def State.tempLimit (s : State) : Int := s.get TEMP_WARN_LIMIT * 8

/-- TEMP_READ: each die's warning is raised once and stands until source 30. -/
def State.tempRead (s : State) (tcore tfield : BitVec 16) : State :=
  if !s.pwr.supply then s
  else
    let s := (s.put TEMP_MON_TCORE tcore.toNat).put TEMP_MON_TFIELD tfield.toNat
    let lim := s.tempLimit
    let s := if lim ≤ tcore.toInt && !s.pwr.warnCore then
        (s.modPwr (fun x => { x with warnCore := true })).raise 26
      else s
    let s := if lim ≤ tfield.toInt && !s.pwr.warnField then
        (s.modPwr (fun x => { x with warnField := true })).raise 27
      else s
    if (s.pwr.warnCore || s.pwr.warnField) && tcore.toInt ≤ lim - 40 && tfield.toInt ≤ lim - 40 then
      (s.modPwr (fun x => { x with warnCore := false, warnField := false })).raise 30
    else s

/-! ### Reset (R7, R30, R432, R448, R482, R493, R494, R499) -/

/-- The base domains of R40. -/
def baseDomains : List Nat := [2, 3, 4, 23, 24, 25]

/-- Registers that show pins and monitors, which no reset changes. -/
def liveReg (a : Nat) : Bool := a == STRAP.addr || a == RAIL_STAT.addr || a == VSUP_MON.addr ||
  a == TEMP_MON.addr || a == AO_GSTAT.addr

/-- Registers that keep their value through RESET_UNIT (R7, R52, R448, R452, R482). -/
def keptReg (a : Nat) : Bool :=
  liveReg a || a == FAULT_CAUSE.addr || (ENUM_STAT.addr ≤ a && a ≤ PATCH_CTL.addr) ||
    (CUS_CFG.addr ≤ a && a ≤ CUS_CNT.addr)

/-- The unit with every register but some at its reset value, and everything else as at reset;
what belongs to the outside stays. -/
def State.blank (s : State) (keep : Nat → Bool) (keepMem : Bool) : State :=
  let pwr : Power := { supply := s.pwr.supply, resetn := s.pwr.resetn, railOut := s.pwr.railOut
                       straps := s.pwr.straps, tap := s.pwr.tap }
  { pending := s.pending, regs := s.regs.filter (fun c => keep c.1)
    mem := if keepMem then s.mem.filter (fun c => 0x8000 ≤ c.1 && c.1 < 0xC000) else []
    ev := { free := s.ev.free }, trg := { trigin := s.trg.trigin }
    cus := { silent := s.cus.silent }, pins := { pvIn := s.pins.pvIn }, pwr := pwr }

/-- The straps as sampled show in TB_STATUS, and give the head its ID (R53, R441, R494). -/
def State.showStraps (s : State) (newId : Bool) : State :=
  let head := s.bit STRAP_HEAD
  let s := (s.putB TB_STATUS_HEAD head).put TB_STATUS_ALIGN (if head then alHEAD else alUNALIGNED)
  let s := s.put CUS_STAT_ROLE (s.get STRAP_ROLE)
  let s := ((s.putB CUS_STAT_DIAG_OK s.diagOk).put RAIL_STAT_OUTW 0).syncRails
  s.when newId (fun s => s.putB ENUM_STAT_VALID head)

/-- Enters BOOT: the base domains power up (R30, R40). -/
def State.startBoot (s : State) : State :=
  (s.put MODE_STATUS_STATE usBoot).modPwr (fun x => { x with
    rising := baseDomains.filter (fun d => !s.domOn d) })

/-- Samples the straps and boots, after power-up or RESETN (R494). -/
def State.coldBoot (s : State) : State :=
  ((s.put STRAP s.pwr.straps.toNat).showStraps true).startBoot

/-- Everything but the supply's own state goes back to reset; no domain but AON is on (R490,
R493). -/
def State.coldReset (s : State) (st : Nat) : State :=
  ((s.blank liveReg false).showStraps true).put MODE_STATUS_STATE st

/-- RESETN_LOW (R493). -/
def State.resetnLow (s : State) (ns : Nat) : State :=
  if ns ≤ 100 then s
  else
    let s := (s.modPwr (fun x => { x with resetn := false }))
    if s.pwr.supply then s.coldReset usBoot else s

/-- RESETN_RISE (R30, R493, R494). -/
def State.resetnRise (s : State) : State :=
  if s.pwr.resetn then s
  else
    let s := (s.modPwr (fun x => { x with resetn := true }))
    if s.pwr.supply then s.coldBoot else s

/-- VSUP_RISE (R490): above V_POR the unit boots, unless RESETN holds it. -/
def State.vsupRise (s : State) (v : Nat) : State :=
  if s.pwr.supply then s.put VSUP_MON_VSUP v
  else
    let s := (s.modPwr (fun x => { x with supply := true, railOut := [] })).put VSUP_MON_VSUP v
    let s := s.put RAIL_STAT_INW 0xF
    if s.pwr.resetn then s.coldBoot else s

/-- VSUP_FALL (R490): OFF. -/
def State.vsupFall (s : State) (v : Nat) : State :=
  let s := s.put VSUP_MON_VSUP v
  if !s.pwr.supply then s
  else ((s.modPwr (fun x => { x with supply := false, railOut := [] })).coldReset usOff).put
    RAIL_STAT_INW 0

/-- UNIT_RESET (R7, R432, R437, R499): the reset that RESET_UNIT asked for. Pending commands are
dropped without replies; the base domains stay on, so the patch RAM keeps its contents (R448). -/
def State.unitReset (s : State) : State :=
  if !s.atq.resetDue then s
  else
    let on := baseDomains.filter s.domOn
    let s := s.blank keptReg true
    let s := ((s.put CUS_STAT_CSTATE csSOLO).putB CUS_STAT_PLOST false).showStraps false
    let s := (on.foldl (fun s d => s.mark DOM_STAT_ON (d - 1)) s).startBoot
    (List.range 5).foldl State.gxStart s

/-! ### The steps -/

/-- VSUP_RISE, R490. -/
def execVsupRise (v : BitVec 16) (s : State) : Host.Outcome State Fault Refusal :=
  .next (s.vsupRise v.toNat)

/-- VSUP_FALL, R490. -/
def execVsupFall (v : BitVec 16) (s : State) : Host.Outcome State Fault Refusal :=
  .next (s.vsupFall v.toNat)

/-- VSUP_WARN, R490. -/
def execVsupWarn (v : BitVec 16) (s : State) : Host.Outcome State Fault Refusal :=
  .next ((s.put VSUP_MON_VSUP v.toNat).raise 7)

/-- VSUP_HIGH, R490. -/
def execVsupHigh (v : BitVec 16) (s : State) : Host.Outcome State Fault Refusal :=
  .next ((s.put VSUP_MON_VSUP v.toNat).raise 28)

/-- RAIL_OUT, R491. -/
def execRailOut (k : Fin 7) (s : State) : Host.Outcome State Fault Refusal := .next (s.railOut k)

/-- RAIL_FAULT, R491. -/
def execRailFault (k : Fin 7) (s : State) : Host.Outcome State Fault Refusal := .next (s.railFault k)

/-- RAIL_RETURN, R491. -/
def execRailReturn (k : Fin 7) (s : State) : Host.Outcome State Fault Refusal :=
  .next (s.railReturn k)

/-- TEMP_READ, R492. -/
def execTempRead (tcore tfield : BitVec 16) (s : State) : Host.Outcome State Fault Refusal :=
  .next (s.tempRead tcore tfield)

/-- DOMAIN_UP, R487. -/
def execDomainUp (d : Fin 27) (s : State) : Host.Outcome State Fault Refusal := .next (s.domainUp d)

/-- DOMAIN_FAIL, R488. -/
def execDomainFail (d : Fin 27) (s : State) : Host.Outcome State Fault Refusal :=
  .next (s.domainFail d)

/-- DOMAIN_OFF, R487, R489. -/
def execDomainOff (d : Fin 27) (s : State) : Host.Outcome State Fault Refusal :=
  .next (s.domainOff d)

/-- RESETN_LOW, R493. -/
def execResetnLow (ns : BitVec 16) (s : State) : Host.Outcome State Fault Refusal :=
  if 100 < ns.toNat && ns.toNat < 1000 then .fault .resetPulseNotAllowed
  else .next (s.resetnLow ns.toNat)

/-- RESETN_RISE, R493, R494. -/
def execResetnRise (s : State) : Host.Outcome State Fault Refusal := .next s.resetnRise

/-- UNIT_RESET, R432, R437. -/
def execUnitReset (s : State) : Host.Outcome State Fault Refusal := .next s.unitReset

/-- WATCHDOG_TIMEOUT, R449. -/
def execWatchdogTimeout (s : State) : Host.Outcome State Fault Refusal :=
  .next (if s.domOn dATSQ then s.faultCause FAULT_CAUSE_WATCHDOG .watchdog else s)

/-- The TAP's IDCODE (R502): version 1h, part 7264h, vendor code 05Ah, and 1. -/
def idcode : W32 := 0x172640B5

/-- TAP_INSTRUCTION, R502: the firmware and the modes are not told (R503). -/
def execTapInstruction (i : TapInstr) (s : State) : Host.Outcome State Fault Refusal :=
  .next (s.modPwr (fun x => { x with tap := i }))

end Sys2Proof.Machine
end

