-- ==== Sys2Proof/Machine/OutputPins.lean ====
section
/-! DEFINITION. What every output pin does (R495, R503): before the blocks own it, under the blocks, and
under the boundary scan. Each block's own drive is in the block's file. -/
namespace Sys2Proof.Machine

/-- An output pin. -/
inductive OutPin where
  | ao (n : Nat) | pv (n : Nat) | pwf (n : Nat) | ls (n : Nat) | bgate | mk (c : Nat) | trigout
  | guardo | pairLostN | evtn | refout
  /-- transmit lane `i` of Grenyx port `n` -/
  | lane (n i : Nat)
  /-- MSCK, MCSN and MSIO[3:0] -/
  | maintenance
  deriving DecidableEq, Repr

/-- What an output pin does. -/
inductive PinDrive where
  | highZ
  /-- held low by a pull-down or by 1 MΩ or 100 kΩ to AGND alone -/
  | pulledLow
  | low
  | high
  /-- P low and N high, of a differential pair -/
  | held
  /-- an open-drain pin, or a sink, that is off -/
  | released
  /-- a current sink that is on -/
  | sinks
  /-- switching: a clock, a wave, a frame, symbols of a lane -/
  | active
  /-- as the boundary scan chain has it -/
  | chain
  /-- inputs of the maintenance port -/
  | input
  deriving DecidableEq, Repr

/-- EXTEST, CLAMP or HIGHZ is in force (R503). -/
def State.scanForces (s : State) : Bool :=
  s.pwr.tap == .extest || s.pwr.tap == .clamp || s.pwr.tap == .highz

/-- The pin is in the boundary scan chain (R503). -/
def OutPin.inChain : OutPin → Bool
  | .pv _ | .pwf _ | .mk _ | .trigout | .guardo | .pairLostN | .evtn | .maintenance => true
  | .ao _ | .ls _ | .bgate | .refout | .lane _ _ => false

/-- A pin in OFF (R495). -/
def OutPin.off : OutPin → PinDrive
  | .ao _ | .bgate | .mk _ | .trigout | .guardo => .pulledLow
  | .pv _ | .pwf _ | .refout | .lane _ _ | .maintenance => .highZ
  | .ls _ | .pairLostN | .evtn => .released

/-- A pin while RESETN is low (R495). -/
def OutPin.inReset : OutPin → PinDrive
  | .bgate | .mk _ | .trigout | .guardo => .low
  | .refout => .held
  | .maintenance => .input
  | .lane _ _ => .highZ
  | .ao n => (OutPin.ao n).off
  | .pv n => (OutPin.pv n).off
  | .pwf n => (OutPin.pwf n).off
  | .ls n => (OutPin.ls n).off
  | .pairLostN => .released
  | .evtn => .released

/-- The maintenance port is master: with BOOTSRC = 1, but for an idle bridge after a failed boot
(R497, R500, R501). -/
def State.maintenanceMaster (s : State) : Bool :=
  s.bit STRAP_BOOTSRC && (!s.bit FAULT_CAUSE_BOOT_FAIL || s.bit MFL_CMD_BUSY)

/-- A PWF pin's wave at the pin: in open drain it only sinks (R281). -/
def Pwf.drive (w : Pwf) : PinDrive :=
  if w.level == 2 then .highZ
  else if w.level == 3 then .active
  else if w.level == 0 then .low
  else if w.od then .released
  else .high

/-- A pin under the block that owns it. -/
def State.blockPin (s : State) : OutPin → PinDrive
  | .ao n => if (s.aoVolts n).isSome then .active else .pulledLow
  | .pv n =>
    if !s.pins.pvDrive.getLsbD n then .highZ
    else if s.pins.pvOut.getLsbD n then .high
    else .low
  | .pwf n => (s.pins.pwf.getD n {}).drive
  | .ls n => if s.strLit n then .sinks else .released
  | .bgate => if s.bgateSwitches then .active else .low
  | .mk c => if (s.mkOf c).frame.isSome then .active else .low
  | .trigout => if s.pins.trigout then .high else .low
  | .guardo => if s.pins.guardo then .active else .low
  | .pairLostN => if s.pins.pairLost then .low else .released
  | .evtn => if s.evtnLow then .low else .released
  | .refout => match s.refout with
    | .held => .held
    | .runs _ => .active
  | .lane n i => match s.txLane n i with
    | .silent => .highZ
    | .electricalIdle => .held
    | .training | .frames | .fill => .active
  | .maintenance => if s.maintenanceMaster then .active else .input

/-- What a pin does (R495, R503). -/
def State.outPin (s : State) (p : OutPin) : PinDrive :=
  if !s.pwr.supply then p.off
  else if s.scanForces then
    (if p.inChain then .chain
     else match p with
      | .ao _ => .pulledLow
      | .ls _ => .released
      | .bgate => .low
      | .lane _ _ => .held
      | p => if s.pwr.resetn then s.blockPin p else p.inReset)
  else if !s.pwr.resetn then p.inReset
  else s.blockPin p

end Sys2Proof.Machine
end

