-- ==== Sys2Proof/Machine/Steps.lean ====
section
/-! DEFINITION. STEP_APPLY (R62): what a step of the counter means for the happenings that are under
way. What counts tick periods keeps its distance in time, so its ticks move with the counter; what is
a tick on the scale stays (log entry 15). -/
namespace Sys2Proof.Machine

/-- A tick under way moves with the counter. -/
def moved (k : Int) (t : Tick) : Tick := t + BitVec.ofInt 48 k

def movedStep (k : Int) (t : Tick × Nat) : Tick × Nat := (moved k t.1, t.2)

/-- Gates of the shot in progress: those still open are spoiled (R211). -/
def Gate.step (k : Int) (g : Gate) : Gate :=
  { g with lo := moved k g.lo, hi := moved k g.hi, spoil := g.spoil || !g.done }

/-- An output in flight: an end already fixed and the end of a gap move (R175). -/
def VecOut.step (k : Int) (o : VecOut) : VecOut :=
  { o with
    till := o.till.map (fun e => (moved k e.1, e.2.1, e.2.2.1, moved k e.2.2.2))
    resume := o.resume.map (moved k) }

/-- The pattern engine counts tick periods: a step does not disturb it (R175). A start that is still
scheduled is a tick on the scale, with all that is issued for it. -/
def Pattern.step (k : Int) (x : Pattern) : Pattern :=
  let x := { x with edges := x.edges.map (movedStep k), idleSince := x.idleSince.map (moved k) }
  if x.start.isSome then x
  else { x with
    cur := x.cur.map (VecOut.step k), issued := x.issued.map (VecOut.step k)
    curAt := movedStep k x.curAt, ref := moved k x.ref }

/-- Conversions in hand and requests that wait (R240, R264). -/
def PcCore.step (k : Int) (x : PcCore) : PcCore :=
  { x with
    convStart := moved k x.convStart
    urgents := x.urgents.map (fun u => { u with since := moved k u.since })
    serving := x.serving.map (fun e => ({ e.1 with since := moved k e.1.since }, moved k e.2)) }

/-- A pair's first conversion keeps its distance in time to the second. -/
def SpPort.step (k : Int) (x : SpPort) : SpPort :=
  { x with prev := x.prev.map (fun e => (e.1, e.2.1, moved k e.2.2.1, e.2.2.2)) }

/-- A loop's writes, its latest latch and its takeover allowance keep their distance in time; a sample
start is a tick on the scale. -/
def Loop.step (k : Int) (x : Loop) : Loop :=
  { x with
    notBefore := x.notBefore.map (moved k), lastStart := none, latched := x.latched.map (moved k)
    writes := x.writes.map (fun w => { w with landed := moved k w.landed }) }

/-- Gathering windows that hold the step at tick `first` end there (R153), and so do the windows
committed lately, at moment `u`; TRIGOUT pulses that are due keep their distance (R161). `gen` counts
the steps before this one. -/
def Trigger.step (k : Int) (first : Tick) (u gen : Nat) (x : Trigger) : Trigger :=
  { x with
    gaths := x.gaths.map (fun g =>
      if g.cuts.isEmpty || g.gen != gen then g else clipStep first g)
    windows := x.windows.map (fun w => (w.1, w.2.1, min w.2.2 (u : Int)))
    pulses := x.pulses.map (moved k), pulseEnd := x.pulseEnd.map (moved k) }

/-- A demodulator's shot and the results that loops read keep their distance in time. -/
def Demod.step (k : Int) (x : Demod) : Demod :=
  { x with
    gates := x.gates.map (Gate.step k)
    single := x.single.map (fun e => (e.1, moved k e.2))
    average := x.average.map (fun e => (e.1, moved k e.2)) }

/-- STEP_APPLY. With no step pending nothing happens. -/
def State.stepApply (s : State) : State :=
  match s.firstStep with
  | none => s
  | some n =>
    let gen := s.tb.gen
    let s := s.applyStep
    let k := tickDiff s.now n.tick
    let s := s.when (decide (0 < k)) (fun s => s.gapSkipped n.tick k.toNat)
    let s : State := { s with
      dm := s.dm.map (Demod.step k), pc := s.pc.map (PcCore.step k)
      sp := s.sp.map (SpPort.step k), ce := s.ce.map (Loop.step k) }
    (s.modPat (Pattern.step k)).modTrg (Trigger.step k n.tick s.tb.up gen)

/-- STEP_APPLY, R62. -/
def execStepApply (s : State) : Host.Outcome State Fault Refusal := .next s.stepApply

end Sys2Proof.Machine
end

