-- ==== Sys2Proof/Machine/RegisterWrite.lean ====
section
/-! DEFINITION. The register path's writes (R438, R439, R446, R447, R462, R501): which address a
write may touch, what each block does with it, and the commands that are one register write. -/
namespace Sys2Proof.Machine

/-! ### The map (R462) -/

/-- The block an address belongs to, by its base. -/
def blockOf (a : Nat) : Option Nat :=
  if a < 0x60000 || (0x80000 ≤ a && a < 0x140000) then some (a / 0x10000 * 0x10000)
  else if 0x400000 ≤ a && a < 0x800000 then some 0x400000
  else if 0x800000 ≤ a && a < 0x900000 then some 0x800000
  else none

/-- The domains one of which an access needs: a set's own group, or any group of a block's common
registers. -/
def domainsOf (a : Nat) : List Nat :=
  if a < 0x10000 then
    if (0x100 ≤ a && a < 0x110) || (0x8000 ≤ a && a < 0xC000) then [dATSQ]
    else if 0x200 ≤ a && a < 0x300 then [dCORE]
    else [dAON]
  else if a < 0x20000 then [dPLL]
  else if a < 0x30000 then
    if 0x21000 ≤ a && a < 0x21500 then [gxDomain ((a - 0x21000) / 0x100)]
    else [dLSPINE, dLFORE, dLMATE]
  else if a < 0x40000 then [dAON]
  else if a < 0x60000 then [dCORE]
  else if a < 0x90000 then
    if 0x81000 ≤ a && a < 0x81800 then [tkDomain ((a - 0x81000) / 0x20)]
    else if 0x88000 ≤ a then [tkDomain ((a - 0x88000) / 0x200)]
    else [dTK 0, dTK 1, dTK 2, dTK 3]
  else if a < 0xA0000 then
    if 0x91000 ≤ a && a < 0x91400 then [faDomain ((a - 0x91000) / 0x20)]
    else [dFA 0, dFA 1, dFA 2, dFA 3]
  else if a < 0xC0000 then [dCORE]
  else if a < 0xD0000 then [dLOAM]
  else if a < 0xE0000 then [dPAT]
  else if a < 0xF0000 then [dDEMOD]
  else if a < 0x100000 then
    if 0xF1000 ≤ a && a < 0xF1400 then [dSP ((a - 0xF1000) / 0x200)] else [dSP 0, dSP 1]
  else if a < 0x110000 then [dPCV]
  else if a < 0x120000 then [dCTRL]
  else if a < 0x130000 then
    if 0x121000 ≤ a && a < 0x121200 then [aoDomain ((a - 0x121000) / 16)] else [dAO 0, dAO 1]
  else if a < 0x140000 then [dLIGHT]
  else if a < 0x800000 then [dCAPMEM]
  else [dPAT]

/-- An access finds its domain on. -/
def State.powered (s : State) (a : Nat) : Bool := (domainsOf a).any s.domOn

/-- DETAIL of an access whose domain is off (R434). -/
def offDetail (a : Nat) : Nat := if 0x121000 ≤ a && a < 0x121200 then 0xA0 else 8

/-- The address is a word of patch RAM (R446). -/
def isPatchRam (a : Nat) : Bool := 0x8000 ≤ a && a < 0xC000

/-- What refuses any access to an address (R439, R462). -/
def State.accessCheck (s : State) (a : Nat) : Option (Nat × Nat) :=
  if a % 4 != 0 then some (stBadParam, 7)
  else if (blockOf a).isNone then some (stBadParam, 8)
  else if !s.powered a then some (stStateConflict, offDetail a)
  else none

/-! ### The patch RAM (R446 to R448) -/

/-- One bit of the reflected CRC-32 of R447. -/
def crcBit (c : W32) : W32 := if bitOf c 0 then (c >>> 1) ^^^ 0xEDB88320 else c >>> 1

/-- One byte fed into the CRC. -/
def crcByte (c : W32) (b : BitVec 8) : W32 :=
  let d := c ^^^ b.setWidth 32
  crcBit (crcBit (crcBit (crcBit (crcBit (crcBit (crcBit (crcBit d)))))))

/-- One word fed into the CRC, least significant byte first. -/
def crcWord (c w : W32) : W32 :=
  crcByte (crcByte (crcByte (crcByte c (w.extractLsb' 0 8)) (w.extractLsb' 8 8))
    (w.extractLsb' 16 8)) (w.extractLsb' 24 8)

/-- The CRC-32 over words (R447). -/
def crc32 (l : List W32) : W32 := ~~~(l.foldl crcWord 0xFFFFFFFF)

/-- The first `n` words of the patch RAM. -/
def State.patchWords (s : State) (n : Nat) : List W32 :=
  (List.range n).map (fun i => s.memWord (0x8000 + 4 * i))

/-- The check that an enable with a length fails (R447). -/
def State.patchCheck (s : State) (len : Nat) : Option (Nat × Nat) :=
  if len == 0 || 4096 < len then some (stBadParam, 3)
  else if crc32 (s.patchWords len) != s.rd PATCH_CRC.addr then some (stDataError, 1)
  else if bits ((s.memWord 0x8000).setWidth 64) 31 16 != s.get FW_VER_ROM then some (stDataError, 2)
  else none

/-- A write to PATCH_CTL (R447). -/
def State.writePatchCtl (s : State) (v : W32) : WriteResult :=
  let a := PATCH_CTL.addr
  if s.bit PATCH_CTL_EN then
    if !bitOf v 31 then .ok ((s.plainWrite a v).put FW_VER_PATCH 0)
    else if PATCH_CTL_LEN.read v != s.get PATCH_CTL_LEN then refuseWrite stStateConflict 0xA
    else .ok s
  else if !bitOf v 31 then .ok (s.plainWrite a v)
  else match s.patchCheck (PATCH_CTL_LEN.read v) with
    | some (st, d) => .error (st, d, .patchErr)
    | none => .ok ((s.plainWrite a v).put FW_VER_PATCH ((s.memWord 0x8000).toNat % 2 ^ 16))

/-- A write to PATCH_CRC (R447). -/
def State.writePatchCrc (s : State) (v : W32) : WriteResult :=
  if s.bit PATCH_CTL_EN && v != s.rd PATCH_CRC.addr then refuseWrite stStateConflict 0xA
  else .ok (s.plainWrite PATCH_CRC.addr v)

/-- A write of a word of patch RAM (R446). -/
def State.writePatchRam (s : State) (a : Nat) (v : W32) : WriteResult :=
  if s.bit PATCH_CTL_EN then refuseWrite stStateConflict 0xA else .ok (s.setMemWord a v)

/-- What a failed enable leaves (R447). -/
def State.patchFailed (s : State) : State := (s.putB PATCH_CTL_ERR true).raise 6

/-! ### The flash bridge (R501) -/

/-- A write to MFL_CMD. -/
def State.writeMflCmd (s : State) (v : W32) : WriteResult :=
  if s.bit MFL_CMD_BUSY then refuseWrite stBusy 0
  else if !bitOf v 31 then .ok (s.plainWrite MFL_CMD.addr v)
  else if !s.bit STRAP_BOOTSRC then refuseWrite stBadParam 0xB
  else
    let s := (s.plainWrite MFL_CMD.addr v).putB MFL_CMD_BUSY true
    .ok (s.modAtq (fun x => { x with flashRead := s.bit MFL_CMD_DIR }))

/-- A write to MFL_BUF. -/
def State.writeMflBuf (s : State) (a : Nat) (v : W32) : WriteResult :=
  if s.bit MFL_CMD_BUSY then refuseWrite stBusy 0 else .ok (s.plainWrite a v)

/-! ### The blocks -/

/-- A write into the block at 000000h. -/
def State.writeIdentity (s : State) (a : Nat) (v : W32) : WriteResult :=
  if 0x20 ≤ a && a < 0x30 then s.writeClaim a v
  else if a == PATCH_CTL.addr then s.writePatchCtl v
  else if a == PATCH_CRC.addr then s.writePatchCrc v
  else if a == MFL_CMD.addr then s.writeMflCmd v
  else if 0x400 ≤ a && a < 0x500 then s.writeMflBuf a v
  else .ok (s.plainWrite a v)

/-- A write into the block at 010000h. -/
def State.writeTime (s : State) (a : Nat) (v : W32) : State :=
  if a == TB_CFG.addr then s.writeTbCfg v
  else if a == TSYNC_CFG.addr then s.writeTsyncCfg v
  else s.plainWrite a v

/-- A write into the block at 030000h (R470). -/
def State.writeCustody (s : State) (a : Nat) (v : W32) : WriteResult :=
  if a == MIR_CFG.addr && s.modeOn mMIRROR then refuseWrite stStateConflict 0x25
  else .ok (s.plainWrite a v)

/-- A write into the block at 080000h. -/
def State.writeTimekeeper (s : State) (a : Nat) (v : W32) : State :=
  if 0x81000 ≤ a && a < 0x81800 && a % 0x20 == 0 then s.writeChCfg ((a - 0x81000) / 0x20) v
  else if 0x82000 ≤ a && a < 0x82100 && a % 0x10 == 0 then s.writeIvCfg ((a - 0x82000) / 0x10) v
  else s.plainWrite a v

/-- A write into the block at 090000h. -/
def State.writeFast (s : State) (a : Nat) (v : W32) : WriteResult :=
  let c := (a - 0x91000) / 0x20
  if a == FA_GCFG.addr then s.writeFaGcfg v
  else if a < 0x91000 then .ok (s.plainWrite a v)
  else if a % 0x20 == 0 then s.writeFaCfg c v
  else if a % 0x20 == 4 || a % 0x20 == 8 then s.writeFaRst c a v
  else .ok (s.plainWrite a v)

/-- A write into the block at 0A0000h. -/
def State.writeTrigger (s : State) (a : Nat) (v : W32) : WriteResult :=
  if a == TRG_WIN.addr then s.writeTrgWin v
  else if a == TRG_IO.addr then s.writeTrgIo v
  else .ok (s.plainWrite a v)

/-- A write into the block at 0B0000h. -/
def State.writeSewing (s : State) (a : Nat) (v : W32) : State :=
  if 0xB1000 ≤ a && a < 0xB1200 && a % 0x10 == 0 then s.writeSvCfg ((a - 0xB1000) / 0x10) v
  else s.plainWrite a v

/-- A write into the block at 0E0000h: settings, gates and taps have the rule of R225. A port that is
newly named or dropped as PROBE temperature port follows (R221, R251). -/
def State.writeEcho (s : State) (a : Nat) (v : W32) : WriteResult :=
  let o := (a - 0xE1000) % 0x100
  if 0xE8000 ≤ a then s.writeDemod ((a - 0xE8000) / 0x100) a v
  else if 0xE1000 ≤ a && (o < 0x1C || 0x40 ≤ o) then
    (s.writeDemod ((a - 0xE1000) / 0x100) a v).map State.refreshPorts
  else .ok (s.plainWrite a v)

/-- A write into the block at 0F0000h. -/
def State.writeSensor (s : State) (a : Nat) (v : W32) : WriteResult :=
  let p := (a - 0xF1000) / 0x40
  if a == PS_GCFG.addr then s.writeScan a v
  else if a < 0xF1000 then .ok (s.plainWrite a v)
  else if a % 0x40 < 0xC then s.writePort p a v
  else if a % 0x40 == 0x18 then s.writePsStat p v
  else .ok (s.plainWrite a v)

/-- A write into the block at 100000h. -/
def State.writePrecision (s : State) (a : Nat) (v : W32) : WriteResult :=
  if a == PC_URG.addr then s.writePcUrg v
  else if a == PC_LCOMMIT.addr then s.writeLcommit v
  else if 0x100100 ≤ a && a < 0x100200 && a % 0x20 == 0 then s.writeScan a v
  else if 0x100100 ≤ a && a < 0x100200 && a % 0x20 == 4 then
    s.writePcIlv ((a - 0x100100) / 0x20) v
  else if 0x100800 ≤ a && a < 0x100A00 && a % 0x20 == 0 then
    s.writePcPort ((a - 0x100800) / 0x20) v
  else if 0x101000 ≤ a && a < 0x101400 && a % 8 == 4 then
    .ok (s.setCalGain ((a - 0x101000) / 0x40) ((a - 0x101000) % 0x40 / 8) v)
  else if 0x105000 ≤ a && a < 0x105080 && a % 0x10 == 0 then
    s.writePwfCfg ((a - 0x105000) / 0x10) v
  else .ok (s.plainWrite a v)

/-- A write to a register that stands in a powered block. -/
def State.writeBlock (s : State) (a : Nat) (v : W32) : WriteResult :=
  if a < 0x10000 then s.writeIdentity a v
  else if a < 0x20000 then .ok (s.writeTime a v)
  else if a < 0x30000 then .ok (s.writeGrenyx a v)
  else if a < 0x40000 then s.writeCustody a v
  else if a < 0x50000 then .ok (s.writeEvents a v)
  else if a < 0x80000 then .ok (s.plainWrite a v)
  else if a < 0x90000 then .ok (s.writeTimekeeper a v)
  else if a < 0xA0000 then s.writeFast a v
  else if a < 0xB0000 then s.writeTrigger a v
  else if a < 0xC0000 then .ok (s.writeSewing a v)
  else if a < 0xD0000 then s.writeLoam a v
  else if a < 0xE0000 then s.writePattern a v
  else if a < 0xF0000 then s.writeEcho a v
  else if a < 0x100000 then s.writeSensor a v
  else if a < 0x110000 then s.writePrecision a v
  else if a < 0x120000 then s.writeControl a v
  else if a < 0x130000 then s.writeAnalog a v
  else .ok (s.writeLight a v)

/-- AO_DATA's own checks stand before that of its domain (R321, R327). -/
def isAoData (a : Nat) : Bool := 0x121000 ≤ a && a < 0x121200 && a % 16 == 4

/-- One register or memory write (R439): refused, or the state after it. An address at which nothing
stands, and the capture memory, ignore it; the reserved word of a segment descriptor is one of the
descriptor's own (R181, R194). -/
def State.writeReg (s : State) (a : Nat) (v : W32) : WriteResult :=
  match s.accessCheck a with
  | some (st, d) =>
    if isAoData a && st == stStateConflict then s.writeAnalog a v else refuseWrite st d
  | none =>
    if isPatchRam a then s.writePatchRam a v
    else if 0x800000 ≤ a then s.writeVecWord a v
    else if 0xD4000 ≤ a && a < 0xD8000 then s.writePattern a v
    else if (regRow? a).isNone then .ok s
    else s.writeBlock a v

/-- What a refused write leaves. -/
def State.leaveMark (s : State) : WriteMark → State
  | .nothing => s
  | .patchErr => s.patchFailed

/-- A register write that comes as a step of its own: refused, it leaves its mark only. -/
def State.doWrite (s : State) (a : Nat) (v : W32) : State :=
  match s.writeReg a v with
  | .ok t => t
  | .error (_, _, m) => s.leaveMark m

/-- The flash bridge's command ends (R501): a read fills MFL_BUF. -/
def State.flashDone (s : State) (data : List (BitVec 8)) : State :=
  if !s.bit MFL_CMD_BUSY then s
  else
    let n := min 256 (s.get MFL_CMD_NBYTES)
    let s := s.putB MFL_CMD_BUSY false
    if !s.atq.flashRead then s
    else (List.range n).foldl (fun s i => match data[i]? with
      | some b => s.put ⟨0x400 + i / 4 * 4, i % 4 * 8 + 7, i % 4 * 8⟩ b.toNat
      | none => (s.put ⟨0x400 + i / 4 * 4, i % 4 * 8 + 7, i % 4 * 8⟩ s.fresh.1).fresh.2) s

/-! ### The steps -/

/-- REGISTER_WRITE, R439. -/
def execRegisterWrite (a : Addr) (v : W32) (s : State) : Host.Outcome State Fault Refusal :=
  .next (s.doWrite a.toNat v)

/-- STRB, R117: a write to FA_RST. -/
def execStrb (c : BitVec 5) (v : W32) (s : State) : Host.Outcome State Fault Refusal :=
  .next (s.doWrite (FA_RST c.toNat).addr v)

/-- FA_FRONT_END_WRITE, R129. -/
def execFaFrontEndWrite (a : Addr) (v : W32) (s : State) : Host.Outcome State Fault Refusal :=
  .next (s.doWrite a.toNat v)

/-- CLAIM_WRITE, R45. -/
def execClaimWrite (a : Addr) (v : W32) (s : State) : Host.Outcome State Fault Refusal :=
  .next (s.doWrite a.toNat v)

/-- PAT_CAL_START, R176: a write to PAT_CAL. -/
def execPatCalStart (v : W32) (s : State) : Host.Outcome State Fault Refusal :=
  .next (s.doWrite PAT_CAL.addr v)

/-- PORT_SETTINGS_WRITE, R249. -/
def execPortSettingsWrite (a : Addr) (v : W32) (s : State) : Host.Outcome State Fault Refusal :=
  .next (s.doWrite a.toNat v)

/-- PS_FAULT_CLEAR, R248: a write to PS_STAT. -/
def execPsFaultClear (p : BitVec 4) (v : W32) (s : State) : Host.Outcome State Fault Refusal :=
  .next (s.doWrite (PS_STAT p.toNat).addr v)

/-- PC_URG, R261. -/
def execPcUrg (v : W32) (s : State) : Host.Outcome State Fault Refusal :=
  .next (s.doWrite PC_URG.addr v)

/-- PC_LCOMMIT, R275. -/
def execPcLcommit (v : W32) (s : State) : Host.Outcome State Fault Refusal :=
  .next (s.doWrite PC_LCOMMIT.addr v)

/-- PC_ILV_WRITE, R265. -/
def execPcIlvWrite (k : BitVec 3) (v : W32) (s : State) : Host.Outcome State Fault Refusal :=
  .next (s.doWrite (PC_ILV k.toNat).addr v)

/-- AO_CFG_WRITE, R322. -/
def execAoCfgWrite (n : BitVec 5) (v : W32) (s : State) : Host.Outcome State Fault Refusal :=
  .next (s.doWrite (AO_CFG n.toNat).addr v)

/-- AO_DATA_WRITE, R325. -/
def execAoDataWrite (n : BitVec 5) (v : W32) (s : State) : Host.Outcome State Fault Refusal :=
  .next (s.doWrite (AO_DATA n.toNat).addr v)

/-- LS_FAULT_CLEAR, R344: a write to LS_STAT. -/
def execLsFaultClear (n : BitVec 3) (v : W32) (s : State) : Host.Outcome State Fault Refusal :=
  .next (s.doWrite (LS_STAT n.toNat).addr v)

/-- BST_RESTART, R336: a write to BST_STAT. -/
def execBstRestart (v : W32) (s : State) : Host.Outcome State Fault Refusal :=
  .next (s.doWrite BST_STAT.addr v)

/-- LP_RETEST, R381: a write to LP_QUAR. -/
def execLpRetest (v : W32) (s : State) : Host.Outcome State Fault Refusal :=
  .next (s.doWrite LP_QUAR.addr v)

/-- PATCH_ENABLE, R447: a write to PATCH_CTL. -/
def execPatchEnable (v : W32) (s : State) : Host.Outcome State Fault Refusal :=
  .next (s.doWrite PATCH_CTL.addr v)

/-- MFL_GO, R501: a write to MFL_CMD. -/
def execMflGo (v : W32) (s : State) : Host.Outcome State Fault Refusal :=
  .next (s.doWrite MFL_CMD.addr v)

/-- FLASH_COMMAND_DONE, R501. -/
def execFlashCommandDone (data : List (BitVec 8)) (s : State) : Host.Outcome State Fault Refusal :=
  .next (s.flashDone data)

/-- TSYNC_ARM, R75: a write to TSYNC_CFG. -/
def execTsyncArm (v : W32) (s : State) : Host.Outcome State Fault Refusal :=
  .next (s.doWrite TSYNC_CFG.addr v)

/-- SPINE_REF_WRITE, R404: a write to TB_CFG. -/
def execSpineRefWrite (v : W32) (s : State) : Host.Outcome State Fault Refusal :=
  .next (s.doWrite TB_CFG.addr v)

/-- GX_RETRAIN, R405: a write to GX_PCFG of a port. -/
def execGxRetrain (n : Fin 5) (v : W32) (s : State) : Host.Outcome State Fault Refusal :=
  .next (s.doWrite (GX_PCFG n.val).addr v)

end Sys2Proof.Machine
end

