-- ==== Sys2Proof/Machine/RegisterRead.lean ====
section
/-! DEFINITION. The register path's reads (R438, R439): the words that registers show of the state
beside them, the latches of paired registers (R80) and the restart of RC fields (R4). -/
namespace Sys2Proof.Machine

/-- Bits [lo + 31 : lo] of a signed number. -/
def intWord (x : Int) (lo : Nat) : W32 := BitVec.ofNat 32 (asCode 64 x / 2 ^ lo)

/-- UP of every port that is UP or IDLE (GX_STAT). -/
def State.gxStat (s : State) : W32 :=
  (List.range 5).foldl (fun w n => setBit w n (s.gxLive n)) 0

/-- GX_PSTAT: SPREAD is 1 while the head's spine port runs from LREF (R404). -/
def State.gxPstat (s : State) (n : Nat) : W32 :=
  setBit (s.rd (GX_PSTAT n).addr) 18 (n == 0 && s.isHead && s.bit TB_CFG_SPINE_REF)

/-- DM_STAT: UNCLAIMED (R203) and BUSY while a gate is open (R209). -/
def State.dmStat (s : State) (d : Nat) : W32 :=
  setBit (setBit (s.rd (DM_STAT d).addr) 31 (s.dmUnclaimed d)) 30
    ((s.dmOf d).gates.any (fun g => !g.done))

/-- A queue has a W1C bit of Q_FLAG set (LP_EVQ). -/
def State.queueFlagged (s : State) (q : Nat) : Bool :=
  (s.rd (Q_FLAG q).addr).toNat / 2 ^ 28 != 0

/-- LP_EVQ word `i`. -/
def State.evq (s : State) (i : Nat) : W32 :=
  (List.range 32).foldl (fun w j => setBit w j (s.queueFlagged (32 * i + j))) 0

/-- Live receiver levels of the PV pins: a driven pin reads its own level. -/
def State.patPins (s : State) : W32 :=
  (s.pins.pvOut &&& s.pins.pvDrive) ||| (s.pins.pvIn &&& ~~~s.pins.pvDrive)

/-- What a register in the Loam pool's block reads as. -/
def State.loamWord (s : State) (a : Nat) : W32 :=
  let q := (a - 0xC1000) / 32
  if a == LP_STAT.addr then BitVec.ofNat 32 (s.freeGrains * 2 ^ 16 + s.loam.quar)
  else if a == LP_RSV.addr then BitVec.ofNat 32 (s.reserveSum % 2 ^ 16)
  else if 0xC0040 ≤ a && a < 0xC0060 then s.evq ((a - 0xC0040) / 4)
  else if 0xC1000 ≤ a && a % 32 == 0x10 then
    BitVec.ofNat 32 (s.level q * 2 ^ 16 +
      (if q == 0xFF then s.sew.held.length else (s.queue q).items.length) % 2 ^ 16)
  else if 0xC1000 ≤ a && a % 32 == 4 then (Q_LIM_DEPTH q).write (s.depth q) (s.rd a)
  else s.rd a

/-- Pending commands (CMD_STAT.PEND): a group whose own part is pending counts once. -/
def State.pendCount (s : State) : Nat :=
  s.atq.pend.length +
    (s.atq.groups.filter (fun g => !s.atq.pend.any (fun p => p.tag == g.tag))).length

/-- The word a register shows, apart from the registers whose read latches others. -/
def State.showWord (s : State) (a : Nat) : W32 :=
  if a == CMD_STAT.addr then CMD_STAT_PEND.write s.pendCount (s.rd a)
  else if a == GX_STAT.addr then s.gxStat
  else if 0x21000 ≤ a && a < 0x21500 && a % 0x100 == 4 then s.gxPstat ((a - 0x21000) / 0x100)
  else if a == CUS_STAT.addr then s.cusStat
  else if a == EV_SUM.addr then s.evSum
  else if 0x44000 ≤ a && a < 0x44B00 && sourceReserved ((a - 0x44000) / 4) then 0
  else if a == SEW_STAT.addr then s.sewStat
  else if 0xC0000 ≤ a && a < 0xD0000 then s.loamWord a
  else if a == PAT_PINS.addr then s.patPins
  else if 0xE1000 ≤ a && a < 0xE2000 && a % 0x100 == 0x20 then s.dmStat ((a - 0xE1000) / 0x100)
  else if 0x101000 ≤ a && a < 0x101400 && a % 8 == 4 then
    s.calGain ((a - 0x101000) / 0x40) ((a - 0x101000) % 0x40 / 8)
  else if 0x121000 ≤ a && a < 0x121200 && a % 16 == 8 then s.aoStat ((a - 0x121000) / 16)
  else if a == BST_STAT.addr then s.settleRamp.rd a
  else s.rd a

/-- TB_NOW_LO: the counter within the accuracy of R16; TB_NOW_HI latches (R80). -/
def State.readNow (s : State) : W32 × State :=
  if !s.tb.started then (0, s.wr TB_NOW_HI.addr 0)
  else
    let (t, s) := s.lagged s.now
    let e := if t.toNat < s.now.toNat then s.tb.epoch + 1 else s.tb.epoch
    (t.setWidth 32, s.wr TB_NOW_HI.addr (e ++ t.extractLsb' 32 16))

/-- TSYNC_LAST_LO; TSYNC_LAST_HI latches (R80). -/
def State.readTsync (s : State) : W32 × State :=
  (s.tb.tsLast.tick.setWidth 32, (s.put TSYNC_LAST_HI_FINE s.tb.tsLast.fine.toNat).put
    TSYNC_LAST_HI_TICK_H (s.tb.tsLast.tick.toNat / 2 ^ 32))

/-- PORTn_OFFSET; PORTn_OFFH latches (R80). -/
def State.readOffset (s : State) (n : Nat) : W32 × State :=
  (intWord (s.tbPort n).offset 0, s.wr (PORT_OFFH n).addr (intWord (s.tbPort n).offset 32))

/-- The word a read returns, with the latches it sets. Capture memory shows the ring words that have
arrived (R125). -/
def State.readWord (s : State) (a : Nat) : W32 × State :=
  if isPatchRam a || 0x800000 ≤ a then (s.memWord a, s)
  else if 0x400000 ≤ a then (s.settleRings.memWord a, s.settleRings)
  else if (regRow? a).isNone then (0, s)
  else if a == TB_NOW_LO.addr then s.readNow
  else if a == TSYNC_LAST_LO.addr then s.readTsync
  else if 0x10100 ≤ a && a < 0x101A0 && a % 0x20 == 4 then s.readOffset ((a - 0x10100) / 0x20)
  else (s.showWord a, s)

/-- RC fields restart after a read: at their reset value, PEAK at the LEVEL present (R4, R375). -/
def State.restartRc (s : State) (a : Nat) : State :=
  match regRow? a with
  | none => s
  | some r =>
    let s := s.wr a (r.afterRead (s.rd a))
    if 0xC1000 ≤ a && a < 0xC3000 && a % 32 == 0x14 then
      s.put (Q_FLAG_PEAK ((a - 0xC1000) / 32)) (s.level ((a - 0xC1000) / 32))
    else s

/-- One register or memory read (R439): refused, or the word and the state after it. The read inside
REG_MODIFY clears nothing. -/
def State.readReg (s : State) (a : Nat) (clears : Bool) : Except (Nat × Nat) (W32 × State) :=
  match s.accessCheck a with
  | some e => .error e
  | none =>
    let (w, s) := s.readWord a
    .ok (w, s.when clears (fun s => s.restartRc a))

end Sys2Proof.Machine
end

