-- ==== Sys2Proof/Machine/Boot.lean ====
section
/-! DEFINITION. The boot steps (R496 to R499) and the maintenance port as a target (R500). -/
namespace Sys2Proof.Machine

/-- CORE, ATSQ and LOAM are on in BOOT, so the firmware's boot steps run (R496, R513). -/
def State.booting (s : State) : Bool :=
  s.unitState == usBoot && s.domOn dCORE && s.domOn dATSQ && s.domOn dLOAM

/-- A failed boot step: BOOT_STAT.ERR, BOOT_FAIL and FAULT (R498). -/
def State.bootFail (s : State) (code : Nat) : State :=
  ((s.put BOOT_STAT_ERR code).putB FAULT_CAUSE_BOOT_FAIL true).enterFault false

/-- Boot is over (R30, R411). -/
def State.bootReady (s : State) : State := (s.enterState usReady).foreCheck

/-- ROM_CHECK_DONE (R496). -/
def State.romCheck (s : State) (ok : Bool) : State :=
  if !s.booting || s.pwr.romOk then s
  else if ok then (s.modPwr (fun x => { x with romOk := true }))
  else s.bootFail 1

/-- MEMORY_TEST_DONE (R496): failing grains are quarantined; without a flash image the unit is
READY. -/
def State.memoryTest (s : State) (failing : Nat) : State :=
  if !s.booting || !s.pwr.romOk || s.pwr.memOk then s
  else
    let n := min failing poolGrains
    let (l, s) := s.quarantine n
    let s := s.raiseAll l
    if s.get LP_CFG_QLIM < n then s.bootFail 2
    else
      let s := (s.modPwr (fun x => { x with memOk := true }))
      if s.bit STRAP_BOOTSRC then s else s.bootReady

/-- Writes words into the patch RAM from word `i` on. -/
def State.loadPatch (s : State) (i : Nat) : List W32 → State
  | [] => s
  | w :: l => (s.setMemWord (0x8000 + 4 * i) w).loadPatch (i + 1) l

/-- Step 2 of R498: the image's patch replaces the one in force; false where its check fails. -/
def State.imagePatch (s : State) (np : Nat) (crc : W32) (patch : List W32) : Bool × State :=
  let s := (s.putB PATCH_CTL_EN false).put FW_VER_PATCH 0
  if 4096 < np then (false, s.patchFailed)
  else
    let s := (s.loadPatch 0 patch).wr PATCH_CRC.addr crc
    match s.writeReg PATCH_CTL.addr (BitVec.ofNat 32 (2 ^ 31 + np)) with
    | .ok t => (true, t)
    | .error (_, _, m) => (false, s.leaveMark m)

/-- Step 3 of R498: the init pairs in order, counted in INIT; false where a write is refused. -/
def State.imageInit (s : State) : List W32 → Bool × State
  | a :: v :: l =>
    match s.writeReg a.toNat v with
    | .ok t => (t.bump BOOT_STAT_INIT).imageInit l
    | .error (_, _, m) => (false, s.leaveMark m)
  | _ => (true, s)

/-- Steps 2 and 3 of R498, then READY. -/
def State.imageApply (s : State) (np ni : Nat) (w : List W32) : State :=
  let (ok, s) := if np == 0 then (true, s)
    else s.imagePatch np (w.getD 2 0) ((w.drop 3).take np)
  if !ok then s.bootFail 6
  else
    let (ok, s) := s.imageInit ((w.drop (3 + np)).take (2 * ni))
    if ok then s.bootReady else s.bootFail 7

/-- FLASH_IMAGE_READ (R497, R498): words beyond those given read as erased flash. -/
def State.flashImage (s : State) (image : List W32) : State :=
  if !s.booting || !s.pwr.memOk || !s.bit STRAP_BOOTSRC then s
  else
    let s := s.putB BOOT_STAT_FLASH true
    let w0 := image.getD 0 0xFFFFFFFF
    let w1 := image.getD 1 0xFFFFFFFF
    let ni := w1.toNat / 2 ^ 16
    let np := w1.toNat % 2 ^ 16
    let n := 3 + np + 2 * ni
    let w := (List.range n).map (fun i => image.getD i 0xFFFFFFFF)
    if w0 == 0xFFFFFFFF then s.bootFail 3
    else if w0 != 0x72640001 then s.bootFail 4
    else if crc32 w != image.getD n 0xFFFFFFFF then s.bootFail 5
    else s.imageApply np ni w

/-- The maintenance port is a target now (R500). -/
def State.maintOn (s : State) : Bool :=
  s.unitState != usOff && s.pwr.resetn && !s.bit STRAP_BOOTSRC

/-- MAINT_WRITE (R500): a refused write sets MREF. -/
def State.maintWrite (s : State) (a : Nat) (v : W32) : State :=
  if !s.maintOn then s
  else match s.writeReg a v with
    | .ok t => t
    | .error (_, _, m) => (s.leaveMark m).putB BOOT_STAT_MREF true

/-- MAINT_READ (R500): a refused read returns 0. -/
def State.maintRead (s : State) (a : Nat) : State :=
  if !s.maintOn then s
  else match s.readReg a true with
    | .ok (w, t) => (t.modAtq (fun x => { x with maintData := w }))
    | .error _ => (s.modAtq (fun x => { x with maintData := 0 }))

/-! ### The steps -/

/-- ROM_CHECK_DONE, R496. -/
def execRomCheckDone (ok : Bool) (s : State) : Host.Outcome State Fault Refusal :=
  .next (s.romCheck ok)

/-- MEMORY_TEST_DONE, R496. -/
def execMemoryTestDone (failing : BitVec 16) (s : State) : Host.Outcome State Fault Refusal :=
  .next (s.memoryTest failing.toNat)

/-- FLASH_IMAGE_READ, R498. -/
def execFlashImageRead (image : List W32) (s : State) : Host.Outcome State Fault Refusal :=
  .next (s.flashImage image)

/-- MAINT_WRITE, R500. -/
def execMaintWrite (a : Addr) (v : W32) (s : State) : Host.Outcome State Fault Refusal :=
  .next (s.maintWrite a.toNat v)

/-- MAINT_READ, R500. -/
def execMaintRead (a : Addr) (s : State) : Host.Outcome State Fault Refusal :=
  .next (s.maintRead a.toNat)

end Sys2Proof.Machine
end

