-- ==== Sys2Proof/Machine/UnitCommands.lean ====
section
/-! DEFINITION. The commands that no block owns: identity and power (R437), register access (R438,
R439), enumeration (R440, R441) and the trial commands (R450). Each answers how its own part ends,
after the checks of R428 and the LEN check of R514. -/
namespace Sys2Proof.Machine

/-! ### Identity, mode and power (R437) -/

/-- IDENT. -/
def State.identCmd (s : State) : CmdEnd :=
  .ok s [packWord [((s.rd IDENT.addr).toNat, 32, 32), ((s.rd FW_VER.addr).toNat, 0, 32)],
    packWord [(s.get STRAP_ROLE, 62, 2), (s.get STRAP_HEAD, 61, 1), (s.get STRAP_BOOTSRC, 60, 1),
      (s.unitState, 56, 3), (s.get MODE_STATUS_MASK, 48, 6), (s.get ENUM_STAT_GEN, 40, 8)]]

/-- NEGOTIATE. -/
def State.negotiateCmd (s : State) (c : Cmd) : CmdEnd :=
  let p := param c 0
  if c.p.length != 1 then .refuse s stBadParam 6
  else if bits p 63 60 < 3 || 4 < bits p 59 56 then .refuse s stVersion 0x43
  else .ok s [packWord [(4, 60, 4), (3, 56, 4), (3, 52, 4), (s.get (GX_PSTAT_VER 0), 48, 2),
    ((s.rd FW_VER.addr).toNat, 0, 32)]]

/-- PING. -/
def State.pingCmd (s : State) (c : Cmd) : CmdEnd := .ok s [param c 0]

/-- MODE_QUERY. -/
def State.modeQueryCmd (s : State) : CmdEnd :=
  .ok s [packWord [((s.rd MODE_STATUS.addr).toNat, 32, 32),
    ((s.rd FAULT_CAUSE.addr).toNat, 0, 32)]]

/-- RESET_UNIT: OK, and the reset is due; an active with MIRROR on yields first (R479). -/
def State.resetCmd (s : State) : CmdEnd :=
  if s.cstate == csACTIVE && s.modeOn mMIRROR then
    let s := (s.modCus (fun x => { x with resetAfter := true }))
    .ok (if s.cus.hb.isSome then s else s.planHandover 0xB true)
  else .ok (s.modAtq (fun x => { x with resetDue := true }))

/-! ### Register commands (R438, R439) -/

/-- A failing access: its status, DETAIL and mark, with its index. -/
structure AccessFail where
  status : Nat
  detail : Nat
  mark : WriteMark
  index : Nat

/-- One access of a command; the reads so far, newest first, and the state the accesses so far
leave. -/
inductive Access where
  | read (a : Nat)
  | write (a : Nat) (v : W32)
  | modify (a : Nat) (mask v : W32)
  /-- an access beyond the block that a block command starts in -/
  | crosses

/-- The word REG_MODIFY writes (R439). -/
def modifyWord (a : Nat) (old mask v : W32) : W32 :=
  let w := (old &&& ~~~mask) ||| (v &&& mask)
  match regRow? a with
  | some r => w &&& ~~~(r.w1cMask &&& ~~~mask)
  | none => w

/-- Performs one access: the words it shows, newest last, and the state after it. -/
def State.access (s : State) : Access → Except (Nat × Nat × WriteMark) (List W32 × State)
  | .read a => match s.readReg a true with
    | .ok (w, t) => .ok ([w], t)
    | .error (st, d) => .error (st, d, .nothing)
  | .write a v => match s.writeReg a v with
    | .ok t => .ok ([], t)
    | .error e => .error e
  | .modify a mask v => match s.readReg a false with
    | .error (st, d) => .error (st, d, .nothing)
    | .ok (old, t) => match t.writeReg a (modifyWord a old mask v) with
      | .ok t => .ok ([old, modifyWord a old mask v], t)
      | .error e => .error e
  | .crosses => .error (stBadParam, 8, .nothing)

/-- Performs accesses in order, from access `i` on. -/
def State.accesses (s : State) (i : Nat) : List Access → Except AccessFail (List (List W32) × State)
  | [] => .ok ([], s)
  | x :: l => match s.access x with
    | .error (st, d, m) => .error { status := st, detail := d, mark := m, index := i }
    | .ok (w, t) => match t.accesses (i + 1) l with
      | .error e => .error e
      | .ok (ws, u) => .ok (w :: ws, u)

/-- All accesses of a command, or none (R439). -/
def State.accessCmd (s : State) (l : List Access) (body : List (List W32) → List W64) : CmdEnd :=
  match s.accesses 0 l with
  | .ok (ws, t) => .ok t (body ws)
  | .error e => .answered e.status e.detail [packWord [(e.index, 0, 16)]] 0 0 (s.leaveMark e.mark)

/-- REG_READ. -/
def State.regReadCmd (s : State) (c : Cmd) : CmdEnd :=
  if c.p.length == 0 || 64 < c.p.length then .refuse s stBadParam 6
  else s.accessCmd (c.p.map (fun w => .read (bits w 23 0))) (fun ws =>
    List.zipWith (fun w r => packWord [(bits w 23 0, 32, 24), ((r.headD 0).toNat, 0, 32)]) c.p ws)

/-- REG_WRITE. -/
def State.regWriteCmd (s : State) (c : Cmd) : CmdEnd :=
  if c.p.length == 0 || 64 < c.p.length then .refuse s stBadParam 6
  else s.accessCmd (c.p.map (fun w => .write (bits w 55 32) (BitVec.ofNat 32 (bits w 31 0))))
    (fun _ => [])

/-- The accesses that pairs of REG_MODIFY words spell. -/
def modifyPairs : List W64 → List Access
  | a :: w :: l => .modify (bits a 23 0) (BitVec.ofNat 32 (bits w 63 32))
      (BitVec.ofNat 32 (bits w 31 0)) :: modifyPairs l
  | _ => []

/-- REG_MODIFY. -/
def State.regModifyCmd (s : State) (c : Cmd) : CmdEnd :=
  if c.p.length == 0 || 64 < c.p.length || c.p.length % 2 != 0 then .refuse s stBadParam 6
  else s.accessCmd (modifyPairs c.p) (fun ws => ws.map (fun r =>
    packWord [((r.headD 0).toNat, 32, 32), ((r.getD 1 0).toNat, 0, 32)]))

/-- An access of a block command, within the block it starts in. -/
def blockAccess (a i : Nat) (x : Access) : Access :=
  if (blockOf a).isSome && blockOf (a + 4 * i) != blockOf a then .crosses else x

/-- Registers as reply words, two in each. -/
def pairWords : List W32 → List W64
  | a :: b :: l => (b ++ a) :: pairWords l
  | [a] => [a.setWidth 64]
  | [] => []

/-- READ_BLOCK. -/
def State.readBlockCmd (s : State) (c : Cmd) : CmdEnd :=
  let n := bits (param c 0) 47 32
  let a := bits (param c 0) 23 0
  if c.p.length != 1 || n == 0 then .refuse s stBadParam 6
  else s.accessCmd ((List.range n).map (fun i => blockAccess a i (.read (a + 4 * i))))
    (fun ws => pairWords (ws.map (fun r => r.headD 0)))

/-- WRITE_BLOCK. -/
def State.writeBlockCmd (s : State) (c : Cmd) : CmdEnd :=
  let n := bits (param c 0) 47 32
  let a := bits (param c 0) 23 0
  let word (i : Nat) : W32 := BitVec.ofNat 32 ((param c (1 + i / 2)).toNat / 2 ^ (i % 2 * 32))
  if c.p.length != 1 + (n + 1) / 2 || n == 0 then .refuse s stBadParam 6
  else s.accessCmd ((List.range n).map (fun i => blockAccess a i (.write (a + 4 * i) (word i))))
    (fun _ => [])

/-! ### Enumeration (R23, R24, R440, R441) -/

/-- The subtrees that a list of units in depth-first order begins with at one depth, each with its
root first. -/
def subtrees (d : Nat) : List TreeUnit → List (List TreeUnit)
  | [] => []
  | u :: l =>
    match subtrees d l with
    | [] => [[u]]
    | t :: ts =>
      if (t.head?.map (fun v => decide (d < v.depth.toNat))) == some true then (u :: t) :: ts
      else [u] :: t :: ts

/-- Inserts a subtree behind its parent's ports in rising order. -/
def insertSubtree (t : List TreeUnit) : List (List TreeUnit) → List (List TreeUnit)
  | [] => [t]
  | h :: l =>
    if (t.head?.map (fun u => u.port)).getD 0 ≤ (h.head?.map (fun u => u.port)).getD 0 then t :: h :: l
    else h :: insertSubtree t l

/-- The units below one of depth `d - 1` in the order in which the head numbers them: depth first, at
each unit F0, F1, F2 (R23). `n` bounds the depth. -/
def numberingOrder : Nat → Nat → List TreeUnit → List TreeUnit
  | 0, _, l => l
  | n + 1, d, l =>
    (((subtrees d l).foldr insertSubtree []).map (fun t => match t with
      | u :: below => u :: numberingOrder n (d + 1) below
      | [] => [])).flatten

/-- The units that the ENUMERATE can number, of those found: behind ports that are UP or IDLE. -/
def State.reachable (s : State) (live : Bool) : List TreeUnit → List TreeUnit
  | [] => []
  | u :: l =>
    let live := if u.depth == 1 then u.port != 0 && s.gxLive u.port.toNat else live
    if live then u :: s.reachable live l else s.reachable live l

/-- The units right behind unit `i` of a list in ID order, with the range each heads: port, lowest
and highest index. `d` is the depth of the unit whose subtree is walked. -/
def childRanges (d : Nat) : Nat → List TreeUnit → List (Nat × Nat × Nat)
  | _, [] => []
  | i, u :: l =>
    if u.depth.toNat ≤ d then []
    else if u.depth.toNat == d + 1 then (u.port.toNat, i, i) :: childRanges d (i + 1) l
    else childRanges d (i + 1) l

/-- Closes each range at the index before the next one's start; `last` is the subtree's last
index. -/
def closeRanges (last : Nat) : List (Nat × Nat × Nat) → List (Nat × Nat × Nat)
  | [] => []
  | [(k, lo, _)] => [(k, lo, last)]
  | (k, lo, _) :: (k', lo', h') :: l =>
    (k, lo, lo' - 1) :: closeRanges last ((k', lo', h') :: l)

/-- How many units of a list lie in the subtree it begins in, of a unit of depth `d`. -/
def subtreeSize (d : Nat) (l : List TreeUnit) : Nat :=
  (l.takeWhile (fun u => decide (d < u.depth.toNat))).length

/-- Stores the ranges behind the fore-edge ports; IDs are indices plus 1, at most 63. -/
def State.putRanges (s : State) (l : List (Nat × Nat × Nat)) : State :=
  (List.range 3).foldl (fun s k =>
    match l.find? (fun e => e.1 == k + 1 && decide (e.2.1 < 63)) with
    | some (_, lo, hi) =>
      ((s.putB (ENUM_F_VALID k) true).put (ENUM_F_LO k) (lo + 1)).put (ENUM_F_HI k) (min 63 (hi + 1))
    | none => ((s.putB (ENUM_F_VALID k) false).put (ENUM_F_LO k) 0).put (ENUM_F_HI k) 0) s

/-- The ID shows in a record that waits in its queue (R441). -/
def idWords (id : Nat) : List W64 → List W64
  | h0 :: h1 :: p =>
    packWord [(bits h0 63 56, 56, 8), (id, 50, 6), (bits h0 49 0, 0, 50)] :: h1 :: p
  | w => w

/-- An item of the unit's own making takes the ID. -/
def Item.withId (it : Item) (id : Nat) : Item :=
  if it.host then it else { it with words := idWords id it.words }

/-- The records that wait carry the ID once it is assigned (R441). -/
def State.assignWaiting (s : State) (id : Nat) : State :=
  let s := (s.modLoam (fun x => { x with
    queues := x.queues.map (fun e => (e.1, { e.2 with items := e.2.items.map (fun i => i.withId id) }))
    waiting := x.waiting.map (fun e => (e.1, e.2.withId id)) }))
  { s with tk := s.tk.map (fun k => { k with closed := k.closed.map (fun i => i.withId id) }) }

/-- The unit takes an ID (R441): a changed one restarts its sequence counters. -/
def State.takeId (s : State) (id depth : Nat) : State :=
  let had := s.bit ENUM_STAT_VALID
  let old := s.unitId
  let s := ((s.putB ENUM_STAT_VALID true).put ENUM_STAT_ID id).put ENUM_STAT_DEPTH depth
  if had && old == id then s
  else
    let s := if had then (s.modEv (fun x => { x with seqs := [] })) else s.assignWaiting id
    s.raise 5

/-- The head's ENUMERATE reaches this unit, which stands at index `i` of the units below the head;
past the 63rd it receives no ID. -/
def State.enumerated (s : State) (i : Nat) (u : TreeUnit) (after : List TreeUnit) : State :=
  let n := subtreeSize u.depth.toNat after
  let s := s.putRanges (closeRanges (i + n) (childRanges u.depth.toNat (i + 1) after))
  let s := s.put ENUM_STAT_GEN (s.get ENUM_STAT_GEN + 1)
  if i < 63 then s.takeId (i + 1) u.depth.toNat else s.putB ENUM_STAT_VALID false

/-- This unit's place among the units found: index, itself, the units after it. -/
def ownPlace (i : Nat) : List TreeUnit → Option (Nat × TreeUnit × List TreeUnit)
  | [] => none
  | u :: l => if u.own then some (i, u, l) else ownPlace (i + 1) l

/-- ID of the parent of a unit of depth `d`: the nearest unit before it that is one hop nearer; the
list before it, newest first, with IDs. -/
def parentId (d : Nat) : List (TreeUnit × Nat) → Nat
  | [] => 0
  | (u, id) :: l => if u.depth.toNat + 1 == d then id else parentId d l

/-- A unit's word in the reply (R440). -/
def enumWord (id parent : Nat) (u : TreeUnit) : W64 :=
  packWord [(id, 58, 6), (parent, 52, 6), (u.port.toNat, 50, 2), (u.depth.toNat, 44, 6),
    (u.role.toNat, 42, 2), (u.ver.toNat, 40, 2), (u.state.toNat, 36, 4), (u.rev.toNat, 24, 8),
    (b2n (u.prev != some (BitVec.ofNat 6 id)), 0, 1)]

/-- The words of the units below the head, from ID `id` on. -/
def enumWords (before : List (TreeUnit × Nat)) (id : Nat) : List TreeUnit → List W64
  | [] => []
  | u :: l => enumWord id (parentId u.depth.toNat before) u :: enumWords ((u, id) :: before) (id + 1) l

/-- The head as a unit of its own reply. -/
def State.asTreeUnit (s : State) : TreeUnit :=
  { depth := 0, port := 0, role := BitVec.ofNat 2 (s.get STRAP_ROLE)
    ver := BitVec.ofNat 2 (s.get (GX_PSTAT_VER 0)), state := BitVec.ofNat 4 s.unitState
    rev := BitVec.ofNat 8 (s.get IDENT_REV), prev := some 0 }

/-- ENUMERATE (R440): it runs until PENDING_REPLY. -/
def State.enumerateCmd (s : State) (found : List TreeUnit) : CmdEnd :=
  if !s.isHead then .refuse s stBadParam 9
  else
    let l := s.reachable false (numberingOrder 64 1 found)
    let s := s.putRanges (closeRanges (l.length - 1) (childRanges 0 0 l))
    let s := s.put ENUM_STAT_GEN (s.get ENUM_STAT_GEN + 1)
    let body := enumWord 0 0 s.asTreeUnit :: enumWords [] 1 (l.take 63)
    .pending (if 63 < l.length then .enumerating stLimit (min 255 (l.length - 63)) body
      else .enumerating stOk 0 body) s

/-! ### Trial commands (R450) -/

/-- A trial action takes effect: it counts and raises source 703. -/
def State.trialAction (s : State) : State := (s.bump TR_STAT_ACTIONS).raise 703

/-- Raises what a trial action raises; its event records carry TRIAL. -/
def State.trialRaise (s : State) (f : State → State) : State :=
  let s := (s.modEv (fun x => { x with trial := true }))
  ((f s).modEv (fun x => { x with trial := false }))

/-- TRIAL_LINK. -/
def State.trialLinkCmd (s : State) (c : Cmd) : CmdEnd :=
  let n := bits (param c 0) 63 61
  if 4 < n then .refuse s stBadParam 1
  else if !s.domOn (gxDomain n) then .refuse s stStateConflict 8
  else
    let s := s.writeGrenyx (GX_INJ n).addr (BitVec.ofNat 32 (bits (param c 0) 31 0))
    let s := s.writeGrenyx (GX_INJR1 n).addr (BitVec.ofNat 32 (bits (param c 1) 63 32))
    .ok (s.writeGrenyx (GX_INJR2 n).addr (BitVec.ofNat 32 (bits (param c 1) 31 0))).trialAction

/-- TRIAL_EVENT. -/
def State.trialEventCmd (s : State) (c : Cmd) : CmdEnd :=
  let n := bits (param c 0) 9 0
  if 703 < n || sourceReserved n then .refuse s stBadParam 1
  else .ok (s.trialRaise (fun s => s.raise n)).trialAction

/-- TRIAL_ECC. -/
def State.trialEccCmd (s : State) (c : Cmd) : CmdEnd :=
  let q := bits (param c 0) 63 56
  let n := bits (param c 0) 1 0
  if q == 0xFF || !s.bit (Q_CFG_EN q) || (n != 1 && n != 2) then .refuse s stBadParam 1
  else if s.bit TR_STAT_ECC_PEND then .refuse s stBusy 0
  else .ok ((s.putB TR_STAT_ECC_PEND true).modLoam (fun x => { x with
    trialEcc := some (BitVec.ofNat 8 q, n) }))

/-- The cause that a TRIAL_CAUSE code names. -/
def trialCauseOf (k : Nat) : Option Cause :=
  if k == 0 then some .eccCtrl
  else if k == 1 then some .pace
  else if k == 2 then some .reference
  else if k == 3 then some .rail
  else if k == 4 then some .watchdog
  else none

/-- A cause presents itself as the real one would (R31, R32, R450). -/
def State.presentCause (s : State) (c : Cause) : State :=
  match c with
  | .eccCtrl => s.faultCause FAULT_CAUSE_ECC_CTRL c
  | .rail => s.faultCause FAULT_CAUSE_RAIL c
  | .watchdog => s.faultCause FAULT_CAUSE_WATCHDOG c
  | .pace | .reference | .domain | .otherCus =>
    (s.modCus (fun x => { x with raisedAt := some s.tb.up, causes := x.causes ++ [c] }))

/-- TRIAL_CAUSE. -/
def State.trialCauseCmd (s : State) (c : Cmd) : CmdEnd :=
  let k := bits (param c 0) 35 32
  match trialCauseOf k with
  | none => .refuse s stBadParam 1
  | some cause =>
    if s.bit TR_STAT_CAUSE_ACT then .refuse s stBusy 0
    else
      let s := (s.putB TR_STAT_CAUSE_ACT true).put TR_STAT_CAUSE k
      let hold := max 1 (bits (param c 0) 31 0)
      let s := (s.modAtq (fun x => { x with
        trialCause := some cause, trialEnd := s.tb.up + 1250 * hold }))
      .ok (s.trialRaise (fun s => s.presentCause cause)).trialAction

/-- HOLD ends (R450): self-diagnosis has seen the cause in the frame in progress. -/
def State.trialCauseStop (s : State) : State :=
  match s.atq.trialCause with
  | none => s
  | some c =>
    let s := ((s.putB TR_STAT_CAUSE_ACT false).put TR_STAT_CAUSE 0).modAtq (fun x =>
      { x with trialCause := none })
    if c == .pace || c == .reference then (s.modCus (fun x => { x with raisedAt := some s.tb.up })) else s

/-- TRIAL_CLEAR. -/
def State.trialClearCmd (s : State) : CmdEnd :=
  let s := (List.range 5).foldl (fun s n => s.putB (GX_INJ_EN n) false) s
  let s := (s.putB TR_STAT_ECC_PEND false).modLoam (fun x => { x with trialEcc := none })
  .ok s.trialCauseStop

/-- TRIAL_CAUSE_END, R450: HOLD is over. -/
def execTrialCauseEnd (s : State) : Host.Outcome State Fault Refusal :=
  .next (if s.atq.trialCause.isSome then (s.advanceUp s.atq.trialEnd).trialCauseStop else s)

end Sys2Proof.Machine
end

