-- ==== Sys2Proof/Machine/Atesque.lean ====
section
/-! DEFINITION. The Atesque controller (R421 to R445): the checks of R428, how each opcode runs,
pending commands and ORDER, packets, routing, and group replies. -/
namespace Sys2Proof.Machine

/-! ### The opcodes (R436) -/

/-- What R436 and R424 say of an opcode. -/
structure OpRow where
  boot : Bool := false
  fault : Bool := false
  standbyRefused : Bool := false
  group : Bool := true
  /-- CVER 3 knows it (R424) -/
  v3 : Bool := true

/-- The row of an opcode; none where R436 does not list it. -/
def opRow (op : Nat) : Option OpRow :=
  if op == 1 || op == 2 || op == 4 || op == 0x2F then some { boot := true, fault := true }
  else if op == 3 then some { boot := true, fault := true, group := false }
  else if (0x10 ≤ op && op ≤ 0x12) || op == 0x21 || op == 0x32 || op == 0x33 then
    some { fault := true }
  else if op == 0x13 then some { fault := true, group := false, v3 := false }
  else if op == 0x14 then some { fault := true, v3 := false }
  else if op == 0x20 || op == 0x22 || (0x50 ≤ op && op ≤ 0x52) || op == 0x70 then some {}
  else if op == 0x30 || op == 0x31 then some { group := false }
  else if 0x40 ≤ op && op ≤ 0x42 then some { standbyRefused := true, group := false }
  else if op == 0x53 || op == 0x90 || (0xF0 ≤ op && op ≤ 0xF3) then some { v3 := false }
  else if (0x60 ≤ op && op ≤ 0x62) || op == 0x71 || op == 0x72 then some { standbyRefused := true }
  else if op == 0x73 then some { standbyRefused := true, group := false, v3 := false }
  else if op == 0x80 then some { fault := true, group := false }
  else if op == 0x81 || op == 0x82 then some { group := false }
  else if op == 0xFF then some { fault := true, v3 := false }
  else none

/-- LEN of the commands whose own rules list no LEN case (R514). -/
def lenOk (op n : Nat) : Bool :=
  if op == 1 || op == 3 || op == 0x21 || op == 0x2F || op == 0x53 || op == 0x81 || op == 0x82 ||
      op == 0xFF then n == 0
  else if op == 4 then n ≤ 1
  else if op == 0x22 || op == 0x30 || op == 0x33 || op == 0x41 || op == 0x42 || op == 0x61 ||
      op == 0x62 || (0x71 ≤ op && op ≤ 0x73) || (0xF1 ≤ op && op ≤ 0xF3) then n == 1
  else if op == 0x50 then n == 1 || n == 2
  else if op == 0xF0 then n == 2
  else true

/-! ### The checks (R428) -/

/-- A reserved bit of C0 is set (check 3); CVER 3 ignores [51:48] and [41] (R424). -/
def c0Reserved (w : W64) : Bool :=
  bits w 40 32 != 0 || (c0Cver w != 3 && bitOf w 48)

/-- Checks 1 to 3: the packet. -/
def packetCheck (w : WaitCmd) : Option (Nat × Nat) :=
  let v := c0Cver w.c0
  let op := c0Opcode w.c0
  if v != 4 && v != 3 && op != 2 then some (stVersion, 0x43)
  else match opRow op with
    | none => some (stUnknownOp, 0)
    | some r =>
      if v == 3 && !r.v3 then some (stUnknownOp, 0)
      else if w.bad || c0Reserved w.c0 then some (stBadParam, 5)
      else none

/-- Checks 4 and 5: the unit's state and role (R435, R436). -/
def State.stateCheck (s : State) (r : OpRow) : Option (Nat × Nat) :=
  if s.unitState == usBoot && !r.boot then some (stStateConflict, 1)
  else if s.unitState == usFault && !r.fault then some (stStateConflict, 4)
  else if s.standby && r.standbyRefused then some (stRefused, 0)
  else none

/-- The command of a tag is pending, or a group of it is (R429). -/
def State.tagOpen (s : State) (tag : BitVec 16) : Bool :=
  s.atq.pend.any (fun p => p.tag == tag) || s.atq.groups.any (fun g => g.tag == tag)

/-- An ENUMERATE is running (R440). -/
def State.enumerating (s : State) : Bool :=
  s.atq.pend.any (fun p => match p.waits with
    | .enumerating .. => true
    | _ => false)

/-- Checks 6 to 8: group, TAG and pending limit (R429, R431, R436), then that of R440. -/
def State.openCheck (s : State) (r : OpRow) (c : Cmd) : Option (Nat × Nat) :=
  if c.group && !r.group then some (stBadParam, 4)
  else if s.tagOpen c.tag then some (stBadParam, 3)
  else if 16 ≤ s.pendCount then some (stBusy, 1)
  else if s.enumerating then some (stBusy, 2)
  else none

/-- The first of two checks that fails. -/
def firstOf (a b : Option (Nat × Nat)) : Option (Nat × Nat) := a.orElse (fun _ => b)

/-! ### Running an opcode -/

/-- A command of the kind that answers with a refusal or a state in which it waits. -/
def ofSum (s : State) (w : Waits) : (Nat × Nat) ⊕ State → CmdEnd
  | .inl e => .refuse s e.1 e.2
  | .inr t => .pending w t

/-- A command of the kind that answers with a refusal or what it waits for. -/
def ofWaits (s : State) : (Nat × Nat) ⊕ (Waits × State) → CmdEnd
  | .inl e => .refuse s e.1 e.2
  | .inr (w, t) => .pending w t

/-- FIRE as it ends. -/
def State.fireEnd (s : State) (c : Cmd) : CmdEnd :=
  match s.fireCmd c with
  | .inl e => .refuse s e.1 e.2
  | .inr (n, t) => .pending (.fire (BitVec.ofNat 5 n) t) s

/-- DISARM as it ends. -/
def State.disarmEnd (s : State) (c : Cmd) : CmdEnd :=
  match s.disarmCmd c with
  | .inl e => .refuse s e.1 e.2
  | .inr (t, u) => .pending (.disarm t) u

/-- VEC_LOAD as it ends. -/
def State.vecLoadEnd (s : State) (c : Cmd) : CmdEnd :=
  match s.vecLoadCmd c with
  | .inl e => .refuse s e.1 e.2
  | .inr t => .ok t

/-- MARKER_FRAME as it ends. -/
def State.markerEnd (s : State) (c : Cmd) : CmdEnd :=
  match s.markerCmd c with
  | .inl (.inl e) => .refuse s e.1 e.2
  | .inl (.inr t) => .ok t
  | .inr (k, t) => .pending (.marker k) t

/-- LINK_ALIGN as it ends; over a version 1 or 2 link it opens an exchange (R407). -/
def State.linkAlignEnd (s : State) (c : Cmd) : CmdEnd :=
  match s.linkAlign c.tag with
  | .inl e => .refuse s e.1 e.2
  | .inr t => .pending .align
      (if (s.gxOf 0).ver < 3 && s.gxState 0 == gxUP then t.sendRound 0 0 none else t)

/-- The register, queue and mode commands: 10h to 33h. -/
def State.runLow (s : State) (op : Nat) (c : Cmd) : CmdEnd :=
  if op == 0x10 then s.regReadCmd c
  else if op == 0x11 then s.regWriteCmd c
  else if op == 0x12 then s.regModifyCmd c
  else if op == 0x13 then s.readBlockCmd c
  else if op == 0x14 then s.writeBlockCmd c
  else if op == 0x20 then s.modeSetCmd c
  else if op == 0x21 then s.modeQueryCmd
  else if op == 0x22 then s.domainCmd c
  else if op == 0x2F then s.resetCmd
  else if op == 0x30 then s.qReadCmd c
  else if op == 0x31 then s.qWriteCmd c
  else if op == 0x32 then s.qConfigCmd c
  else s.qFlushCmd c

/-- The commands of the acquisition and control blocks: 40h to 73h. -/
def State.runMid (s : State) (op : Nat) (c : Cmd) : CmdEnd :=
  if op == 0x40 then ofSum s .arm (s.armCmd c)
  else if op == 0x41 then s.fireEnd c
  else if op == 0x42 then s.disarmEnd c
  else if op == 0x50 then ofSum s (.grade (param c 0) 0 false s.tb.up) (s.gradeCmd c)
  else if op == 0x51 then ofSum s (.cal (BitVec.ofNat 4 (bits (param c 0) 19 16))) (s.calCmd c false)
  else if op == 0x52 then ofSum s (.cal (BitVec.ofNat 4 (bits (param c 0) 19 16))) (s.calCmd c true)
  else if op == 0x53 then s.linkAlignEnd c
  else if op == 0x60 then ofWaits s (s.coeffCmd c)
  else if op == 0x61 then ofWaits s (s.freezeCmd c)
  else if op == 0x62 then ofWaits s (s.releaseCmd c)
  else if op == 0x70 then s.vecLoadEnd c
  else if op == 0x71 then ofSum s .seqStart (s.seqStartCmd c)
  else if op == 0x72 then ofSum s .seqStop (s.seqStopCmd c)
  else ofSum s .seqBranch (s.seqBranchCmd c)

/-- Custody, marker and trial commands: 80h to FFh. -/
def State.runHigh (s : State) (op : Nat) (c : Cmd) : CmdEnd :=
  if op == 0x80 then s.pairCmd c
  else if op == 0x81 then s.yieldCmd c
  else if op == 0x82 then s.reclaimCmd c
  else if op == 0x90 then s.markerEnd c
  else if op == 0xFF then s.trialClearCmd
  else if !s.bit TR_CFG_EN then .refuse s stStateConflict 0xF0
  else if op == 0xF0 then s.trialLinkCmd c
  else if op == 0xF1 then s.trialEventCmd c
  else if op == 0xF2 then s.trialEccCmd c
  else s.trialCauseCmd c

/-- A listed opcode's own part: the LEN check of R514, then the command's own rules. -/
def State.runOp (s : State) (op : Nat) (c : Cmd) (found : List TreeUnit) : CmdEnd :=
  if !lenOk op c.p.length then .refuse s stBadParam 6
  else if op == 1 then s.identCmd
  else if op == 2 then s.negotiateCmd c
  else if op == 3 then s.enumerateCmd found
  else if op == 4 then s.pingCmd c
  else if op < 0x40 then s.runLow op c
  else if op < 0x80 then s.runMid op c
  else s.runHigh op c

/-! ### Replies (R425, R426, R429) -/

/-- What a command that has just become pending starts at once. -/
def State.afterPend (s : State) : Waits → State
  | .modeSet none _ _ _ => s.settleRequests
  | .domain .. => s.settleRequests
  | .freeze .. => s.freezeReplies
  | .disarm t => s.scheduleDisarm t
  | .seqStop => s.stopStarved
  | _ => s

/-- The root's own part of a group has completed: its wait begins (R443). -/
def State.partDone (s : State) (tag : BitVec 16) : State :=
  s.modAtq (fun x => { x with groups := x.groups.map (fun g =>
    if g.tag == tag && g.ownAt.isNone then { g with ownAt := some s.tb.up } else g) })

/-- Makes the reply of a pending command whose happening has come (R429). -/
def State.respond (s : State) (tag : BitVec 16) : State :=
  match s.atq.pend.find? (fun p => p.tag == tag && p.waits.isReady) with
  | some { tag := t, noReply := n, waits := .ready st d hi lo body, .. } =>
    let s := (s.modAtq (fun x => { x with
      pend := x.pend.filter (fun p => !(p.tag == tag && p.waits.isReady)) }))
    (s.reply t n st d body hi lo).partDone tag
  | _ => s

/-- The longest wait of a GRADE, 2 s (R107). -/
def gradeLimit : Nat := 2500000000

/-- The happening of the pending command of a tag comes (R429): the channels of a GRADE are done, or its
wait expires (R107), and an ENUMERATE ends (R440). -/
def State.happens (s : State) (tag : BitVec 16) : State :=
  match s.atq.pend.find? (fun p => p.tag == tag) with
  | some { waits := .grade todo done rej since, .. } =>
    let left := (setBits todo).length
    if left == 0 then s.answer tag (if rej then stDataError else stOk) 0 [done]
    else (s.advanceUp (since + gradeLimit : Nat)).answer tag stTimedOut left [done]
  | some { waits := .enumerating st d body, .. } => s.answer tag st d body
  | _ => s

/-- Ends a command's own part: replied, or pending until its happening. -/
def State.finish (op : Nat) (c : Cmd) (noReply : Bool) : CmdEnd → State
  | .answered st d body hi lo t => (t.reply c.tag noReply st d body hi lo).partDone c.tag
  | .pending w t =>
    let p : Pend := { tag := c.tag, noReply := noReply, order := c.order
                      opcode := BitVec.ofNat 8 op, waits := w }
    (((t.modAtq (fun x => { x with pend := x.pend ++ [p] })).afterPend w).respond c.tag)

/-! ### Groups (R442 to R445) -/

/-- The highest ID of the unit's subtree (R24). -/
def State.subtreeHi (s : State) : Nat :=
  (List.range 3).foldl (fun n k => if s.bit (ENUM_F_VALID k) then max n (s.get (ENUM_F_HI k)) else n)
    s.unitId

/-- C0 of one packet of a command that is sent on: LEN and MORE. -/
def packetC0 (c0 : W64) (n : Nat) (more : Bool) : W64 :=
  setBit (packWord [(bits c0 63 16, 16, 48), (n, 0, 16)]) 51 more

/-- The packets of a command that is sent on. -/
def packetsOf (c0 : W64) (p : List W64) : List (List W64) :=
  let ps := pieces 511 p.length p
  (List.range ps.length).map (fun i =>
    packetC0 c0 (ps.getD i []).length (decide (i + 1 < ps.length)) :: ps.getD i [])

/-- The IDs of a fore-edge port's range as a bitmap. -/
def State.rangeBits (s : State) (k : Nat) : W64 :=
  (List.range 64).foldl (fun w u =>
    setBit w u (decide (s.get (ENUM_F_LO k) ≤ u) && decide (u ≤ s.get (ENUM_F_HI k)))) 0

/-- Sends a group command on, to every fore-edge port that holds a range; a port that is neither UP
nor IDLE makes an extra reply (R443). -/
def State.spread (s : State) (c0 : W64) (tag : BitVec 16) (p : List W64) : State :=
  (List.range 3).foldl (fun s k =>
    if !s.bit (ENUM_F_VALID k) then s
    else if s.gxLive (k + 1) then
      s.modGx (k + 1) (fun g => { g with txCmds := g.txCmds ++ packetsOf c0 p })
    else s.replyRecords (replyP0 tag stAbsent 1 0 0) [[s.rangeBits k]]) s

/-- The units a group addresses. -/
def Group.units (g : Group) : List Nat :=
  (List.range 64).filter (fun u => g.lo.toNat ≤ u && u ≤ g.hi.toNat)

/-- A unit's part; a unit without one has timed out (R443). -/
def Group.partOf (g : Group) (u : Nat) : Part :=
  (g.parts.find? (fun p => p.unit.toNat == u)).getD
    { unit := BitVec.ofNat 6 u, status := 6, detail := 2, body := [] }

/-- Every addressed unit has a part. -/
def Group.complete (g : Group) : Bool :=
  g.units.all (fun u => g.parts.any (fun p => p.unit.toNat == u))

/-- Merged STATUS and DETAIL (R444). -/
def mergedStatus : List Part → Nat × Nat
  | [] => (stOk, 0)
  | p :: l =>
    if l.all (fun q => q.status == p.status) then
      (p.status.toNat, if p.status == 0 then 0 else p.detail.toNat)
    else (stPartial, (p :: l).foldl (fun n q => max n q.status.toNat) 0)

/-- A unit's words in the merged body (R445). -/
def partWords (p : Part) : List W64 :=
  packWord [(p.unit.toNat, 58, 6), (p.status.toNat, 50, 8), (p.detail.toNat, 42, 8),
    (p.body.length, 0, 10)] :: p.body

/-- Makes the merged reply of a group (R443 to R445); late replies are discarded from then on. -/
def State.merge (s : State) (g : Group) : State :=
  let parts := g.units.map g.partOf
  let (st, d) := mergedStatus parts
  let bitsOf (l : List Part) : W64 := l.foldl (fun w p => setBit w p.unit.toNat true) 0
  let oks := parts.filter (fun p => p.status == 0)
  let body := bitsOf oks :: bitsOf parts :: (parts.map partWords).flatten
  let s := (s.modAtq (fun x => { x with
    groups := x.groups.filter (fun h => h.tag != g.tag)
    discards := (g.tag, g.lo, g.hi, s.tb.up) :: x.discards }))
  if g.noReply && st == stOk then s
  else
    let ps := pieces 1022 body.length body
    let q := s.seqOf (streamKey 8 0)
    let s := (s.modAtq (fun x => { x with
      merged := x.merged ++ (List.range ps.length).map (fun i => q + BitVec.ofNat 32 i) }))
    s.replyRecords (replyP0 g.tag st d parts.length oks.length) ps

/-- Adds a part of a unit that has none yet. -/
def Group.addPart (g : Group) (p : Part) : Group :=
  if g.parts.any (fun q => q.unit == p.unit) then g else { g with parts := g.parts ++ [p] }

/-- A group takes a reply record (R443): an ABSENT bitmap, or one unit's reply, which may go on in
further records. -/
def Group.take (g : Group) (r : Rec) : Group :=
  let p0 := r.payload.headD 0
  let st : BitVec 8 := BitVec.ofNat 8 (bits p0 63 56)
  let d : BitVec 8 := BitVec.ofNat 8 (bits p0 55 48)
  if st == 9 then
    (setBits (r.payload.getD 1 0)).foldl (fun g u =>
      g.addPart { unit := BitVec.ofNat 6 u, status := 9, detail := 1, body := [] }) g
  else
    let before := ((g.openParts.find? (fun p => p.unit == r.unit)).elim [] (fun p => p.body))
    let p : Part := { unit := r.unit, status := st, detail := d, body := before ++ r.payload.tail }
    let others := g.openParts.filter (fun p => p.unit != r.unit)
    if r.cont then { g with openParts := p :: others }
    else ({ g with openParts := others }).addPart p

/-- TAG of a reply record; none of another record. -/
def replyTag (r : Rec) : Option (BitVec 16) :=
  if r.type == 8 then r.payload.head?.map (fun p => BitVec.ofNat 16 (bits p 31 16)) else none

/-- A reply that a group of this unit, or its discarding, removes from the stream (R442, R443);
none for a record that goes on. -/
def State.collect (s : State) (r : Rec) : Option State :=
  match replyTag r with
  | none => none
  | some tag =>
    if r.unit.toNat == s.unitId && s.atq.merged.contains r.seq then none
    else match s.atq.groups.find? (fun g => g.tag == tag && g.lo ≤ r.unit && r.unit ≤ g.hi) with
      | some g =>
        let g := g.take r
        let s := (s.modAtq (fun x => { x with
          groups := x.groups.map (fun h => if h.tag == tag then g else h) }))
        some (if g.complete then s.merge g else s)
      | none =>
        if s.atq.discards.any (fun e => e.1 == tag && e.2.1 ≤ r.unit && r.unit ≤ e.2.2.1) then
          some (if r.cont then s else s.bump CMD_STAT_LATE)
        else none

/-! ### One command after another (R427 to R430) -/

/-- The command is part of a group whose root lies above this unit. -/
def State.groupMember (s : State) (c : Cmd) : Bool := c.group && c.unit.toNat != s.unitId

/-- Executes a group command at its root: the root's own part follows. -/
def State.runGroup (s : State) (w : WaitCmd) (c : Cmd) (r : OpRow) : State :=
  let op := c0Opcode w.c0
  let g : Group := { tag := c.tag, noReply := c.noReply, lo := c.unit
                     hi := BitVec.ofNat 6 s.subtreeHi }
  let s := (s.modAtq (fun x => { x with
    groups := x.groups ++ [g], discards := x.discards.filter (fun e => e.1 != c.tag) }))
  let s := s.spread w.c0 c.tag w.p
  match s.stateCheck r with
  | some (st, d) => (s.reply c.tag false st d).partDone c.tag
  | none => State.finish op c false (s.runOp op c w.found)

/-- Checks and executes one command (R428); CMD_CNT counts it. -/
def State.runCmd (s : State) (w : WaitCmd) : State :=
  let c := cmdOf w.c0 w.p
  let op := c0Opcode w.c0
  let s := s.count CMD_CNT_COUNT
  match packetCheck w, opRow op with
  | some (st, d), _ => s.reply c.tag c.noReply st d
  | none, none => s
  | none, some r =>
    if c.group && r.group && !s.groupMember c then
      match s.openCheck r c with
      | some (st, d) => s.reply c.tag c.noReply st d
      | none => s.runGroup w c r
    else match firstOf (s.stateCheck r) (s.openCheck r c) with
      | some (st, d) => s.reply c.tag c.noReply st d
      | none => State.finish op c (c.noReply && !c.group) (s.runOp op c w.found)

/-- A command before it has not replied (R430). -/
def State.anyOpen (s : State) : Bool := !s.atq.pend.isEmpty || !s.atq.groups.isEmpty

/-- A packet leaves the command buffer and its credit goes back (R422, R402). -/
def State.returnCredit (s : State) (n : Nat) : State :=
  if n == 0 then s else
  s.modGx 0 (fun g => { g with ret1 := g.ret1 + n })

/-- Executes the commands that waited behind an ORDER command, as far as they may go (R430). -/
def State.release : Nat → State → State
  | 0, s => s
  | n + 1, s =>
    match s.atq.waiting with
    | [] => s
    | w :: l =>
      if (cmdOf w.c0 w.p).order && s.anyOpen then s
      else State.release n (((s.modAtq (fun x => { x with waiting := l })).runCmd w).returnCredit
        w.credit)

def State.releaseAll (s : State) : State := State.release s.atq.waiting.length s

/-- A whole command has arrived at its target: it runs, or waits behind an ORDER command; a group's
member sends it on first. -/
def State.arrive (s : State) (w : WaitCmd) : State :=
  let c := cmdOf w.c0 w.p
  let s := s.when (s.groupMember c) (fun s => s.spread w.c0 c.tag w.p)
  if !s.atq.waiting.isEmpty || (c.order && s.anyOpen) then
    (s.modAtq (fun x => { x with waiting := x.waiting ++ [w] }))
  else ((s.runCmd w).returnCredit w.credit).releaseAll

/-- The unit executes commands (R435, R441): it has an ID, and its controller is on. -/
def State.listens (s : State) : Bool :=
  s.unitState != usOff && s.domOn dATSQ && s.bit ENUM_STAT_VALID

/-! ### Packets (R421 to R423, R427) -/

/-- Two packets belong to one command (R423). -/
def samePacket (a b : W64) : Bool :=
  let x := cmdOf a []
  let y := cmdOf b []
  c0Opcode a == c0Opcode b && x.unit == y.unit && x.group == y.group && x.tag == y.tag

/-- Another packet follows; CVER 3 has none (R424). -/
def moreFollows (c0 : W64) : Bool := c0Cver c0 != 3 && c0More c0

/-- A command that is aborted or discarded (R423). -/
def State.discardCmd (s : State) (c0 : W64) (st d : Nat) : State :=
  let c := cmdOf c0 []
  (((s.bump CMD_STAT_DISC).raise 4)).reply c.tag c.noReply st d

/-- The fore-edge port whose range holds a unit. -/
def State.portOf (s : State) (u : Nat) : Option Nat :=
  (List.range 3).find? (fun k => s.bit (ENUM_F_VALID k) && s.get (ENUM_F_LO k) ≤ u &&
    u ≤ s.get (ENUM_F_HI k))

/-- ABSENT, once for all packets of the command (R427). -/
def State.absent (s : State) (c0 : W64) (d : Nat) : State :=
  let c := cmdOf c0 []
  let s := s.reply c.tag c.noReply stAbsent d
  if moreFollows c0 then (s.modAtq (fun x => { x with skip := some c0, skipAt := s.tb.up })) else s

/-- A packet for a unit elsewhere (R25, R427). -/
def State.route (s : State) (c0 : W64) (p : List W64) : State :=
  match s.portOf (c0Unit c0) with
  | none => s.absent c0 0
  | some k =>
    if s.gxLive (k + 1) then s.modGx (k + 1) (fun g => { g with txCmds := g.txCmds ++ [c0 :: p] })
    else s.absent c0 1

/-- A packet that starts a command here. -/
def State.firstPacket (s : State) (w : WaitCmd) : State :=
  if moreFollows w.c0 then
    ((s.modAtq (fun x => { x with
      frag := some { w with credit := 0 }, fragAt := s.tb.up }))).returnCredit w.credit
  else s.arrive w

/-- A packet that continues a command; the total may not pass 131,071 parameter words. -/
def State.nextPacket (s : State) (f w : WaitCmd) : State :=
  let s := ((s.modAtq (fun x => { x with frag := none }))).returnCredit w.credit
  let f := { f with p := f.p ++ w.p, bad := f.bad || w.bad }
  if 131071 < f.p.length then
    let s := s.discardCmd f.c0 stBadParam 5
    if moreFollows w.c0 then (s.modAtq (fun x => { x with skip := some f.c0, skipAt := s.tb.up }))
    else s
  else if moreFollows w.c0 then (s.modAtq (fun x => { x with frag := some f, fragAt := s.tb.up }))
  else s.arrive f

/-- A packet for this unit. -/
def State.ownPacket (s : State) (w : WaitCmd) : State :=
  match s.atq.frag with
  | none => s.firstPacket w
  | some f =>
    if samePacket f.c0 w.c0 then s.nextPacket f w
    else (((s.modAtq (fun x => { x with frag := none })).discardCmd f.c0 stBadParam 2)).firstPacket w

/-- The packet belongs to a command whose continuations are discarded. -/
def State.skips (s : State) (c0 : W64) : Bool :=
  match s.atq.skip with
  | some k => samePacket k c0
  | none => false

/-- A packet with C0 `c0` is for this unit, or for a group that it belongs to (R427, R442). -/
def State.takes (s : State) (c0 : W64) : Bool :=
  let c := cmdOf c0 []
  c.unit.toNat == s.unitId || (c.group && decide (c.unit.toNat < s.unitId))

/-- COMMAND_PACKET (R427). -/
def State.packet (s : State) (words : List W64) (found : List TreeUnit) : State :=
  match words with
  | [] => s
  | c0 :: p =>
    let credit := grainsOf words.length
    if !s.listens then s
    else if s.skips c0 then
      (s.modAtq (fun x => { x with
        skip := if moreFollows c0 then x.skip else none, skipAt := s.tb.up })).returnCredit credit
    else if s.takes c0 then
      s.ownPacket { c0 := c0, p := p, bad := c0Reserved c0 || decide (511 < c0Len c0)
                    credit := credit, found := found }
    else (s.route c0 p).returnCredit credit

/-- A command that arrives whole, all its packets at once: this unit executes it, or sends the packets on,
or answers ABSENT (R25, R427). -/
def State.direct (s : State) (op : Nat) (c : Cmd) (found : List TreeUnit := []) : State :=
  let c0 := c0Of op c
  if !s.listens then s
  else if s.takes c0 then
    s.arrive { c0 := c0, p := c.p, bad := c.cver == 3 && decide (511 < c.p.length), found := found }
  else match s.portOf c.unit.toNat with
    | none => s.absent (packetC0 c0 0 false) 0
    | some k =>
      if s.gxLive (k + 1) then
        s.modGx (k + 1) (fun g => { g with txCmds := g.txCmds ++ packetsOf c0 c.p })
      else s.absent (packetC0 c0 0 false) 1

/-- PACKET_TIMEOUT (R423, R427): 1 ms after its latest packet an incomplete command is discarded, or a
discarding ends. -/
def State.packetTimeout (s : State) : State :=
  match s.atq.frag, s.atq.skip with
  | some f, _ => ((s.advanceUp (s.atq.fragAt + msTicks : Nat)).modAtq (fun x => { x with
      frag := none })).discardCmd f.c0 stTimedOut 1
  | none, some _ => (s.advanceUp (s.atq.skipAt + msTicks : Nat)).modAtq (fun x => { x with skip := none })
  | none, none => s

/-! ### Replies on their way through this unit -/

/-- The unit's own record takes its way into Sewing: the merged replies are noted off. -/
def State.passOwn (s : State) (r : Rec) : State :=
  if (replyTag r).isSome then
    (s.modAtq (fun x => { x with merged := x.merged.filter (fun q => q != r.seq) }))
  else s

/-- SEWING_ARRIVAL (R363, R442): a group's replies are removed, every other record goes on. -/
def State.sewingArrival (s : State) : SewFrom → State
  | .child k r => match s.collect r with
    | some t => (t.modGx (k.val + 1) (fun g => { g with ret0 := g.ret0 + recGrains r })).releaseAll
    | none => s.sewChild k.val r
  | .own => match s.sew.inbox with
    | [] => s
    | h :: rest => match s.collect h.r with
      | some t => ((t.modSew (fun x => { x with inbox := rest }))).releaseAll
      | none => (s.passOwn h.r).sewOwn

/-- GROUP_REPLY_ARRIVAL (R442): a reply from below is removed for merging; the port that holds its
unit gets its credit back. -/
def State.groupReply (s : State) (r : Rec) : State :=
  match s.collect r with
  | none => s
  | some t =>
    (match s.portOf r.unit.toNat with
      | some k => t.modGx (k + 1) (fun g => { g with ret0 := g.ret0 + recGrains r })
      | none => t).releaseAll

/-- CMD_CFG.GTMO in ticks (R443, R452). -/
def State.groupWait (s : State) : Nat := max 1 (s.get CMD_CFG_GTMO) * 125000

/-- GROUP_MERGE_TIMEOUT (R443): the wait runs from the end of the root's own part. -/
def State.groupTimeout (s : State) (tag : BitVec 16) : State :=
  match s.atq.groups.find? (fun g => g.tag == tag) with
  | some g => match g.ownAt with
    | some u => ((s.advanceUp (u + s.groupWait : Nat)).merge g).releaseAll
    | none => s
  | none => s

/-- GROUP_DISCARD_END (R443). -/
def State.discardEnd (s : State) (tag : BitVec 16) : State :=
  match s.atq.discards.find? (fun e => e.1 == tag) with
  | some e => (s.advanceUp (e.2.2.2 + s.groupWait : Nat)).modAtq (fun x => { x with
      discards := x.discards.filter (fun e => e.1 != tag) })
  | none => s

/-- ENUMERATE at its target, or, at a unit below the head, the numbering that it brings. -/
def State.enumerateStep (s : State) (c : Cmd) (found : List TreeUnit) : State :=
  match ownPlace 0 (numberingOrder 64 1 found) with
  | some (i, u, after) =>
    if s.isHead || s.unitState == usOff then s else s.enumerated i u after
  | none => s.direct 3 c found

/-! ### The steps -/

/-- COMMAND_PACKET, R427. -/
def execCommandPacket (words : List W64) (found : List TreeUnit) (s : State) :
    Host.Outcome State Fault Refusal := .next (s.packet words found)

/-- PACKET_TIMEOUT, R423. -/
def execPacketTimeout (s : State) : Host.Outcome State Fault Refusal := .next s.packetTimeout

/-- GROUP_REPLY_ARRIVAL, R442. -/
def execGroupReplyArrival (r : Rec) (s : State) : Host.Outcome State Fault Refusal :=
  .next (s.groupReply r)

/-- GROUP_MERGE_TIMEOUT, R443. -/
def execGroupMergeTimeout (tag : BitVec 16) (s : State) : Host.Outcome State Fault Refusal :=
  .next (s.groupTimeout tag)

/-- GROUP_DISCARD_END, R443. -/
def execGroupDiscardEnd (tag : BitVec 16) (s : State) : Host.Outcome State Fault Refusal :=
  .next (s.discardEnd tag)

/-- PENDING_REPLY, R429. -/
def execPendingReply (tag : BitVec 16) (s : State) : Host.Outcome State Fault Refusal :=
  .next ((s.happens tag).respond tag).releaseAll

/-- SEWING_ARRIVAL, R363. -/
def execSewingArrival (src : SewFrom) (s : State) : Host.Outcome State Fault Refusal :=
  .next (s.sewingArrival src)

/-- ENUMERATE, R440. -/
def execEnumerate (c : Cmd) (found : List TreeUnit) (s : State) :
    Host.Outcome State Fault Refusal := .next (s.enumerateStep c found)

/-- IDENT, R437. -/
def execIdent (c : Cmd) (s : State) : Host.Outcome State Fault Refusal :=
  .next (s.direct 0x01 c)

/-- NEGOTIATE, R437. -/
def execNegotiate (c : Cmd) (s : State) : Host.Outcome State Fault Refusal :=
  .next (s.direct 0x02 c)

/-- PING, R437. -/
def execPing (c : Cmd) (s : State) : Host.Outcome State Fault Refusal :=
  .next (s.direct 0x04 c)

/-- REG_READ, R438. -/
def execRegRead (c : Cmd) (s : State) : Host.Outcome State Fault Refusal :=
  .next (s.direct 0x10 c)

/-- REG_WRITE, R438. -/
def execRegWrite (c : Cmd) (s : State) : Host.Outcome State Fault Refusal :=
  .next (s.direct 0x11 c)

/-- REG_MODIFY, R438. -/
def execRegModify (c : Cmd) (s : State) : Host.Outcome State Fault Refusal :=
  .next (s.direct 0x12 c)

/-- READ_BLOCK, R438. -/
def execReadBlock (c : Cmd) (s : State) : Host.Outcome State Fault Refusal :=
  .next (s.direct 0x13 c)

/-- WRITE_BLOCK, R438. -/
def execWriteBlock (c : Cmd) (s : State) : Host.Outcome State Fault Refusal :=
  .next (s.direct 0x14 c)

/-- MODE_SET, R34. -/
def execModeSet (c : Cmd) (s : State) : Host.Outcome State Fault Refusal :=
  .next (s.direct 0x20 c)

/-- MODE_QUERY, R437. -/
def execModeQuery (c : Cmd) (s : State) : Host.Outcome State Fault Refusal :=
  .next (s.direct 0x21 c)

/-- DOMAIN, R437. -/
def execDomain (c : Cmd) (s : State) : Host.Outcome State Fault Refusal :=
  .next (s.direct 0x22 c)

/-- RESET_UNIT, R437. -/
def execResetUnit (c : Cmd) (s : State) : Host.Outcome State Fault Refusal :=
  .next (s.direct 0x2F c)

/-- Q_READ, R382. -/
def execQRead (c : Cmd) (s : State) : Host.Outcome State Fault Refusal :=
  .next (s.direct 0x30 c)

/-- Q_WRITE, R382. -/
def execQWrite (c : Cmd) (s : State) : Host.Outcome State Fault Refusal :=
  .next (s.direct 0x31 c)

/-- Q_CONFIG, R382. -/
def execQConfig (c : Cmd) (s : State) : Host.Outcome State Fault Refusal :=
  .next (s.direct 0x32 c)

/-- Q_FLUSH, R382. -/
def execQFlush (c : Cmd) (s : State) : Host.Outcome State Fault Refusal :=
  .next (s.direct 0x33 c)

/-- ARM, R162. -/
def execArm (c : Cmd) (s : State) : Host.Outcome State Fault Refusal :=
  .next (s.direct 0x40 c)

/-- FIRE, R163. -/
def execFire (c : Cmd) (s : State) : Host.Outcome State Fault Refusal :=
  .next (s.direct 0x41 c)

/-- DISARM, R164. -/
def execDisarm (c : Cmd) (s : State) : Host.Outcome State Fault Refusal :=
  .next (s.direct 0x42 c)

/-- GRADE, R106. -/
def execGrade (c : Cmd) (s : State) : Host.Outcome State Fault Refusal :=
  .next (s.direct 0x50 c)

/-- CAL_ZERO, R270. -/
def execCalZero (c : Cmd) (s : State) : Host.Outcome State Fault Refusal :=
  .next (s.direct 0x51 c)

/-- CAL_FULL, R271. -/
def execCalFull (c : Cmd) (s : State) : Host.Outcome State Fault Refusal :=
  .next (s.direct 0x52 c)

/-- LINK_ALIGN, R73. -/
def execLinkAlign (c : Cmd) (s : State) : Host.Outcome State Fault Refusal :=
  .next (s.direct 0x53 c)

/-- COEFF_WRITE, R305. -/
def execCoeffWrite (c : Cmd) (s : State) : Host.Outcome State Fault Refusal :=
  .next (s.direct 0x60 c)

/-- LOOP_FREEZE, R307. -/
def execLoopFreeze (c : Cmd) (s : State) : Host.Outcome State Fault Refusal :=
  .next (s.direct 0x61 c)

/-- LOOP_RELEASE, R308. -/
def execLoopRelease (c : Cmd) (s : State) : Host.Outcome State Fault Refusal :=
  .next (s.direct 0x62 c)

/-- VEC_LOAD, R195. -/
def execVecLoad (c : Cmd) (s : State) : Host.Outcome State Fault Refusal :=
  .next (s.direct 0x70 c)

/-- SEQ_START, R195. -/
def execSeqStart (c : Cmd) (s : State) : Host.Outcome State Fault Refusal :=
  .next (s.direct 0x71 c)

/-- SEQ_STOP, R195. -/
def execSeqStop (c : Cmd) (s : State) : Host.Outcome State Fault Refusal :=
  .next (s.direct 0x72 c)

/-- SEQ_BRANCH, R196. -/
def execSeqBranch (c : Cmd) (s : State) : Host.Outcome State Fault Refusal :=
  .next (s.direct 0x73 c)

/-- PAIR, R479. -/
def execPair (c : Cmd) (s : State) : Host.Outcome State Fault Refusal :=
  .next (s.direct 0x80 c)

/-- YIELD, R479. -/
def execYield (c : Cmd) (s : State) : Host.Outcome State Fault Refusal :=
  .next (s.direct 0x81 c)

/-- RECLAIM, R479. -/
def execReclaim (c : Cmd) (s : State) : Host.Outcome State Fault Refusal :=
  .next (s.direct 0x82 c)

/-- MARKER_FRAME, R347. -/
def execMarkerFrame (c : Cmd) (s : State) : Host.Outcome State Fault Refusal :=
  .next (s.direct 0x90 c)

/-- TRIAL_LINK, R450. -/
def execTrialLink (c : Cmd) (s : State) : Host.Outcome State Fault Refusal :=
  .next (s.direct 0xF0 c)

/-- TRIAL_EVENT, R450. -/
def execTrialEvent (c : Cmd) (s : State) : Host.Outcome State Fault Refusal :=
  .next (s.direct 0xF1 c)

/-- TRIAL_ECC, R450. -/
def execTrialEcc (c : Cmd) (s : State) : Host.Outcome State Fault Refusal :=
  .next (s.direct 0xF2 c)

/-- TRIAL_CAUSE, R450. -/
def execTrialCause (c : Cmd) (s : State) : Host.Outcome State Fault Refusal :=
  .next (s.direct 0xF3 c)

/-- TRIAL_CLEAR, R450. -/
def execTrialClear (c : Cmd) (s : State) : Host.Outcome State Fault Refusal :=
  .next (s.direct 0xFF c)

end Sys2Proof.Machine
end

