-- ==== Sys2Proof/Machine/Dispatch.lean ====
section
/-! DEFINITION. One arm for each command: what it does to everything but the queue. -/
namespace Sys2Proof.Machine

/-- The effect of a command (rows of spec/opcode_table.json). -/
def exec (i : Instr) (s : State) : Host.Outcome State Fault Refusal :=
  match i with
  | .ident c => Sys2Proof.Machine.execIdent c s
  | .negotiate c => Sys2Proof.Machine.execNegotiate c s
  | .enumerate c found => Sys2Proof.Machine.execEnumerate c found s
  | .ping c => Sys2Proof.Machine.execPing c s
  | .regRead c => Sys2Proof.Machine.execRegRead c s
  | .regWrite c => Sys2Proof.Machine.execRegWrite c s
  | .regModify c => Sys2Proof.Machine.execRegModify c s
  | .readBlock c => Sys2Proof.Machine.execReadBlock c s
  | .writeBlock c => Sys2Proof.Machine.execWriteBlock c s
  | .modeSet c => Sys2Proof.Machine.execModeSet c s
  | .modeQuery c => Sys2Proof.Machine.execModeQuery c s
  | .domain c => Sys2Proof.Machine.execDomain c s
  | .resetUnit c => Sys2Proof.Machine.execResetUnit c s
  | .qRead c => Sys2Proof.Machine.execQRead c s
  | .qWrite c => Sys2Proof.Machine.execQWrite c s
  | .qConfig c => Sys2Proof.Machine.execQConfig c s
  | .qFlush c => Sys2Proof.Machine.execQFlush c s
  | .arm c => Sys2Proof.Machine.execArm c s
  | .fire c => Sys2Proof.Machine.execFire c s
  | .disarm c => Sys2Proof.Machine.execDisarm c s
  | .grade c => Sys2Proof.Machine.execGrade c s
  | .calZero c => Sys2Proof.Machine.execCalZero c s
  | .calFull c => Sys2Proof.Machine.execCalFull c s
  | .linkAlign c => Sys2Proof.Machine.execLinkAlign c s
  | .coeffWrite c => Sys2Proof.Machine.execCoeffWrite c s
  | .loopFreeze c => Sys2Proof.Machine.execLoopFreeze c s
  | .loopRelease c => Sys2Proof.Machine.execLoopRelease c s
  | .vecLoad c => Sys2Proof.Machine.execVecLoad c s
  | .seqStart c => Sys2Proof.Machine.execSeqStart c s
  | .seqStop c => Sys2Proof.Machine.execSeqStop c s
  | .seqBranch c => Sys2Proof.Machine.execSeqBranch c s
  | .pair c => Sys2Proof.Machine.execPair c s
  | .yield c => Sys2Proof.Machine.execYield c s
  | .reclaim c => Sys2Proof.Machine.execReclaim c s
  | .markerFrame c => Sys2Proof.Machine.execMarkerFrame c s
  | .trialLink c => Sys2Proof.Machine.execTrialLink c s
  | .trialEvent c => Sys2Proof.Machine.execTrialEvent c s
  | .trialEcc c => Sys2Proof.Machine.execTrialEcc c s
  | .trialCause c => Sys2Proof.Machine.execTrialCause c s
  | .trialClear c => Sys2Proof.Machine.execTrialClear c s
  | .trialCauseEnd => Sys2Proof.Machine.execTrialCauseEnd s
  | .registerWrite a v => Sys2Proof.Machine.execRegisterWrite a v s
  | .tsyncArm v => Sys2Proof.Machine.execTsyncArm v s
  | .spineRefWrite v => Sys2Proof.Machine.execSpineRefWrite v s
  | .strb c v => Sys2Proof.Machine.execStrb c v s
  | .faFrontEndWrite a v => Sys2Proof.Machine.execFaFrontEndWrite a v s
  | .claimWrite a v => Sys2Proof.Machine.execClaimWrite a v s
  | .patCalStart v => Sys2Proof.Machine.execPatCalStart v s
  | .portSettingsWrite a v => Sys2Proof.Machine.execPortSettingsWrite a v s
  | .psFaultClear p v => Sys2Proof.Machine.execPsFaultClear p v s
  | .pcUrg v => Sys2Proof.Machine.execPcUrg v s
  | .pcLcommit v => Sys2Proof.Machine.execPcLcommit v s
  | .pcIlvWrite k v => Sys2Proof.Machine.execPcIlvWrite k v s
  | .aoCfgWrite n v => Sys2Proof.Machine.execAoCfgWrite n v s
  | .aoDataWrite n v => Sys2Proof.Machine.execAoDataWrite n v s
  | .lsFaultClear n v => Sys2Proof.Machine.execLsFaultClear n v s
  | .bstRestart v => Sys2Proof.Machine.execBstRestart v s
  | .lpRetest v => Sys2Proof.Machine.execLpRetest v s
  | .patchEnable v => Sys2Proof.Machine.execPatchEnable v s
  | .gxRetrain n v => Sys2Proof.Machine.execGxRetrain n v s
  | .mflGo v => Sys2Proof.Machine.execMflGo v s
  | .flashCommandDone data => Sys2Proof.Machine.execFlashCommandDone data s
  | .maintWrite a v => Sys2Proof.Machine.execMaintWrite a v s
  | .maintRead a => Sys2Proof.Machine.execMaintRead a s
  | .tapInstruction x => Sys2Proof.Machine.execTapInstruction x s
  | .commandPacket words found => Sys2Proof.Machine.execCommandPacket words found s
  | .packetTimeout => Sys2Proof.Machine.execPacketTimeout s
  | .groupReplyArrival r => Sys2Proof.Machine.execGroupReplyArrival r s
  | .groupMergeTimeout tag => Sys2Proof.Machine.execGroupMergeTimeout tag s
  | .pendingReply tag => Sys2Proof.Machine.execPendingReply tag s
  | .watchdogTimeout => Sys2Proof.Machine.execWatchdogTimeout s
  | .modeApplyTick => Sys2Proof.Machine.execModeApplyTick s
  | .modeDrainEnd modes => Sys2Proof.Machine.execModeDrainEnd modes s
  | .paceWindowEnd c0 c1 c2 c3 => Sys2Proof.Machine.execPaceWindowEnd c0 c1 c2 c3 s
  | .pllLock => Sys2Proof.Machine.execPllLock s
  | .pllLockLoss => Sys2Proof.Machine.execPllLockLoss s
  | .tickWrap => Sys2Proof.Machine.execTickWrap s
  | .periodicMarker => Sys2Proof.Machine.execPeriodicMarker s
  | .exchangeSend n => Sys2Proof.Machine.execExchangeSend n s
  | .timeTransferMarker n m arrTick arrFine => Sys2Proof.Machine.execTimeTransferMarker n m arrTick arrFine s
  | .stepApply => Sys2Proof.Machine.execStepApply s
  | .referenceLost => Sys2Proof.Machine.execReferenceLost s
  | .referenceQualified => Sys2Proof.Machine.execReferenceQualified s
  | .tsyncEdge t f rising => Sys2Proof.Machine.execTsyncEdge t f rising s
  | .lrefLost => Sys2Proof.Machine.execLrefLost s
  | .lrefQualified => Sys2Proof.Machine.execLrefQualified s
  | .leadingEdge c t bin falling => Sys2Proof.Machine.execLeadingEdge c t bin falling s
  | .intervalOverflow u => Sys2Proof.Machine.execIntervalOverflow u s
  | .releaseCrossing c t bin => Sys2Proof.Machine.execReleaseCrossing c t bin s
  | .hitRelease c => Sys2Proof.Machine.execHitRelease c s
  | .hitAssemble c => Sys2Proof.Machine.execHitAssemble c s
  | .hitBlockClose c => Sys2Proof.Machine.execHitBlockClose c s
  | .injectionAttempt c t bin => Sys2Proof.Machine.execInjectionAttempt c t bin s
  | .gradeSample c => Sys2Proof.Machine.execGradeSample c s
  | .tableSwap c => Sys2Proof.Machine.execTableSwap c s
  | .gradeStale c => Sys2Proof.Machine.execGradeStale c s
  | .periodicResetDue c => Sys2Proof.Machine.execPeriodicResetDue c s
  | .nearRailResetDue c => Sys2Proof.Machine.execNearRailResetDue c s
  | .deferredResetFire c => Sys2Proof.Machine.execDeferredResetFire c s
  | .deferLimit c => Sys2Proof.Machine.execDeferLimit c s
  | .resetStart c => Sys2Proof.Machine.execResetStart c s
  | .resetEnd c => Sys2Proof.Machine.execResetEnd c s
  | .clipSample c => Sys2Proof.Machine.execClipSample c s
  | .matchOkChange k ok est => Sys2Proof.Machine.execMatchOkChange k ok est s
  | .conditionMet n input => Sys2Proof.Machine.execConditionMet n input s
  | .armMarker m port => Sys2Proof.Machine.execArmMarker m port s
  | .armAck unit a => Sys2Proof.Machine.execArmAck unit a s
  | .armTickReached => Sys2Proof.Machine.execArmTickReached s
  | .armReply => Sys2Proof.Machine.execArmReply s
  | .fireMarker m port => Sys2Proof.Machine.execFireMarker m port s
  | .fireDecide => Sys2Proof.Machine.execFireDecide s
  | .disarmMarker m port => Sys2Proof.Machine.execDisarmMarker m port s
  | .disarmEffect => Sys2Proof.Machine.execDisarmEffect s
  | .cutComplete c => Sys2Proof.Machine.execCutComplete c s
  | .captureOverflow c cause delivered => Sys2Proof.Machine.execCaptureOverflow c cause delivered s
  | .triginEdge t rising => Sys2Proof.Machine.execTriginEdge t rising s
  | .trigoutStart => Sys2Proof.Machine.execTrigoutStart s
  | .trigoutEnd => Sys2Proof.Machine.execTrigoutEnd s
  | .sequenceStart => Sys2Proof.Machine.execSequenceStart s
  | .vectorIssue => Sys2Proof.Machine.execVectorIssue s
  | .vectorStart => Sys2Proof.Machine.execVectorStart s
  | .pulseFall => Sys2Proof.Machine.execPulseFall s
  | .compareStrobe levels => Sys2Proof.Machine.execCompareStrobe levels s
  | .branchRequest x => Sys2Proof.Machine.execBranchRequest x s
  | .starveResume => Sys2Proof.Machine.execStarveResume s
  | .stoppingExit => Sys2Proof.Machine.execStoppingExit s
  | .calibrationEnd meas => Sys2Proof.Machine.execCalibrationEnd meas s
  | .gateClose d g => Sys2Proof.Machine.execGateClose d g s
  | .scanTurn k => Sys2Proof.Machine.execScanTurn k s
  | .settlingEnd k => Sys2Proof.Machine.execSettlingEnd k s
  | .conversionComplete k helper raw => Sys2Proof.Machine.execConversionComplete k helper raw s
  | .windowFault p samples t => Sys2Proof.Machine.execWindowFault p samples t s
  | .windowGlitch g => Sys2Proof.Machine.execWindowGlitch g s
  | .impedanceSlot k port => Sys2Proof.Machine.execImpedanceSlot k port s
  | .impedanceResult k loop lead => Sys2Proof.Machine.execImpedanceResult k loop lead s
  | .calResultsDone p => Sys2Proof.Machine.execCalResultsDone p s
  | .calTimeout p => Sys2Proof.Machine.execCalTimeout p s
  | .pwfPeriodStart n => Sys2Proof.Machine.execPwfPeriodStart n s
  | .loopSampleStart m => Sys2Proof.Machine.execLoopSampleStart m s
  | .loopOutputLatch m => Sys2Proof.Machine.execLoopOutputLatch m s
  | .rangeChangeEnd n => Sys2Proof.Machine.execRangeChangeEnd n s
  | .clrnFall => Sys2Proof.Machine.execClrnFall s
  | .clrnRise => Sys2Proof.Machine.execClrnRise s
  | .hirngLoss => Sys2Proof.Machine.execHirngLoss s
  | .hirngReturn => Sys2Proof.Machine.execHirngReturn s
  | .aoCurrentLimit n => Sys2Proof.Machine.execAoCurrentLimit n s
  | .dimmingPeriodStart => Sys2Proof.Machine.execDimmingPeriodStart s
  | .probeW1End n sink nearLower nearUpper => Sys2Proof.Machine.execProbeW1End n sink nearLower nearUpper s
  | .probeW2End n pinLow => Sys2Proof.Machine.execProbeW2End n pinLow s
  | .boostRegulate vout => Sys2Proof.Machine.execBoostRegulate vout s
  | .boostOvervoltage => Sys2Proof.Machine.execBoostOvervoltage s
  | .boostRetryEnd => Sys2Proof.Machine.execBoostRetryEnd s
  | .boostTargetAdapt reports vout => Sys2Proof.Machine.execBoostTargetAdapt reports vout s
  | .ltmpRead code => Sys2Proof.Machine.execLtmpRead code s
  | .markerLatchEnd c => Sys2Proof.Machine.execMarkerLatchEnd c s
  | .markerRefresh c => Sys2Proof.Machine.execMarkerRefresh c s
  | .sewingArrival src => Sys2Proof.Machine.execSewingArrival src s
  | .sewingSend => Sys2Proof.Machine.execSewingSend s
  | .sieveDecide c => Sys2Proof.Machine.execSieveDecide c s
  | .sieveOverflow c cause => Sys2Proof.Machine.execSieveOverflow c cause s
  | .itemAppend q words => Sys2Proof.Machine.execItemAppend q words s
  | .producerUnblock q => Sys2Proof.Machine.execProducerUnblock q s
  | .itemRemove q => Sys2Proof.Machine.execItemRemove q s
  | .stallExpiry q => Sys2Proof.Machine.execStallExpiry q s
  | .streamStallExpiry => Sys2Proof.Machine.execStreamStallExpiry s
  | .retestComplete passed => Sys2Proof.Machine.execRetestComplete passed s
  | .partnerPatternLock n half => Sys2Proof.Machine.execPartnerPatternLock n half s
  | .trainComplete n lanes => Sys2Proof.Machine.execTrainComplete n lanes s
  | .trainTimeout n => Sys2Proof.Machine.execTrainTimeout n s
  | .negotiationRound n r => Sys2Proof.Machine.execNegotiationRound n r s
  | .roundTimeout n => Sys2Proof.Machine.execRoundTimeout n s
  | .frameReceived n f => Sys2Proof.Machine.execFrameReceived n f s
  | .nakReceived n ack => Sys2Proof.Machine.execNakReceived n ack s
  | .frameSend n => Sys2Proof.Machine.execFrameSend n s
  | .linkMarkerReceived n m crcOk replayed => Sys2Proof.Machine.execLinkMarkerReceived n m crcOk replayed s
  | .recoverComplete n r => Sys2Proof.Machine.execRecoverComplete n r s
  | .recoverTimeout n => Sys2Proof.Machine.execRecoverTimeout n s
  | .idleEntry n => Sys2Proof.Machine.execIdleEntry n s
  | .idleExit n => Sys2Proof.Machine.execIdleExit n s
  | .sourceRaise src => Sys2Proof.Machine.execSourceRaise src s
  | .mirrorBoundary => Sys2Proof.Machine.execMirrorBoundary s
  | .copyComplete c => Sys2Proof.Machine.execCopyComplete c s
  | .selfDiagnosisCause c => Sys2Proof.Machine.execSelfDiagnosisCause c s
  | .handoverNotice hb reclaim stat => Sys2Proof.Machine.execHandoverNotice hb reclaim stat s
  | .handoverBoundary => Sys2Proof.Machine.execHandoverBoundary s
  | .guardSilent asserted => Sys2Proof.Machine.execGuardSilent asserted s
  | .guardConflict => Sys2Proof.Machine.execGuardConflict s
  | .outgoingGuardTimeout => Sys2Proof.Machine.execOutgoingGuardTimeout s
  | .seekTimeout => Sys2Proof.Machine.execSeekTimeout s
  | .partnerJoin stat => Sys2Proof.Machine.execPartnerJoin stat s
  | .vsupRise tenMv => Sys2Proof.Machine.execVsupRise tenMv s
  | .vsupFall tenMv => Sys2Proof.Machine.execVsupFall tenMv s
  | .vsupWarn tenMv => Sys2Proof.Machine.execVsupWarn tenMv s
  | .vsupHigh tenMv => Sys2Proof.Machine.execVsupHigh tenMv s
  | .railOut k => Sys2Proof.Machine.execRailOut k s
  | .railFault k => Sys2Proof.Machine.execRailFault k s
  | .railReturn k => Sys2Proof.Machine.execRailReturn k s
  | .tempRead tcore tfield => Sys2Proof.Machine.execTempRead tcore tfield s
  | .domainUp d => Sys2Proof.Machine.execDomainUp d s
  | .domainFail d => Sys2Proof.Machine.execDomainFail d s
  | .resetnLow ns => Sys2Proof.Machine.execResetnLow ns s
  | .resetnRise => Sys2Proof.Machine.execResetnRise s
  | .romCheckDone ok => Sys2Proof.Machine.execRomCheckDone ok s
  | .memoryTestDone failing => Sys2Proof.Machine.execMemoryTestDone failing s
  | .flashImageRead image => Sys2Proof.Machine.execFlashImageRead image s
  | .samplingInstant t codes => Sys2Proof.Machine.execSamplingInstant t codes s
  | .slewComplete => Sys2Proof.Machine.execSlewComplete s
  | .measurementAged => Sys2Proof.Machine.execMeasurementAged s
  | .unitReset => Sys2Proof.Machine.execUnitReset s
  | .domainOff d => Sys2Proof.Machine.execDomainOff d s
  | .guardEdgesReturn => Sys2Proof.Machine.execGuardEdgesReturn s
  | .trainingWindowEnd n => Sys2Proof.Machine.execTrainingWindowEnd n s
  | .groupDiscardEnd tag => Sys2Proof.Machine.execGroupDiscardEnd tag s

end Sys2Proof.Machine
end

