-- ==== Sys2Proof/Safety.lean ====
section
/-! DEFINITION. What every state of a run keeps, in the terms that statements use. -/
namespace Sys2Proof

open Sys2Proof.Machine

/-- The register file and the memories are in their canonical form: keys strictly rising, no entry
that equals what an unlisted key reads as. -/
def Canonical (s : State) : Prop := sparseOk resetWord s.regs = true ∧ Memory.wf s.mem = true

/-- Every numbered part of the state is there: the ports, channels, units, cores, loops and strings
that the spec counts. -/
structure Sized (s : State) : Prop where
  ports : s.tb.ports.length = 5
  sieve : s.sieve.length = 32
  tk : s.tk.length = 64
  iv : s.iv.length = 16
  fa : s.fa.length = 32
  dm : s.dm.length = 16
  sp : s.sp.length = 16
  pc : s.pc.length = 8
  ce : s.ce.length = 16
  gx : s.gx.length = 5
  strings : s.light.strings.length = 8
  chains : s.light.chains.length = 2
  pwf : s.pins.pwf.length = 8

/-- A run of commands: each step answers a next state. -/
inductive Reaches : State → State → Prop where
  | refl (s : State) : Reaches s s
  | step {s t u : State} : Machine.step s = .next t → Reaches t u → Reaches s u

/-- Addresses that raising a source or storing an item may write (R375, R379, R450, R456): EV_LATCH,
TR_STAT, LP_ECC, and FLAG, CNT and ECC of the queues. -/
def eventAddr (a : Nat) : Bool :=
  (decide (0x40100 ≤ a) && decide (a < 0x40158)) || a == 0x50004 || a == 0xC0008 ||
    (decide (0xC1000 ≤ a) && decide (a < 0xC3000) && decide (0x14 ≤ a % 0x20))

/-- The latch bit of a source is set (R456). -/
def Latched (s : State) (src : Nat) : Prop := s.has (EV_LATCH_SRC (src / 32)) (src % 32) = true

/-- What raising event sources, making records, queueing them and replying to commands leave alone:
every register but those of `eventAddr`, all memory, and every part of the state but the events, the
pool and the places where a raise and an answer leave their marks; no latch bit is cleared. -/
structure Quiet (s t : State) : Prop where
  pending : t.pending = s.pending
  rd : ∀ a, eventAddr a = false → t.rd a = s.rd a
  latch : ∀ src, src < 704 → Latched s src → Latched t src
  mem : t.mem = s.mem
  tb : t.tb = s.tb
  sew : t.sew = s.sew
  sieve : t.sieve = s.sieve
  tk : t.tk = s.tk
  iv : t.iv = s.iv
  fa : t.fa = s.fa
  trg : { t.trg with routed := s.trg.routed } = s.trg
  pat : { t.pat with inputs := s.pat.inputs } = s.pat
  dm : t.dm = s.dm
  sp : t.sp = s.sp
  pc : t.pc = s.pc
  ce : t.ce = s.ce
  light : t.light = s.light
  gx : t.gx = s.gx
  atq : { t.atq with pend := s.atq.pend } = s.atq
  tags : t.atq.pend.map (fun p => p.tag) = s.atq.pend.map (fun p => p.tag)
  cus : { t.cus with raisedAt := s.cus.raisedAt, causes := s.cus.causes } = s.cus
  pwr : t.pwr = s.pwr
  pins : t.pins = s.pins

/-- The command answers a next state that is `u` but for what `Quiet` allows, and every source of
`srcs` that is enabled while CORE is on is latched in it. -/
def Gives (c : Instr) (s u : State) (srcs : List Nat) : Prop :=
  ∃ t, Machine.exec c s = .next t ∧ Quiet u t ∧
    ∀ n ∈ srcs, sourceReserved n = false → u.domOn dCORE = true → u.bit (EV_SRC_EN n) = true →
      Latched t n

/-- Queue `q` takes the next item of `n` grains as it comes: LOAM is on, R373 admits it, no Q_READ
is stalled on the queue and no TRIAL_ECC waits for an item. -/
def Takes (s : State) (q n : Nat) : Prop :=
  s.domOn dLOAM = true ∧ s.admission q n = none ∧ (s.queue q).stall = none ∧
    s.loam.trialEcc = none

/-- Queue `q` holds one item more, the record `r`. -/
def Appended (s t : State) (q : Nat) (r : Rec) : Prop :=
  ∃ it : Item, (t.queue q).items = (s.queue q).items ++ [it] ∧ it.words = recWords r

/-- The counter stands at a tick or past it. -/
def Past (s : State) (t : Tick) : Prop := tickLt s.now t = false

/-- Registers that a reset's own work sets: unit state, time base status, custody status,
enumeration status, rails, straps. -/
def resetWrites : List Nat :=
  [ MODE_STATUS_STATE.addr, TB_STATUS.addr, CUS_STAT.addr, ENUM_STAT.addr, RAIL_STAT.addr, STRAP.addr]

/-- A LINK_ALIGN that goes on in HOLDOVER: its step is decided (R62, R73). -/
def keptAlign : Option AlignJob → Option AlignJob
  | some { result := none, .. } => none
  | j => j

/-- The unit in HOLDOVER as R78 has it: internal oscillator, TRACE 0, no LINK_ALIGN that still measures
(R73), the reference to qualify again. -/
def heldOver (s : State) : State :=
  let t := ((s.put TB_STATUS_SRC 2).put TB_STATUS_ALIGN alHOLDOVER).setTrace false
  { t with tb := { t.tb with refOk := false, heldOver := true, align := keptAlign t.tb.align } }

/-- The command answers a next state of which `P` holds. -/
def Answers (c : Instr) (s : State) (P : State → Prop) : Prop :=
  ∃ t, Machine.exec c s = .next t ∧ P t

/-- An enabled source is latched, CORE being on in the state before. -/
def Raised (s t : State) (n : Nat) : Prop :=
  sourceReserved n = false → s.domOn dCORE = true → s.bit (EV_SRC_EN n) = true → Latched t n

/-- Field `f` counts `n` more from `s` to `t`; what a count beyond the field reads is open. -/
abbrev Counts (s t : State) (f : RF) (n : Nat) : Prop :=
  s.get f + n < 2 ^ f.width → t.get f = s.get f + n

/-- The state in which a command's own part runs: CMD_CNT has counted it (R452). -/
def counted (s : State) : State := s.count CMD_CNT_COUNT

/-- The native single command of an opcode (R436); none where R436 lists none. -/
def ofOpcode (op : Nat) (c : Cmd) : Option Instr :=
  match op with
  | 0x01 => some (.ident c) | 0x02 => some (.negotiate c) | 0x03 => some (.enumerate c [])
  | 0x04 => some (.ping c) | 0x10 => some (.regRead c) | 0x11 => some (.regWrite c)
  | 0x12 => some (.regModify c) | 0x13 => some (.readBlock c) | 0x14 => some (.writeBlock c)
  | 0x20 => some (.modeSet c) | 0x21 => some (.modeQuery c) | 0x22 => some (.domain c)
  | 0x2F => some (.resetUnit c) | 0x30 => some (.qRead c) | 0x31 => some (.qWrite c)
  | 0x32 => some (.qConfig c) | 0x33 => some (.qFlush c) | 0x40 => some (.arm c)
  | 0x41 => some (.fire c) | 0x42 => some (.disarm c) | 0x50 => some (.grade c)
  | 0x51 => some (.calZero c) | 0x52 => some (.calFull c) | 0x53 => some (.linkAlign c)
  | 0x60 => some (.coeffWrite c) | 0x61 => some (.loopFreeze c) | 0x62 => some (.loopRelease c)
  | 0x70 => some (.vecLoad c) | 0x71 => some (.seqStart c) | 0x72 => some (.seqStop c)
  | 0x73 => some (.seqBranch c) | 0x80 => some (.pair c) | 0x81 => some (.yield c)
  | 0x82 => some (.reclaim c) | 0x90 => some (.markerFrame c) | 0xF0 => some (.trialLink c)
  | 0xF1 => some (.trialEvent c) | 0xF2 => some (.trialEcc c) | 0xF3 => some (.trialCause c)
  | 0xFF => some (.trialClear c)
  | _ => none

/-- The native single command runs as it arrives: the unit executes commands, nothing waits before
it, and the checks of R428 and the LEN check of R514 pass. -/
structure Heard (s : State) (op : Nat) (c : Cmd) : Prop where
  listens : s.listens = true
  target : c.unit.toNat = s.unitId
  free : s.atq.waiting = []
  order : c.order = true → s.anyOpen = false
  native : c.cver = 4
  single : c.group = false
  state : ∀ r, opRow op = some r → s.stateCheck r = none
  tag : s.tagOpen c.tag = false
  room : s.pendCount < 16
  noEnum : s.enumerating = false
  len : lenOk op c.p.length = true

/-- The command answers a next state: one of which `P` holds, from which the commands that waited
behind it go on (R430). -/
def Leaves (i : Instr) (s : State) (P : State → Prop) : Prop :=
  ∃ u, Machine.exec i s = .next u.releaseAll ∧ P u

/-- The command is answered at once, out of state `v`: STATUS OK and a body (R425). -/
def AnswersOk (i : Instr) (c : Cmd) (s v : State) (body : List W64) : Prop :=
  Machine.exec i s = .next (v.reply c.tag c.noReply stOk 0 body).releaseAll

/-- The command is pending until its happening, behind those that are pending already, which it may
have let come to an end (R429). -/
def Pends (s u : State) (op : Nat) (c : Cmd) (w : Waits) : Prop :=
  ∃ l, u.atq.pend = l ++ [{ tag := c.tag, noReply := c.noReply, order := c.order
                            opcode := BitVec.ofNat 8 op, waits := w }] ∧
    l.map (fun p => p.tag) = s.atq.pend.map (fun p => p.tag)

/-- Every register but CMD_CNT and those of a list reads as before. -/
def OnlyRegs (s u : State) (l : List Nat) : Prop :=
  ∀ a, a ≠ CMD_CNT.addr → a ∉ l → u.rd a = s.rd a

end Sys2Proof
end

