-- ==== Sys2Proof/Certificates/Slice0/Obligations.lean ====
section
/-! DEFINITION. The statements of this model, for the provers. -/

open Sys2Proof Sys2Proof.Machine

/-- The block's step takes the command at the front of its queue and runs it with the queue's
rest; with nothing waiting one tick passes (the model's own choice, log entry 1). -/
def Obligations.StepRunsFrontCommand : Prop :=
  ∀ s : State,
    (∀ c rest, s.pending = c :: rest → Machine.step s = exec c { s with pending := rest }) ∧
    (s.pending = [] → Machine.step s = .next (s.advanceTo (s.now + 1)))

/-- R59: with nothing waiting the counter holds before the tick clock first locks, else advances
by 1, and at 2^48 - 1 counts to 0, the epoch increments and source 37 is raised (R81); nothing
else changes. That an empty queue stands for a tick is the model's choice (log entry 1); `up` is
the model's own count of ticks. -/
def Obligations.IdleStepCountsOneTick : Prop :=
  ∀ s : State, s.pending = [] →
    (s.tb.started = false → Machine.step s = .next s) ∧
    (s.tb.started = true → s.now ≠ BitVec.allOnes 48 →
      Machine.step s = .next { s with tb := { s.tb with
        tick := s.tb.tick + 1, up := s.tb.up + 1 } }) ∧
    (s.tb.started = true → s.now = BitVec.allOnes 48 →
      ∃ t, Machine.step s = .next t ∧
        Quiet { s with tb := { s.tb with tick := 0, epoch := s.tb.epoch + 1, up := s.tb.up + 1 } } t ∧
        Raised s t 37)

/-- No command changes the queue: a step that answers a next state leaves exactly the commands
that waited behind the front one. -/
def Obligations.StepTakesOneCommand : Prop :=
  ∀ s t : State, Machine.step s = .next t → t.pending = s.pending.tail

/-- A step stops only where R493 allows no pulse: RESETN_LOW with a pulse longer than t_RF and
shorter than t_RW. Every other command of the table, of every one of the 213 constructors,
completes: exec answers a next state in every state and for all its operands (the first clause).
-/
def Obligations.StepStopsOnlyOnShortPulse : Prop :=
  ∀ s : State,
    (∀ c : Instr, (∀ ns, c = .resetnLow ns → ns.toNat ≤ 100 ∨ 1000 ≤ ns.toNat) →
      ∃ t, Machine.exec c s = .next t) ∧
    (∀ r, Machine.step s ≠ .refused r) ∧
    (∀ f, Machine.step s = .fault f ↔ f = Fault.resetPulseNotAllowed ∧
      ∃ ns rest, s.pending = Instr.resetnLow ns :: rest ∧ 100 < ns.toNat ∧ ns.toNat < 1000)

/-- Every step keeps the register file and the memories in their canonical form, so that equal
contents are equal states, and keeps every numbered part of the machine there. -/
def Obligations.StepKeepsForm : Prop :=
  ∀ s t : State, Canonical s → Sized s → Machine.step s = .next t → Canonical t ∧ Sized t

/-- The state after reset: counter and epoch 0, the counter not started (R59), state BOOT (R30),
an empty queue, memories in their canonical form with nothing listed, and every register at its
reset value but those that show the straps, the custody role they give, the rails and the monitors
(the model's choice, log entries 2 and 3). -/
def Obligations.ResetState : Prop :=
  Canonical State.reset ∧ Sized State.reset ∧ State.reset.pending = [] ∧ State.reset.mem = [] ∧
    State.reset.now = 0 ∧ State.reset.tb.epoch = 0 ∧ State.reset.tb.started = false ∧
    State.reset.unitState = usBoot ∧
    ∀ a, a ∉ [ENUM_STAT.addr, STRAP.addr, RAIL_STAT.addr, VSUP_MON.addr, TEMP_MON.addr,
        TB_STATUS.addr, CUS_STAT.addr, AO_GSTAT.addr] → State.reset.rd a = resetWord a

/-- R59, R516, R405: when the tick clock locks, PLL_LOCK sets and SRC shows the source it follows;
the first lock since reset is tick 0 of epoch 0, a later one leaves the counter alone. Ports that
waited for it may start; no other register and no memory changes. R62: at STEP_TICK the counter
takes the value it would have reached plus k ticks, the step is no longer pending and the step
generation moves on; the ports keep their filters. Each conclusion here says that exec answers a
next state: pllLock, stepApply. -/
def Obligations.CounterStartsAndSteps : Prop :=
  (∀ s : State, s.domOn dPLL = true → s.bit TB_STATUS_PLL_LOCK = false →
     Answers .pllLock s fun t =>
       t.bit TB_STATUS_PLL_LOCK = true ∧ t.tb.started = true ∧
       (s.tb.started = true → t.now = s.now ∧ t.tb.epoch = s.tb.epoch) ∧
       (s.tb.started = false → t.now = 0 ∧ t.tb.epoch = 0) ∧
       (t.get TB_STATUS_SRC =
         if s.alignState = alHOLDOVER ∧ s.tb.refOk = false then 2 else if s.isHead then 0 else 1) ∧
       t.mem = s.mem ∧
       ∀ a, eventAddr a = false → a ≠ TB_STATUS.addr →
         (∀ n, n < 5 → a ≠ (GX_PSTAT_STATE n).addr ∧ a ≠ (PORT_STAT_VER n).addr) → t.rd a = s.rd a) ∧
  (∀ (s : State) (k : Int) (at_ : Tick), s.tb.started = true →
     s.tb.steps = [{ k := k, tick := at_ }] → s.now.toNat ≤ at_.toNat → at_.toNat - s.now.toNat < 2 ^ 47 →
     0 ≤ at_.toNat + k → at_.toNat + k < 2 ^ 48 →
     Answers .stepApply s fun t =>
       (t.now.toNat : Int) = at_.toNat + k ∧ t.tb.epoch = s.tb.epoch ∧ t.tb.steps = [] ∧
       t.bit TB_STATUS_STEP_PEND = false ∧ t.tb.gen = s.tb.gen + 1 ∧ t.tb.ports = s.tb.ports)

/-- R516, R77, R78: loss of lock clears PLL_LOCK and raises source 43; unless the unit is in
HOLDOVER it enters it with source 32, as a lost reference does from every state but UNALIGNED,
where it moves a running tick clock to the internal oscillator. The counter, every other register
and memory stay. That the reference then has to qualify again is read from R79 (log entry 17).
Without lock REFOUT is held, and while it is enabled and locked it rises on the multiples of 8
(R57). R79: the head leaves HOLDOVER to HEAD when its reference qualifies, a child whose spine is
up at version 3 to ACQUIRE, where it measures anew, and one without a spine waits; SRC shows the
reference again (the child's at once, log entry 18). The head's TRACE follows PLL_LOCK, with
source 33 on a return after holdover. Each conclusion here says that exec answers a next state:
pllLockLoss, referenceLost, referenceQualified. -/
def Obligations.HoldoverIsEnteredAndLeft : Prop :=
  (∀ s : State,
     (s.bit TB_STATUS_PLL_LOCK = true → s.alignState ≠ alHOLDOVER →
       Gives .pllLockLoss s (heldOver (s.putB TB_STATUS_PLL_LOCK false)) [43, 32]) ∧
     Answers .pllLockLoss s (fun t => t.refout = .held) ∧
     (s.bit TB_CFG_REFOUT_EN = true → s.bit TB_STATUS_PLL_LOCK = true →
       s.refout = .runs (s.now.toNat % 8 == 0)) ∧
     (s.bit TB_CFG_REFOUT_EN = false → s.refout = .held) ∧
     (s.bit TB_STATUS_PLL_LOCK = true → s.alignState = alHOLDOVER →
       Gives .pllLockLoss s
         ((((s.putB TB_STATUS_PLL_LOCK false).put TB_STATUS_SRC 2).setTrace false).modTb
           (fun x => { x with refOk := false })) [43]) ∧
     (s.alignState ≠ alHOLDOVER → s.alignState ≠ alUNALIGNED →
       Gives .referenceLost s (heldOver s) [32]) ∧
     (s.alignState = alHOLDOVER ∨ s.alignState = alUNALIGNED →
       Machine.exec .referenceLost s = .next { (if s.tb.started then s.put TB_STATUS_SRC 2 else s) with
         tb := { s.tb with refOk := false } })) ∧
  (∀ s : State, s.alignState = alHOLDOVER → s.bit TB_STATUS_TRACE = false →
     (s.isHead = true →
       Gives .referenceQualified s
         ((((s.put TB_STATUS_SRC 0).put TB_STATUS_ALIGN alHEAD).setTrace
             (s.bit TB_STATUS_PLL_LOCK)).modTb (fun x => { x with
           refOk := true, traced := s.tb.traced || s.bit TB_STATUS_PLL_LOCK
           heldOver := s.tb.heldOver && !s.bit TB_STATUS_PLL_LOCK }))
         (if s.bit TB_STATUS_PLL_LOCK && s.tb.heldOver then [33] else [])) ∧
     (s.isHead = false → s.gxLive 0 = false →
       Machine.exec .referenceQualified s = .next { s.put TB_STATUS_SRC 1 with
         tb := { s.tb with refOk := true } }) ∧
     (s.isHead = false → s.gxLive 0 = true → s.get (PORT_STAT_VER 0) = 3 →
       Answers .referenceQualified s fun t =>
         t.alignState = alACQUIRE ∧ t.get TB_STATUS_SRC = 1 ∧ t.tb.acq = 0 ∧ t.tb.good = 0 ∧
         t.now = s.now ∧ t.mem = s.mem ∧
         ∀ a, eventAddr a = false → a ≠ TB_STATUS.addr → t.rd a = s.rd a))

/-- R59, R60, R81: at 2^48 - 1 the counter counts to 0, the epoch increments and source 37 is
raised; with PERIOD 24 to 47 the periodic marker falls on the next multiple of 2^PERIOD. Nothing
else changes. Each conclusion here says that exec answers a next state: tickWrap, periodicMarker.
-/
def Obligations.WrapAndPeriodicMarkers : Prop :=
  ∀ s : State, s.tb.started = true →
    Gives .tickWrap s { s with tb := { s.tb with
      tick := 0, epoch := s.tb.epoch + 1, up := s.tb.up + (2 ^ 48 - s.now.toNat) } } [37] ∧
    ∀ n : Tick, 24 ≤ s.get TB_CFG_PERIOD → s.get TB_CFG_PERIOD ≤ 47 →
      n.toNat % 2 ^ s.get TB_CFG_PERIOD = 0 → (n - s.now).toNat < 2 ^ s.get TB_CFG_PERIOD →
      Gives .periodicMarker s { s with tb := { s.tb with
          tick := n, up := s.tb.up + (n - s.now).toNat
          epoch := if n.toNat < s.now.toNat then s.tb.epoch + 1 else s.tb.epoch } }
        (if n.toNat < s.now.toNat then [37] else [])

/-- R66, R68: a finished slew leaves nothing to slew, and lets a DEGRADED unit trace again, after
holdover with source 33; a handshake measurement that reaches 10 minutes takes TRACE away. R404:
the head's LREF_OK follows the input at LREF. With SPINE_REF its loss raises source 42 and takes
the spine port to DETECT. Each conclusion here says that exec answers a next state: slewComplete,
measurementAged, lrefQualified, lrefLost. -/
def Obligations.TraceAndLinkReference : Prop :=
  (∀ s : State,
     (s.alignState ≠ alDEGRADED → s.bit TB_STATUS_TRACE = s.traceNow →
       Machine.exec .slewComplete s = .next { s with tb := { s.tb with slew := 0 } }) ∧
     (s.alignState = alDEGRADED → s.tb.steps = [] → s.bit TB_STATUS_PLL_LOCK = true →
       s.tb.handshake = some (2, false) → s.bit TB_STATUS_TRACE = false →
       Gives .slewComplete s ((s.setTrace true).modTb (fun x => { x with
         slew := 0, traced := true, heldOver := false })) (if s.tb.heldOver then [33] else [])) ∧
     (∀ tr old, s.alignState = alDEGRADED → s.tb.handshake = some (tr, old) →
       s.bit TB_STATUS_TRACE = true →
       Machine.exec .measurementAged s = .next ((s.setTrace false).modTb (fun x => { x with
         handshake := some (tr, true) })))) ∧
  (∀ s : State, s.isHead = true →
     Machine.exec .lrefQualified s = .next (s.putB TB_STATUS_LREF_OK true) ∧
     (s.bit TB_CFG_SPINE_REF = false →
       Machine.exec .lrefLost s = .next (s.putB TB_STATUS_LREF_OK false)) ∧
     (s.bit TB_CFG_SPINE_REF = true → s.gxState 0 ≠ gxDISABLED →
       Answers .lrefLost s fun t =>
         t.bit TB_STATUS_LREF_OK = false ∧ t.gxState 0 = gxDETECT ∧ Raised s t 42 ∧
         t.mem = s.mem ∧ t.tb = s.tb ∧
         ∀ a, eventAddr a = false → a ≠ TB_STATUS.addr → a ≠ (GX_PSTAT_STATE 0).addr →
           a ≠ (PORT_STAT_VER 0).addr → a ≠ (GX_LINK_RETRAIN 0).addr → t.rd a = s.rd a))

/-- R74, R75: an edge of the chosen sense is stamped with source 38. On the head in mode LOAD or
TRACK an armed edge loads TSYNC_LOAD: a step by the whole ticks of the difference is pending with
the epoch, and the rest is slewed. R64, R66, R69: a version 3 port sends a marker that carries its
departure tick, TRACE, the next number and the stamp and number of the marker it last received; no
register and no memory changes. A marker that echoes one of the markers sent, within the same step
generation, completes the exchange at a fore-edge port: the offset is half of arrival interval
less departure interval less ASYM, the delay half their sum. An exchange that spans a step is
discarded (R62). Each conclusion here says that exec answers a next state: tsyncEdge,
exchangeSend, timeTransferMarker. -/
def Obligations.TsyncEdgesAndExchanges : Prop :=
  (∀ (s : State) (f : Fine) (rising : Bool), s.domOn dPLL = true → s.get TSYNC_CFG_MODE ≠ 0 →
     rising = !s.bit TSYNC_CFG_EDGE →
     (s.tb.steps ≠ [] ∨ (s.isHead = false ∧ s.tb.tsLoad = none) →
       Gives (.tsyncEdge s.now f rising) s
         { s with tb := { s.tb with tsLast := { tick := s.now, fine := f } } } [38]) ∧
     (∀ e l, s.isHead = true → 2 ≤ s.get TSYNC_CFG_MODE → s.tb.tsArmed = true → s.tb.steps = [] →
       e.toNat = s.get TSYNC_LOAD_HI_EPOCH →
       l.toNat = s.get TSYNC_LOAD_HI_TICK_H * 2 ^ 32 + s.get TSYNC_LOAD_LO_TICK_L →
       Answers (.tsyncEdge s.now f rising) s fun t =>
         let d := tickDiff l s.now * 1024 - f.toNat
         t.tb.tsLoad = some (s.wide s.now + tickDiff l s.now) ∧ t.tb.tsArmed = false ∧ t.bit TB_STATUS_STEP_PEND = true ∧
         t.tb.steps = [{ k := divRound d 1024, tick := stepTickAfter s.now, load := some (e, l) }] ∧
         t.tb.slew = d - 1024 * divRound d 1024 ∧ Raised s t 38 ∧ t.now = s.now ∧ t.mem = s.mem ∧
         ∀ a, eventAddr a = false → a ≠ TB_STATUS.addr → t.rd a = s.rd a)) ∧
  (∀ (s : State) (n : Fin 5), Sized s → s.get (PORT_STAT_VER n.val) = 3 →
     ((n.val = 0 → s.isHead = false) → ∃ m : TimeMark,
       m.depTick = s.now ∧ m.trace = s.bit TB_STATUS_TRACE ∧
       (∀ d, (s.tbPort n.val).deps.head? = some d → m.seq = d.1 + 1) ∧
       (∀ a, (s.tbPort n.val).arr = some a →
         m.arrSeq = a.1 ∧ m.arrTick = a.2.tick ∧ m.arrFine = a.2.fine) ∧
       Answers (.exchangeSend n) s fun t =>
         (t.gxOf n.val).txTime = (s.gxOf n.val).txTime ++ [m] ∧ t.regs = s.regs ∧ t.mem = s.mem) ∧
     (∀ (m : TimeMark) (f : Fine) (seq : BitVec 8) (dep : Stamp), n.val ∈ [1, 2, 3] →
       (s.tbPort n.val).deps.find? (fun d => d.1 == m.arrSeq) = some (seq, dep, s.tb.gen) →
       let arr : Stamp := { tick := s.now, fine := f }
       let ain := stampDiff arr { tick := m.depTick, fine := m.depFine }
       let aout := stampDiff { tick := m.arrTick, fine := m.arrFine } dep
       (s.spansStep m = true → Machine.exec (.timeTransferMarker n m s.now f) s =
         .next (s.modTbPort n.val (fun p => { p with arr := some (m.seq, arr) }))) ∧
       (s.spansStep m = false → Answers (.timeTransferMarker n m s.now f) s fun t =>
         (t.tbPort n.val).offsets.head? = some (ain - aout - s.asym n.val) ∧
         (t.tbPort n.val).arr = some (m.seq, arr) ∧
         t.get (PORT_DELAY_DELAY n.val) = asCode 32 (divRound (ain + aout) 2) ∧
         t.bit (PORT_STAT_VALID n.val) = true ∧
         t.get (PORT_STAT_EXCH n.val) = (s.get (PORT_STAT_EXCH n.val) + 1) % 2 ^ (PORT_STAT_EXCH n.val).width ∧
         t.mem = s.mem ∧ t.now = s.now ∧
         (0 < s.get (PORT_CFG_LIMIT n.val) →
           (s.get (PORT_CFG_LIMIT n.val) : Int) < (t.tbPort n.val).offset.natAbs → Raised s t 40) ∧
         ∀ a, eventAddr a = false → a ≠ (PORT_STAT_VER n.val).addr →
           a ≠ (PORT_DELAY_DELAY n.val).addr → t.rd a = s.rd a)))

/-- R85 to R91, R96: a leading edge beyond the hold-off and 10 ns after the last stamped one is a
hit: its stamp is the newest, its count is up, and it is on its way to the sequencer's branches
(R183); an edge within the hold-off only counts in HOLD_CNT, one within 12,800 fine units of the
last hit only in PILE_CNT. No memory changes. R103 to R105: an interval with no stop closes after
2^24 - 1 ticks with an overflow record in queue 0C0h, stamped with its start; without CONT the
unit's EN clears. A standby publishes none. Each conclusion here says that exec answers a next
state: leadingEdge, intervalOverflow. -/
def Obligations.HitsAreStampedAndIntervalsOverflow : Prop :=
  (∀ (s : State) (c : BitVec 6) (bin : BitVec 7) (falling : Bool), Sized s →
     s.seesEdges c.toNat = true → (c.toNat < 32 → s.inReset c.toNat = false) →
     s.leads c.toNat falling = true →
     (s.slopeBoth c.toNat = true ∨ (s.tkOf c.toNat).active = false) →
     (s.tkOf c.toNat).inj = [] → (s.tkOf c.toNat).since < s.tb.up →
     let st := s.stampOf c.toNat s.now bin.toNat
     let d := fun l : Int => s.elapsed st - l
     ((∀ l, (s.tkOf c.toNat).last = some l →
         s.get (CH_LEVEL_HOLDOFF c.toNat) * 1024 ≤ d l ∧ 12800 ≤ d l) →
       Answers (.leadingEdge c s.now bin falling) s fun t =>
         (t.tkOf c.toNat).last = some (s.elapsed st) ∧
         (t.tkOf c.toNat).active = !(s.slopeBoth c.toNat && falling) ∧
         ((t.tkOf c.toNat).run.map (fun h => h.stamp)) =
           ((s.tkOf c.toNat).run.map (fun h => h.stamp)) ++ [st] ∧
         Counts s t (HIT_CNT_COUNT c.toNat) 1 ∧
         (.hit c, s.tb.up) ∈ t.pat.inputs ∧ t.mem = s.mem) ∧
     (∀ l, (s.tkOf c.toNat).last = some l → d l < s.get (CH_LEVEL_HOLDOFF c.toNat) * 1024 →
       Answers (.leadingEdge c s.now bin falling) s fun t =>
         Counts s t (HOLD_CNT_COUNT c.toNat) 1 ∧
         (t.tkOf c.toNat).last = some l ∧ (t.tkOf c.toNat).run = (s.tkOf c.toNat).run ∧
         t.mem = s.mem ∧ ∀ a, a ≠ (HOLD_CNT_COUNT c.toNat).addr → t.rd a = s.rd a) ∧
     (∀ l, (s.tkOf c.toNat).last = some l → s.get (CH_LEVEL_HOLDOFF c.toNat) * 1024 ≤ d l →
       d l < 12800 →
       Answers (.leadingEdge c s.now bin falling) s fun t =>
         t.get (LOSS_CNT_PILE_CNT c.toNat) =
           saturate (LOSS_CNT_PILE_CNT c.toNat).width (s.get (LOSS_CNT_PILE_CNT c.toNat) + 1) ∧
         (t.tkOf c.toNat).last = some l ∧
         ((t.tkOf c.toNat).run.getLast?.map (fun h => h.pile)) =
           ((s.tkOf c.toNat).run.getLast?.map (fun _ => true)) ∧
         t.mem = s.mem ∧ ∀ a, a ≠ (LOSS_CNT_PILE_CNT c.toNat).addr → t.rd a = s.rd a)) ∧
  (∀ (s : State) (u : BitVec 4) (st : Stamp) (m : Int) (gen : Nat) (v : IvUnit), s.iv.length = 16 →
     s.iv.getD u.toNat {} = v → v.start = some (st, m, gen) → m + 0xFFFFFF ≤ s.tb.up →
     Answers (.intervalOverflow u) s fun t =>
       (t.iv.getD u.toNat {}).start = none ∧
       t.bit (IV_CFG_EN u.toNat) = (s.bit (IV_CFG_EN u.toNat) && s.bit (IV_CFG_CONT u.toNat)) ∧
       (s.standby = true → t.get (IV_COUNT_COUNT u.toNat) = s.get (IV_COUNT_COUNT u.toNat)) ∧
       (s.standby = false → Takes s 0xC0 1 →
         Counts s t (IV_COUNT_COUNT u.toNat) 1 ∧
         ∃ r : Rec, Appended s t 0xC0 r ∧ r.type = 1 ∧ r.source.toNat = 0x40 + u.toNat ∧
           r.tick = st.tick ∧ r.fine = st.fine ∧
           r.payload = [intervalWord (s.get (IV_CFG_STOP u.toNat)) true v.extra 0xFFFFFF 0]))

/-- R85, R96, R97, R98: the release crossing gives the running hit its width; a hit whose width is
known leaves for the island buffer 13 ticks after its edge, and a full buffer loses it with
LOST_CNT and source 64 + 2c; assembly moves the oldest hit into an empty block. R98 to R101, R355:
a block that has reached its age closes: one record of type 1 with the channel as its source and a
hit word for every hit, stamped with the first hit's tick, joins the channel's queue. Each
conclusion here says that exec answers a next state: releaseCrossing, hitRelease, hitAssemble,
hitBlockClose. -/
def Obligations.HitsAreQueuedInBlocks : Prop :=
  (∀ (s : State) (c : BitVec 6),
     (∀ (bin : BitVec 7) (h : Hit), s.seesEdges c.toNat = true → s.slopeBoth c.toNat = false →
       (c.toNat < 32 → s.inReset c.toNat = false) → (s.tkOf c.toNat).run = [h] → h.width = none →
       (s.tkOf c.toNat).inj = [] → (s.tkOf c.toNat).since < s.tb.up →
       let w := widthOf (s.elapsed (s.stampOf c.toNat s.now bin.toNat) - h.moment)
       Machine.exec (.releaseCrossing c s.now bin) s = .next (s.modTk c.toNat (fun k => { k with
         run := [{ h with width := some w }], active := false, edge := some s.tb.up }))) ∧
     (∀ (h : Hit) (rest : List Hit) (w : BitVec 22), (s.tkOf c.toNat).run = h :: rest →
       h.width = some w → h.came + 13 ≤ s.tb.up → h.cal = false → s.publishesHits c.toNat = true →
       ((s.tkOf c.toNat).buf.length < 64 →
         Machine.exec (.hitRelease c) s = .next (s.modTk c.toNat (fun k => { k with
           run := rest, buf := k.buf ++ [h] }))) ∧
       (64 ≤ (s.tkOf c.toNat).buf.length →
         Gives (.hitRelease c) s ((s.modTk c.toNat (fun k => { k with run := rest })).bump
           (LOSS_CNT_LOST_CNT c.toNat)) [64 + 2 * c.toNat])) ∧
     (∀ (h : Hit) (rest : List Hit), (s.tkOf c.toNat).closed = none →
       (s.tkOf c.toNat).buf = h :: rest → (s.tkOf c.toNat).block = [] →
       1 < s.get HB_CFG_MAXLEN → c.toNat < s.tk.length →
       Machine.exec (.hitAssemble c) s = .next (s.modTk c.toNat (fun k => { k with
         buf := rest, block := [h] })))) ∧
  (∀ (s : State) (c : BitVec 6) (f : Hit) (l : List Hit), c.toNat < s.tk.length →
     (s.tkOf c.toNat).closed = none → (s.tkOf c.toNat).block = f :: l →
     f.moment / 1024 + (max 1 (s.get HB_CFG_AGE) * 64 : Nat) ≤ s.tb.up →
     (∀ n, n = grainsOf (3 + l.length) → Takes s (0x80 + c.toNat) n) →
     Answers (.hitBlockClose c) s fun t => ∃ r : Rec,
       Appended s t (0x80 + c.toNat) r ∧ r.type = 1 ∧ r.source.toNat = c.toNat ∧
       r.tick = f.stamp.tick ∧ r.holdover = f.hold ∧
       r.payload = (f :: l).map (hitWord c.toNat f.stamp.tick) ∧ (t.tkOf c.toNat).block = [])

/-- R89 to R95: an injection waits for its 32 ticks; its bin then counts in the histogram and FILL
shows the total, unless an edge came meanwhile; an accepted table swaps into the buffer that is
not in use, with VALID; a table that is too old sets STALE with source 65 + 2c. Each conclusion
here says that exec answers a next state: injectionAttempt, gradeSample, tableSwap, gradeStale. -/
def Obligations.GradingKeepsTables : Prop :=
  ∀ (s : State) (c : BitVec 6), Sized s →
    (∀ bin : BitVec 7, s.seesEdges c.toNat = true → s.bit TK_CFG_GRADE_EN = true →
      (s.tkOf c.toNat).active = false → (s.tkOf c.toNat).since < s.tb.up →
      (∀ e, (s.tkOf c.toNat).edge = some e → 32 < s.tb.up - e) →
      Machine.exec (.injectionAttempt c s.now bin) s = .next (s.modTk c.toNat (fun k => { k with
        inj := k.inj ++ [((s.tb.up : Int), bin, false)] }))) ∧
    (∀ (t0 : Int) (bin : BitVec 7) (l : List (Int × BitVec 7 × Bool)),
      (s.tkOf c.toNat).inj = (t0, bin, true) :: l → t0 + 32 ≤ s.tb.up →
      Machine.exec (.gradeSample c) s = .next (s.modTk c.toNat (fun k => { k with inj := l }))) ∧
    (∀ (t0 : Int) (bin : BitVec 7) (l : List (Int × BitVec 7 × Bool)) (h : List (Nat × Nat)),
      (s.tkOf c.toNat).inj = (t0, bin, false) :: l →
      s.seesEdges c.toNat = true → t0 + 32 ≤ s.tb.up →
      h = sparsePut (s.tkOf c.toNat).hist bin.toNat
        (sparseGet (s.tkOf c.toNat).hist bin.toNat 0 + 1) 0 → histTotal h < 65536 →
      Machine.exec (.gradeSample c) s = .next ((s.modTk c.toNat (fun k => { k with
        inj := l, hist := h })).put (GRADE_STAT_FILL c.toNat) (histTotal h))) ∧
    (∀ tab : List Nat, (s.tkOf c.toNat).newTab = some tab →
      Answers (.tableSwap c) s fun t =>
        t.get (GRADE_STAT_BUF c.toNat) = 1 - s.get (GRADE_STAT_BUF c.toNat) ∧
        t.bit (GRADE_STAT_VALID c.toNat) = true ∧ (t.tkOf c.toNat).newTab = none ∧
        (∀ b, b < 128 → tab.getD b 0 < 1024 →
          t.get (gradeEntry c.toNat (1 - s.get (GRADE_STAT_BUF c.toNat)) b) = tab.getD b 0) ∧
        (s.bit TK_CFG_SWAP_EVT = true → Raised s t (65 + 2 * c.toNat))) ∧
    (s.get TK_CFG_MAXAGE ≠ 0 → s.seesEdges c.toNat = true →
      Gives (.gradeStale c) s (s.putB (GRADE_STAT_STALE c.toNat) true) [65 + 2 * c.toNat])

/-- R124, R125, R130 to R132: at a sampling instant every unpaired channel's sample word, or GAP
when the channel does not run, goes to the slot of the tick; a word whose lag is over is in its
slot, and no byte outside the slots of such words changes. R117 to R122: a reset falls due by
period or near the rail, and a deferred one once nothing is open, once DEFER is 0, or once a
further period has passed; it starts on a multiple of 4 ticks with RST_ACT and RST_CNT and ends
after CLOSE and RECOV. `old` is none where no write of FA_RST or FA_RSTT waits for the next sample
(R129). Each conclusion here says that exec answers a next state: samplingInstant,
nearRailResetDue, periodicResetDue, deferredResetFire, deferLimit, resetStart, resetEnd. -/
def Obligations.SamplesFillRingsAndResetsRun : Prop :=
  (∀ (s : State) (codes : List (BitVec 14)), Sized s → s.now.toNat % 4 = 0 →
     Answers (.samplingInstant s.now codes) s fun t =>
       (∀ c, c < 32 → s.paired c = false → s.domOn dCAPMEM = true →
         t.ringWord c s.now =
           (if s.faRuns c then s.sampleWord c s.now (codes.getD c 0) else gapWord)) ∧
       (∀ c, c < 32 → s.paired c = false → s.faRuns c = true →
         (s.sampleWord c s.now (codes.getD c 0)).getLsbD 1 = false →
         (t.faOf c).good = some (codes.getD c 0).toInt) ∧
       (∀ a, (∀ c, c < 32 → ∀ e ∈ (s.faOf c).late, e.2.2 ≤ s.tb.up → a ≠ e.1 ∧ a ≠ e.1 + 1) →
         t.memByte a = s.memByte a) ∧
       (∀ k e, k < 32 → (s.faOf k).late = [e] → e.2.2 ≤ s.tb.up →
         (∀ c, c < 32 → c ≠ k → (s.faOf c).late = []) → t.memHalf e.1 = e.2.1) ∧
       t.now = s.now) ∧
  (∀ (s : State) (c : BitVec 5), Sized s → (s.faOf c.toNat).old = none →
     (s.resets c.toNat = true → s.inReset c.toNat = false →
       (bitOf (BitVec.ofNat 2 (s.get (FA_RST_POLICY c.toNat))) 1 = true →
         2 ≤ (s.faOf c.toNat).near → (s.faOf c.toNat).due = none →
         Machine.exec (.nearRailResetDue c) s = .next (s.modFa c.toNat (fun f => { f with
           due := some (true, s.tb.up + 1) }))) ∧
       (bitOf (BitVec.ofNat 2 (s.get (FA_RST_POLICY c.toNat))) 0 = true →
         (s.faOf c.toNat).deferred = none →
         s.periodicAt c.toNat = s.tb.up →
         (s.bit (FA_RST_DEFER c.toNat) = false →
           Answers (.periodicResetDue c) s fun t => (t.faOf c.toNat).due.isSome ∧
             t.regs = s.regs ∧ t.mem = s.mem) ∧
         (s.bit (FA_RST_DEFER c.toNat) = true → (s.postOpen c.toNat || s.gateOpen c.toNat) = true →
           Machine.exec (.periodicResetDue c) s = .next ((s.modFa c.toNat (fun f => { f with
             deferred := some s.tb.up })).putB (FA_STAT_DEFERRED c.toNat) true))) ∧
       (∀ t0, (s.faOf c.toNat).deferred = some t0 →
         (s.bit (FA_RST_DEFER c.toNat) = false ∨ (s.postOpen c.toNat = false ∧
             s.gateOpen c.toNat = false ∧ s.openEnds c.toNat = []) →
           Answers (.deferredResetFire c) s fun t => (t.faOf c.toNat).due.isSome ∧
             (t.faOf c.toNat).deferred = none ∧ t.bit (FA_STAT_DEFERRED c.toNat) = false ∧
             t.mem = s.mem) ∧
         (t0 + s.resetPeriod c.toNat ≤ s.tb.up →
           Answers (.deferLimit c) s fun t => (t.faOf c.toNat).due.isSome ∧
             (t.faOf c.toNat).deferred = none ∧ t.bit (FA_STAT_DEFERRED c.toNat) = false ∧
             t.mem = s.mem))) ∧
     (∀ near u, (s.faOf c.toNat).due = some (near, u) → u ≤ s.tb.up → s.resets c.toNat = true →
       s.now.toNat % 4 = 0 →
       Answers (.resetStart c) s fun t =>
         t.bit (FA_STAT_RST_ACT c.toNat) = true ∧ t.bit (FA_STAT_DEFERRED c.toNat) = false ∧
         t.get (FA_STAT_RST_CNT c.toNat) =
           saturate (FA_STAT_RST_CNT c.toNat).width (s.get (FA_STAT_RST_CNT c.toNat) + 1) ∧
         (t.faOf c.toNat).resetEnd = some (s.tb.up + s.resetLength c.toNat) ∧
         (t.faOf c.toNat).due = none ∧ t.mem = s.mem ∧
         ((near || s.bit (FA_RST_RST_EVT c.toNat)) = true → Raised s t (192 + 2 * c.toNat)) ∧
         ∀ a, eventAddr a = false → a ≠ (FA_STAT_RST_ACT c.toNat).addr → t.rd a = s.rd a) ∧
     (∀ e, (s.faOf c.toNat).resetEnd = some e → e ≤ s.tb.up →
       Machine.exec (.resetEnd c) s = .next ((s.modFa c.toNat (fun f => { f with
         resetEnd := none, lastEnd := s.tb.up })).putB (FA_STAT_RST_ACT c.toNat) false)))

/-- R128, R135: a clipped sample raises source 193 + 2c unless it was raised within 12,500 ticks,
and one that is not clipped raises nothing; a matched pair that has learnt from samples shows its
estimates, and a change of MATCH_OK with source 193 + 4k. R210 to R214: a gate that closes gives
one result with its spoil, clip and hit; a spoiled one counts with source 448 + d. While another
gate of the shot is open the shot goes on. Each conclusion here says that exec answers a next
state: clipSample, matchOkChange, gateClose. -/
def Obligations.FastChannelReportsAndGates : Prop :=
  (∀ s : State,
     (∀ c : BitVec 5, (s.faOf c.toNat).clipped = true →
       (∀ e ∈ s.ev.lastRaise, e.1 = 193 + 2 * c.toNat → e.2 + 12500 ≤ s.tb.up) →
       Gives (.clipSample c) s s [193 + 2 * c.toNat]) ∧
     (∀ c : BitVec 5, (s.faOf c.toNat).clipped = false →
       Machine.exec (.clipSample c) s = .next s) ∧
     (∀ (k : BitVec 4) (ok : Bool) (est : W32), s.has FA_GCFG_ILV k.toNat = true →
       s.faRuns (2 * k.toNat) = true → (s.faOf (2 * k.toNat)).learnt = true →
       (ok = true → 2 ^ 20 ≤ (s.faOf (2 * k.toNat)).pairs) →
       let u := ((s.putB (FA_STAT_MATCH_OK (2 * k.toNat)) ok).wr
         (FA_MATCH (2 * k.toNat)).addr est).modFa (2 * k.toNat) (fun f => { f with
           learnt := false, pairs := if ok then f.pairs else 0 })
       (s.bit (FA_STAT_MATCH_OK (2 * k.toNat)) = !ok →
         Gives (.matchOkChange k ok est) s u [193 + 4 * k.toNat]) ∧
       (s.bit (FA_STAT_MATCH_OK (2 * k.toNat)) = ok →
         Machine.exec (.matchOkChange k ok est) s = .next u))) ∧
  (∀ (s : State) (d : BitVec 4) (g : BitVec 3) (gate : Gate) (shot : Stamp) (no : W32), Sized s →
     (s.dmOf d.toNat).shot = some (shot, no) → gate ∈ (s.dmOf d.toNat).gates →
     gate.g = g.toNat → gate.done = false →
     (∀ x ∈ (s.dmOf d.toNat).gates, x.g = g.toNat → x = gate) →
     (∃ x ∈ (s.dmOf d.toNat).gates, x.g ≠ g.toNat ∧ x.done = false) → Past s (gate.hi - 1) →
     Answers (.gateClose d g) s fun t => ∃ r : GateRes,
       (t.dmOf d.toNat).results = (s.dmOf d.toNat).results ++ [r] ∧ r.g = g.toNat ∧
       r.spoil = gate.spoil ∧ r.clip = gate.clip ∧ r.nohit = gate.hit.isNone ∧
       (∀ i y, gate.best = some (i, y) → r.peak = BitVec.ofNat 17 i) ∧
       (t.dmOf d.toNat).shot = some (shot, no) ∧
       (∀ x ∈ (t.dmOf d.toNat).gates, x.g = g.toNat → x.done = true) ∧
       (gate.spoil = true → t.get (DM_CNT_SPOIL d.toNat) =
           saturate (DM_CNT_SPOIL d.toNat).width (s.get (DM_CNT_SPOIL d.toNat) + 1) ∧
         t.bit (DM_STAT_SPOILED d.toNat) = true ∧ Raised s t (448 + d.toNat)) ∧
       t.mem = s.mem)

/-- R185, R191, R193: at its start tick a scheduled sequence runs, with source 416; a STOPPING
engine is OFF with every pin tristate after EXIT_T ticks of the idle vector; a starved pass that
the queue holds again resumes with source 419. R168, R170, R173, R174, R185: the vector that is
due t_LEAD ticks ahead is issued and shown in PAT_STAT and PAT_POS; the oldest issued output takes
the pins at its start, and each pin drives what its state code says; the PULSE pins go low in
mid-vector. Each conclusion here says that exec answers a next state: sequenceStart, stoppingExit,
starveResume, vectorIssue, vectorStart, pulseFall. -/
def Obligations.SequencesReachPins : Prop :=
  (∀ s : State,
     (∀ g u tag, s.patState = paIDLE → s.pat.start = some (g, u, tag) → Past s u →
       s.waitsForVector = false →
       Gives .sequenceStart s { (s.put PAT_STAT_STATE paRUN) with
         pat := { s.pat with start := none, shotNo := 0 } } [416]) ∧
     (∀ u, s.patState = paSTOPPING → s.pat.idleSince = some u →
       Past s (u + BitVec.ofNat 48 (s.get PAT_CFG_EXIT_T)) → s.modeOn mPROBE = false →
       Answers .stoppingExit s fun t =>
         t.patState = paOFF ∧ t.pins.pvDrive = 0 ∧ t.pat.idleSince = none ∧ t.mem = s.mem ∧
         ∀ a, a ≠ PAT_STAT_STATE.addr → t.rd a = s.rd a) ∧
     (s.patState = paSTARVED → s.waitsForVector = true → s.bit PAT_CFG_STARVE_ACT = false →
       s.holdsPass = true →
       Answers .starveResume s fun t => t.patState = paRUN ∧ Raised s t 419 ∧ t.mem = s.mem ∧
         (s.segStream s.pat.seg.toNat = true → t.bit (Q_FLAG_STALLED s.streamQueue) = false))) ∧
  (∀ s : State,
     (∀ i acc ref vec bad num, s.patState = paRUN → s.pat.ended = false →
       s.waitsForVector = false → s.dueStart = some (i, acc, ref) → Past s (i.1 - 48) →
       s.fetchVec = some (vec, bad, num) →
       Answers .vectorIssue s fun t => ∃ o : VecOut,
         t.pat.issued = s.pat.issued ++ [o] ∧ o.vec = vec ∧ o.seg = s.pat.seg ∧
         o.pass = s.pat.pass ∧ o.num = num ∧ o.rep = s.pat.rep ∧ o.spoilt = bad ∧ o.gap = false ∧
         t.get PAT_STAT_SEG = s.pat.seg.toNat ∧ t.get PAT_STAT_PASS = s.pat.pass.toNat ∧
         t.get PAT_POS_VEC = num.toNat ∧ t.mem = s.mem) ∧
     (∀ prev o rest i acc ref, s.patState = paRUN → s.pat.cur = some prev → prev.last = false →
       s.pat.stops = [] → s.startAfter prev s.pat.acc s.pat.ref = some (i, acc, ref) →
       s.pat.issued = o :: rest → o.gap = false → o.spoilt = false → Past s i.1 →
       Answers .vectorStart s fun t =>
         t.pat.cur = some o ∧ t.pat.curAt = i ∧ t.pat.issued = rest ∧ t.pat.acc = acc ∧
         t.pat.ref = ref ∧ t.mem = s.mem ∧
         ∀ n, n < 32 →
           (vecPin o.vec n = 1 → bitOf t.pins.pvDrive n = true ∧ bitOf t.pins.pvOut n = false) ∧
           (vecPin o.vec n = 2 ∨ vecPin o.vec n = 7 →
             bitOf t.pins.pvDrive n = true ∧ bitOf t.pins.pvOut n = true) ∧
           (vecPin o.vec n = 3 ∨ vecPin o.vec n = 4 ∨ vecPin o.vec n = 5 →
             bitOf t.pins.pvDrive n = false)) ∧
     (s.pat.cur ≠ none → s.pat.pulses ≠ 0 →
       Answers .pulseFall s fun t =>
         t.pins.pvOut = s.pins.pvOut &&& ~~~s.pat.pulses ∧ t.pins.pvDrive = s.pins.pvDrive ∧
         t.pat.pulses = 0 ∧ t.mem = s.mem))

/-- R177, R179, R180, R183, R184, R186, R187: a strobe samples the pins, and a failing output
counts in PAT_FAIL, is latched when it is the first, and raises source 422 once a pass; an input
that is on its way and that the running segment's condition names makes a request, or counts as
dropped with source 421 while one is pending, and one that it does not name is dropped in silence;
a calibration ends with source 424, a pin whose measured delays span and are monotonic is marked
OK, any other is an error with source 425. Each conclusion here says that exec answers a next
state: compareStrobe, branchRequest, calibrationEnd. -/
def Obligations.ComparesBranchesCalibration : Prop :=
  ∀ s : State,
    (∀ o levels, s.pat.cur = some o → s.pat.strobed = false →
      Answers (.compareStrobe levels) s fun t =>
        t.pins.pvIn = levels ∧ t.pat.strobed = true ∧ t.mem = s.mem ∧
        (s.failingPins levels = 0 → t.get PAT_FAIL_CNT = s.get PAT_FAIL_CNT) ∧
        (s.failingPins levels ≠ 0 →
          Counts s t PAT_FAIL_CNT 1 ∧
          t.bit PAT_FAIL_SEG_VALID = true ∧
          (s.bit PAT_FAIL_SEG_VALID = false → t.get PAT_FAIL_SEG_SEG = o.seg.toNat ∧
            t.get PAT_FAIL_PASS_PASS = o.pass.toNat ∧
            t.get PAT_FAIL_MASK_PINS = (s.failingPins levels).toNat) ∧
          (s.pat.failRaised ≠ o.serial + 1 → Raised s t 422))) ∧
    (∀ i, s.pat.inputs.find? (fun e => e.1 == i) = none →
      Machine.exec (.branchRequest i) s = .next s) ∧
    (∀ i e, s.pat.inputs.find? (fun e => e.1 == i) = some e →
      (s.patState ≠ paRUN ∨ s.branchMatches (s.get PAT_STAT_SEG) i = false) →
      Machine.exec (.branchRequest i) s = .next { s with
        pat := { s.pat with inputs := s.pat.inputs.erase e } }) ∧
    (∀ i e, s.pat.inputs.find? (fun e => e.1 == i) = some e → s.patState = paRUN →
      s.branchMatches (s.get PAT_STAT_SEG) i = true →
      (s.bit PAT_BR_PEND = false →
        Answers (.branchRequest i) s fun t =>
          t.bit PAT_BR_PEND = true ∧
          t.get PAT_BR_TARGET = s.get (SEG_C_TARGET (s.get PAT_STAT_SEG)) ∧
          t.bit PAT_BR_LATE = s.pat.pastPoint ∧ t.mem = s.mem) ∧
      (s.bit PAT_BR_PEND = true →
        Answers (.branchRequest i) s fun t =>
          t.get PAT_BR_TARGET = s.get PAT_BR_TARGET ∧
          t.get PAT_BR_DROP_CNT = saturate PAT_BR_DROP_CNT.width (s.get PAT_BR_DROP_CNT + 1) ∧
          Raised s t 421 ∧ t.mem = s.mem)) ∧
    (∀ pins b meas, s.pat.cal = some (pins, b) →
      Answers (.calibrationEnd meas) s fun t =>
        t.bit PAT_CAL_BUSY = false ∧ t.pat.cal = none ∧ Raised s t 424 ∧ t.mem = s.mem ∧
        t.patState = (if s.modeOn mPROBE && !s.standby then paIDLE else paOFF) ∧
        ∀ n : BitVec 5, bitOf pins n.toNat = true →
          (calPasses (codeDelays (((meas.find? (fun r => r.1.toNat == n.toNat)).map
              (fun r => r.2)).getD [])) = true →
            t.has PAT_CAL_OK_PINS n.toNat = true ∧ t.has PAT_CAL_ERR_PINS n.toNat = false) ∧
          (calPasses (codeDelays (((meas.find? (fun r => r.1.toNat == n.toNat)).map
              (fun r => r.2)).getD [])) = false →
            t.has PAT_CAL_ERR_PINS n.toNat = true ∧ Raised s t 425))

/-- R140, R142, R148: a met condition counts and raises source 288 + n; on an armed unit it makes
a trigger of this slot with the condition as its TRIGID, local unless SCOPE is set, and on any
other it makes none. R152, R155, R157: a complete window that fits one record is published in the
capture queue with its stamp, and the cut is over; a capture that stops before its first output
counts in MARKS, raises source 262 and queues an overflow mark with the outputs that are missing.
Each conclusion here says that exec answers a next state: conditionMet, cutComplete,
captureOverflow. -/
def Obligations.TriggersAndCaptures : Prop :=
  (∀ (s : State) (n : BitVec 5) (i : CondInput), s.modeOn mLISTEN = true →
     s.bit (TC_CFG_EN n.toNat) = true → s.meets n.toNat i = some s.now → (∀ u, i ≠ .command u) →
     (s.armState ≠ armARMED ∨ s.standby = true →
       Gives (.conditionMet n i) s (s.count (TC_CNT_COUNT n.toNat))
         [288 + n.toNat]) ∧
     (s.armState = armARMED → s.standby = false → s.trg.armWide ≤ s.wide s.now →
       s.trg.slots.any (fun e => e.1 == s.slotOf s.now) = false →
       (∀ f ∈ s.trg.fires, f.own = true → f.slot ≠ s.slotOf s.now) →
       Answers (.conditionMet n i) s fun t => ∃ f : FireReq,
         t.trg.fires = s.trg.fires ++ [f] ∧ f.own = true ∧ f.mark.origin.toNat = s.unitId ∧
         f.mark.root = s.armRoot ∧ f.mark.tick = s.now ∧ f.mark.trigId = n ∧
         f.mark.srcMask = setBit 0 n.toNat true ∧ f.loc = !s.bit (TC_CFG_SCOPE n.toNat) ∧
         f.set = s.trg.setNo ∧ f.hold = s.get TRG_SET_HOLD ∧ f.settle = s.settle ∧
         Counts s t (TC_CNT_COUNT n.toNat) 1 ∧
         Raised s t (288 + n.toNat) ∧ t.mem = s.mem ∧
         ∀ a, eventAddr a = false → a ≠ (TC_CNT_COUNT n.toNat).addr → t.rd a = s.rd a)) ∧
  (∀ (s : State) (c : BitVec 5) (g : Gathering), s.trg.gaths = [g] → g.cuts = [c] →
     s.standby = false → s.get TRG_CFG_QUEUE ≠ 0xF1 →
     (∀ tt p, s.elapsedAt g.hi g.gen ≤ s.tb.up →
       s.settleRings.slotLost c.toNat g.lo g.gen = false →
       captureParts g (s.get TRG_AVG_NM1) (s.settleRings.outputs c.toNat g) = [(tt, p)] →
       Takes s (s.get TRG_CFG_QUEUE) (grainsOf (2 + p.length)) →
       Answers (.cutComplete c) s fun t =>
         (∃ r : Rec, Appended s t (s.get TRG_CFG_QUEUE) r ∧ r.type = 2 ∧ r.source.toNat = c.toNat ∧
           r.tick = tt ∧ r.payload = p ∧ r.holdover = g.hold ∧ r.cont = false) ∧
         (∀ h ∈ t.trg.gaths, h.cuts = []) ∧ t.get TRG_STAT_INFLIGHT = 0 ∧
         t.mem = s.settleRings.mem) ∧
     (∀ cause : OvfCause, Takes s (s.get TRG_CFG_QUEUE) 1 →
       Answers (.captureOverflow c cause 0) s fun t =>
         (∃ r : Rec, Appended s t (s.get TRG_CFG_QUEUE) r ∧ r.type = 7 ∧ r.source.toNat = c.toNat ∧
           r.payload = [captureD0 g, packWord [(0, 47, 17), ((s.outputs c.toNat g).length, 30, 17),
             (match cause with | .fullQueue => 1 | .ringOverrun => 2, 22, 8)]]) ∧
         t.get TRG_OVF_MARKS = saturate TRG_OVF_MARKS.width (s.get TRG_OVF_MARKS + 1) ∧
         (∀ h ∈ t.trg.gaths, h.cuts = []) ∧ Raised s t 262))

/-- R145, R146: an ARM marker that names an idle unit with LISTEN on loads its settings and makes
it PENDING, or ARMED with LATE and source 257 once its tick is past; at the tick a PENDING unit is
ARMED with source 256. The master collects the acknowledgements and answers OK once every member
was on time; a ROOT that is no ancestor undoes the arming. R144, R149, R164: a FIRE of the set in
force waits for its decision. One with no gathering before it opens one, with source 258; one
within HOLD of a gathering only counts in HELD. A DISARM of the set waits for its tick, and then
returns the unit to IDLE with source 266 and drops the FIREs of the set at or after its tick. Each
conclusion here says that exec answers a next state: armMarker, armTickReached, armAck, armReply,
fireMarker, fireDecide, disarmMarker, disarmEffect. -/
def Obligations.ArmingAndFires : Prop :=
  (∀ s : State,
     (∀ (m : TrigMark) (p : Fin 5), s.standby = false → s.isMember m.members = true →
       s.armState = armIDLE → s.modeOn mLISTEN = true → s.readyOrActive = true →
       Answers (.armMarker m p) s fun t =>
         t.get TRG_STAT_ROOT = m.root.toNat ∧ t.bit TRG_STAT_ONCE = m.once ∧
         t.bit TRG_STAT_MASTER = false ∧ t.get TRG_SET_HOLD = m.hold.toNat ∧
         t.get TRG_SET_SETTLE = m.settle.toNat ∧ t.armTick = m.tick ∧ t.members = m.members ∧
         t.trg.slots = [] ∧ t.trg.setNo = s.trg.setNo + 1 ∧ t.mem = s.mem ∧
         (tickLt s.now m.tick = true → t.armState = armPENDING ∧
           t.trg.acked = (m.origin, .onTime) :: s.trg.acked) ∧
         (tickLt s.now m.tick = false → t.armState = armARMED ∧ t.bit TRG_STAT_LATE = true ∧
           t.trg.acked = (m.origin, .late) :: s.trg.acked ∧ Raised s t 257)) ∧
     (s.armState = armPENDING → Past s s.armTick →
       Gives .armTickReached s (s.put TRG_STAT_ARMST armARMED) [256]) ∧
     (∀ (u : BitVec 6) (a : ArmAck) j, s.trg.arms = [j] → bitOf j.members u.toNat = true →
       (∀ e ∈ j.acks, e.1 ≠ u) →
       Machine.exec (.armAck u a) s = .next { s with trg := { s.trg with
         arms := [{ j with acks := (u, a) :: j.acks }] } }) ∧
     (∀ j rest, s.trg.arms = j :: rest → s.rootBad j.root.toNat = false → Past s j.tick →
       (∀ u ∈ setBits j.members, ∃ a ∈ j.acks, a.1.toNat = u ∧ a.2 = .onTime) →
       Machine.exec .armReply s = .next ((s.modTrg (fun x => { x with arms := rest })).answer j.tag
         stOk 0)) ∧
     (∀ j rest, s.trg.arms = j :: rest → s.rootBad j.root.toNat = true → j.set = s.trg.setNo →
       Answers .armReply s fun t => t.armState = armIDLE ∧ t.trg.arms = rest ∧ t.mem = s.mem ∧
         (s.armState ≠ armIDLE → Raised s t 266))) ∧
  (∀ s : State,
     (∀ (m : TrigMark) (p : Fin 5), s.takesFire m.tick = true → m.root = s.armRoot →
       tickLt (m.tick + s.settle) s.now = false →
       Answers (.fireMarker m p) s fun t =>
         t.trg.fires = s.trg.fires ++ [{ mark := m, own := false, loc := false
                                         set := s.trg.setNo, hold := s.get TRG_SET_HOLD
                                         settle := s.settle, once := s.bit TRG_STAT_ONCE
                                         wide := s.wide m.tick, gen := s.genOf m.tick }] ∧
         t.regs = s.regs ∧ t.mem = s.mem) ∧
     (∀ f : FireReq, s.trg.fires = [f] → Past s (f.mark.tick + f.settle) → s.judgedBy f = none →
       f.set ∉ s.trg.spent →
       Answers .fireDecide s fun t =>
         t.get TRG_STAT_GATH = saturate TRG_STAT_GATH.width (s.get TRG_STAT_GATH + 1) ∧
         t.trg.fires = [] ∧ Raised s t 258 ∧ (f.once = true → f.set ∈ t.trg.spent) ∧
         ∃ g : Gathering,
           t.trg.gaths = g :: s.trg.gaths ∧ g.t0 = f.mark.tick ∧ g.origin = f.mark.origin ∧
           g.id = f.mark.trigId ∧ g.loc = f.loc ∧ g.set = f.set ∧ g.wide = f.wide) ∧
     (∀ (f : FireReq) (g : Gathering), s.trg.fires = [f] → Past s (f.mark.tick + f.settle) →
       s.judgedBy f = some g → f.own = false → f.tags = [] →
       8 < (f.wide - g.wide).toNat → (f.wide - g.wide).toNat ≤ f.hold →
       Machine.exec .fireDecide s = .next ((s.modTrg (fun x => { x with fires := [] })).bump
         TRG_OVF_HELD)) ∧
     (∀ (m : TrigMark) (p : Fin 5), s.armState ≠ armIDLE → m.root = s.armRoot →
       tickLe m.tick s.now = false →
       Answers (.disarmMarker m p) s fun t =>
         t.trg.disarms = s.trg.disarms ++ [(m.tick, s.trg.setNo)] ∧ t.regs = s.regs ∧
         t.mem = s.mem) ∧
     (∀ u, s.trg.disarms = [(u, s.trg.setNo)] → Past s u → s.armState ≠ armIDLE →
       Answers .disarmEffect s fun t =>
         t.armState = armIDLE ∧ t.trg.disarms = [] ∧ Raised s t 266 ∧ t.mem = s.mem ∧
         t.trg.ended = some (s.wide u) ∧
         t.trg.fires = s.trg.fires.filter (fun f =>
           !(f.set == s.trg.setNo && decide (s.wide u ≤ f.wide)))))

/-- R160, R161: an edge at TRIGIN is seen with source 261; a TRIGOUT pulse starts at its tick
while TO_EN is 1 and no standby holds the pin low, lasts TOW ticks and ends. R322, R324, R329: a
range change ends with the clear code in AO_DATA and source 516; CLRN and the high ranges are
followed in AO_GSTAT, each change with its source; a current limit is latched in AO_ILIM with
source 517. Each conclusion here says that exec answers a next state: triginEdge, trigoutStart,
trigoutEnd, rangeChangeEnd, clrnFall, clrnRise, hirngLoss, hirngReturn, aoCurrentLimit. -/
def Obligations.TriggerAndAnalogPins : Prop :=
  (∀ s : State,
     (∀ r, Gives (.triginEdge s.now r) s { s with trg := { s.trg with trigin := r } } [261]) ∧
     (s.trg.pulses = [s.now] → s.bit TRG_IO_TO_EN = true → s.standby = false →
       Machine.exec .trigoutStart s = .next { s with
         pins := { s.pins with trigout := true }
         trg := { s.trg with
           pulses := [], pulseEnd := some (s.now + BitVec.ofNat 48 (max 1 (s.get TRG_IO_TOW))) } }) ∧
     (s.trg.pulseEnd = some s.now →
       Machine.exec .trigoutEnd s = .next { s with
         pins := { s.pins with trigout := false }, trg := { s.trg with pulseEnd := none } })) ∧
  (∀ s : State,
     (∀ n : BitVec 5, s.pins.aoBusy.getLsbD n.toNat = true →
       Gives (.rangeChangeEnd n) s { (s.put (AO_DATA_CODE n.toNat) (s.get (AO_CFG_CLR n.toNat))) with
         pins := { s.pins with aoBusy := setBit s.pins.aoBusy n.toNat false } } [516]) ∧
     (s.bit AO_GSTAT_CLRN = true →
       Gives .clrnFall s (s.putB AO_GSTAT_CLRN false) [512] ∧ Machine.exec .clrnRise s = .next s) ∧
     (s.bit AO_GSTAT_CLRN = false →
       Gives .clrnRise s (s.putB AO_GSTAT_CLRN true) [513] ∧ Machine.exec .clrnFall s = .next s) ∧
     (s.bit AO_GSTAT_HIRNG = true →
       Gives .hirngLoss s (s.putB AO_GSTAT_HIRNG false) [514] ∧
       Machine.exec .hirngReturn s = .next s) ∧
     (s.bit AO_GSTAT_HIRNG = false →
       Gives .hirngReturn s (s.putB AO_GSTAT_HIRNG true) [515] ∧
       Machine.exec .hirngLoss s = .next s) ∧
     (∀ n : BitVec 5, Gives (.aoCurrentLimit n) s (s.mark AO_ILIM_OUT n.toNat) [517]))

/-- R240, R241, R246, R260: an idle core takes the next scan turn and settles its port when a
settling delay is needed; the settling's end starts the conversion; an impedance slot takes a core
between turns. R257, R246, R280, R281: a conversion that ends gives its port a result, seen in
PC_LAST and counted in RESULTS, and the port waits for its next turn; an impedance slot writes its
results and frees the core; a PWF pin shows the state that FSTATE gives a fault, and is high
impedance while it may not drive. Each conclusion here says that exec answers a next state:
scanTurn, settlingEnd, impedanceSlot, conversionComplete, impedanceResult, pwfPeriodStart. -/
def Obligations.CoresConvertTheirPorts : Prop :=
  (∀ (s : State) (k : BitVec 3), Sized s →
     (∀ i p, s.coreState k.toNat = cIDLE → s.helping k.toNat = false → s.domOn dPCV = true →
       (s.pcOf k.toNat).urgents = [] → s.nextTurn k.toNat = some (i, p) → s.portState p = psWAIT →
       (∀ b : Bool, s.testDue (2 * k.toNat + b2n b) = false) → p / 2 = k.toNat →
       Answers (.scanTurn k) s fun t =>
         t.corePort k.toNat = p ∧ (t.pcOf k.toNat).scan = i ∧ t.mem = s.mem ∧
         t.coreState k.toNat = (if s.needSettle p then cSETTLE else cCONVERT) ∧
         t.portState p = (if s.needSettle p then psSETTLE else psCONVERT) ∧
         (t.pcOf k.toNat).convStart = s.now) ∧
     (s.coreState k.toNat = cSETTLE → (s.pcOf k.toNat).recheck = false →
       s.corePort k.toNat / 2 = k.toNat →
       Past s ((s.pcOf k.toNat).convStart +
         BitVec.ofNat 48 (s.get (PS_CFG_SETTLE (s.corePort k.toNat)) * 5000)) →
       Answers (.settlingEnd k) s fun t =>
         t.coreState k.toNat = cCONVERT ∧ t.portState (s.corePort k.toNat) = psCONVERT ∧
         (t.pcOf k.toNat).convStart = s.now ∧ t.mem = s.mem) ∧
     (∀ odd : Bool, s.coreState k.toNat = cIDLE → s.bit (PC_ILV_ACTIVE k.toNat) = false →
       s.helping k.toNat = false → s.standby = false →
       s.get (PS_IMP_PERIOD (2 * k.toNat + b2n odd)) ≠ 0 → (s.pcOf k.toNat).urgents = [] →
       s.portState (2 * k.toNat + b2n odd) = psWAIT →
       Answers (.impedanceSlot k odd) s fun t =>
         t.coreState k.toNat = cSLOT ∧ t.corePort k.toNat = 2 * k.toNat + b2n odd ∧
         t.mem = s.mem ∧ t.now = s.now)) ∧
  (∀ (s : State) (k : BitVec 3), Sized s →
     (∀ raw : Int, s.coreState k.toNat = cCONVERT → s.bit (PC_ILV_ACTIVE k.toNat) = false →
       s.corePort k.toNat / 2 = k.toNat →
       phasesBy (s.corePort k.toNat) (s.convOf k.toNat).cfg = false →
       Past s ((s.pcOf k.toNat).convStart + BitVec.ofNat 48 ((s.convOf k.toNat).d * 625)) →
       Answers (.conversionComplete k false raw) s fun t => ∃ r : PResult,
         let p := s.corePort k.toNat
         (t.spOf p).last = some r ∧ (t.spOf p).before = (s.spOf p).last ∧ r.done = s.tb.up ∧
         t.get (PC_LAST_VALUE p) = r.value.toNat ∧
         t.bit (PC_LSTAT_VALID p) = true ∧
         t.get (PC_LSTAT_RESULTS p) =
           saturate (PC_LSTAT_RESULTS p).width (s.get (PC_LSTAT_RESULTS p) + 1) ∧
         t.portState p = psWAIT ∧ t.coreState k.toNat = cIDLE ∧ t.mem = s.mem) ∧
     (∀ loop lead : BitVec 16, s.coreState k.toNat = cSLOT → s.corePort k.toNat / 2 = k.toNat →
       Past s ((s.pcOf k.toNat).convStart + BitVec.ofNat 48 tImp) →
       let p := s.corePort k.toNat
       Answers (.impedanceResult k loop lead) s fun t =>
         t.get (PS_IMPR_LOOP p) = loop.toNat ∧
         t.get (PS_IMPR_LEAD p) = (if s.leadPath p then lead.toNat else 0) ∧
         t.coreState k.toNat = cIDLE ∧
         (s.get (PS_IMP_LOOP_MAX p) < loop.toNat → s.portState p ≠ psFAULT →
           t.portState p = psFAULT ∧ t.get (PS_STAT_CAUSE p) = 2 ∧ Raised s t (320 + 4 * p))) ∧
     (∀ n : BitVec 3,
       (s.pwfOn n.toNat = false → Answers (.pwfPeriodStart n) s fun t =>
         t.pins.pwf.getD n.toNat {} = { od := s.bit (PWF_CFG_OD n.toNat) } ∧ t.regs = s.regs ∧ t.mem = s.mem) ∧
       (∀ r, s.pwfOn n.toNat = true → (s.spOf (s.get (PWF_CFG_PORT n.toNat))).last = some r →
         r.fault = true → s.get (PWF_CFG_FSTATE n.toNat) = 2 →
         Answers (.pwfPeriodStart n) s fun t =>
           t.pins.pwf.getD n.toNat {} = { level := 1, od := s.bit (PWF_CFG_OD n.toNat) } ∧ t.regs = s.regs ∧ t.mem = s.mem)))

/-- R242 to R245, R270, R271: eight samples in a row with a checked pin out of the window put a
port in FAULT with cause 1, the pins of the last and source 320 + 4p; a shorter run only counts as
a glitch, and a run with a sample inside the window is neither; a finished zero calibration writes
the mean of its results as the offset and is answered; one that has not finished times out. Each
conclusion here says that exec answers a next state: windowFault, windowGlitch, calResultsDone,
calTimeout. -/
def Obligations.SensorFaultsAndCalibration : Prop :=
  ∀ (s : State) (p : BitVec 4), Sized s →
    (∀ l : List (List Int), l.length = 8 → (∀ v ∈ l, s.pinsOut p.toNat v ≠ 0) →
      s.portState p.toNat ∈ [psWAIT, psSETTLE, psCONVERT] →
      Answers (.windowFault p l s.now) s fun t =>
        t.portState p.toNat = psFAULT ∧ t.bit (PS_STAT_FAULT p.toNat) = true ∧
        t.get (PS_STAT_CAUSE p.toNat) = 1 ∧
        t.get (PS_STAT_PINS p.toNat) = s.pinsOut p.toNat (l.getD 7 []) ∧
        Raised s t (320 + 4 * p.toNat) ∧ t.mem = s.mem) ∧
    (∀ l : List (List Int), l ≠ [] → l.length < 8 → (∀ v ∈ l, s.pinsOut p.toNat v ≠ 0) →
      Machine.exec (.windowGlitch { port := p, samples := l }) s = .next ((s.bump (PS_CNT_GLITCH p.toNat)).modSp p.toNat
        (fun x => { x with clean := false }))) ∧
    (∀ (l : List (List Int)) (u : Tick), (∃ v ∈ l, s.pinsOut p.toNat v = 0) →
      Machine.exec (.windowFault p l u) s = .next s ∧ Machine.exec (.windowGlitch { port := p, samples := l }) s = .next s) ∧
    (∀ (j : CalJob) (q : Int), (s.spOf p.toNat).cal = some j → j.full = false → j.n ≤ j.count →
      0 < j.n → j.sum = q * j.n → s.bit (PC_ILV_ACTIVE (p.toNat / 2)) = false →
      Answers (.calResultsDone p) s fun t =>
        t.get (CAL_OFS_OFS p.toNat (s.get (PS_CFG_GAIN p.toNat))) = asCode 32 q ∧
        (t.spOf p.toNat).cal = none ∧ t.mem = s.mem ∧
        ∀ a, a ≠ (CAL_OFS_OFS p.toNat (s.get (PS_CFG_GAIN p.toNat))).addr → t.rd a = s.rd a) ∧
    (∀ j : CalJob, (s.spOf p.toNat).cal = some j → j.count < j.n → j.since + calLimit ≤ s.tb.up →
      Machine.exec (.calTimeout p) s = .next ((s.answer j.tag stTimedOut
        (min 255 (j.n - j.count))).modSp p.toNat (fun x => { x with cal := none })))

/-- R286, R295, R300 to R302: at a sample start an enabled loop leaves OFF, and WAIT once REGULATE
is on, and computes; a start while the sample before is unfinished counts in OVRCNT with source
481 + 2m; the latch writes the output, its limits and the bound AO pin. Each conclusion here says
that exec answers a next state: loopSampleStart, loopOutputLatch. -/
def Obligations.LoopsSampleAndLatch : Prop :=
  ∀ (s : State) (m : BitVec 4), Sized s →
    (s.engineOn = true → (s.ceOf m.toNat).notBefore = none →
      ((s.ceOf m.toNat).comp = none → s.loopState m.toNat = loOFF →
        s.bit (LOOP_CFG_EN m.toNat) = true →
        Answers (.loopSampleStart m) s fun t => t.loopState m.toNat = loWAIT ∧ t.mem = s.mem) ∧
      ((s.ceOf m.toNat).comp = none → s.loopState m.toNat = loWAIT →
        s.bit (LOOP_CFG_EN m.toNat) = true → s.modeOn mREGULATE = true →
        Answers (.loopSampleStart m) s fun t =>
          t.loopState m.toNat = loRUN ∧ t.has CE_STAT_RUNNING m.toNat = true ∧
          (t.ceOf m.toNat).comp.isSome ∧ t.mem = s.mem) ∧
      ((s.ceOf m.toNat).comp ≠ none →
        Answers (.loopSampleStart m) s fun t =>
          t.bit (LOOP_STAT_OVR m.toNat) = true ∧
          t.get (LOOP_CNT_OVRCNT m.toNat) =
            saturate (LOOP_CNT_OVRCNT m.toNat).width (s.get (LOOP_CNT_OVRCNT m.toNat) + 1) ∧
          Raised s t (481 + 2 * m.toNat) ∧ (t.ceOf m.toNat).comp = (s.ceOf m.toNat).comp)) ∧
    (∀ c, (s.ceOf m.toNat).comp = some c →
      Answers (.loopOutputLatch m) s fun t =>
        (t.ceOf m.toNat).comp = none ∧ (t.ceOf m.toNat).vals = c.vals ∧
        (t.ceOf m.toNat).latched = some s.now ∧
        t.get (LOOP_OUTV_OUT m.toNat) = asCode 32 c.vals.out ∧
        t.bit (LOOP_STAT_OLIM m.toNat) = c.olim ∧ t.bit (LOOP_STAT_RLIM m.toNat) = c.rlim ∧
        t.bit (LOOP_STAT_ILIM m.toNat) = c.ilim ∧ t.mem = s.mem ∧
        (s.bit (LOOP_CFG_BIND m.toNat) = true → s.cus.holding = false →
          s.aoReady (s.get (LOOP_CFG_AO m.toNat)) = true →
          t.get (AO_DATA_CODE (s.get (LOOP_CFG_AO m.toNat))) =
            (asCode 32 c.vals.out / 65536) ^^^ 0x8000) ∧
        (s.bit (LOOP_CFG_BIND m.toNat) = false → ∀ n, n < 32 →
          t.get (AO_DATA_CODE n) = s.get (AO_DATA_CODE n)))

/-- R333, R334, R339: a dimming period starts on a multiple of 50,000 ticks with the factor that
waited; a string that is driven takes on-time from its duty and the carried remainder, nothing
being lost; one that is not driven takes none. R339, R347, R348: a thermistor reading is shown,
its factor waits for the next period, a broken sensor sets SFAULT with source 571 and a change
between derated and not raises source 570; a frame that has latched counts in FRAMES and raises
source 572 + c when it was commanded; a refresh sends the last frame again. Each conclusion here
says that exec answers a next state: dimmingPeriodStart, ltmpRead, markerLatchEnd, markerRefresh.
-/
def Obligations.DimmingDeratingAndMarkers : Prop :=
  (∀ s : State, Sized s → s.domOn dLIGHT = true → s.tb.started = true →
     Answers .dimmingPeriodStart s fun t =>
       t.now = s.nextPeriod ∧ t.now.toNat % 50000 = 0 ∧ t.light.period = some t.tb.up ∧
       t.light.factor = s.light.nextF.getD s.light.factor ∧ t.light.nextF = none ∧ t.mem = s.mem ∧
       t.get LT_TEMP_F = s.light.nextF.getD s.light.factor % 256 ∧
       ∀ n, n < 8 → (s.strOf n).wrote = none → (s.strOf n).owedFor = 0 → (s.strOf n).carry = 0 →
         s.bit (LS_STAT_OFFD n) = false → s.nextPeriod.toNat / 50000 % 64 ≠ 8 * n →
         s.light.nextF.getD s.light.factor ≤ 256 →
         0 ≤ (s.strOf n).acc → (s.strOf n).acc < 65536 →
         (s.lightWanted = true → s.strEn n = true →
           ((t.strOf n).ton : Int) * 65536 + (t.strOf n).acc = (s.strOf n).acc +
             (s.strDuty n * s.light.nextF.getD s.light.factor / 256) * 50000 ∧
           0 ≤ (t.strOf n).acc ∧ (t.strOf n).acc < 65536) ∧
         (s.lightWanted = false ∨ s.strEn n = false → (t.strOf n).ton = 0)) ∧
  (∀ s : State, Sized s →
     (∀ code : BitVec 10, Answers (.ltmpRead code) s fun t =>
       t.get LT_TEMP_CODE = code.toNat ∧ t.light.nextF = some (s.derating code.toNat) ∧
       t.light.factor = s.light.factor ∧ t.mem = s.mem ∧
       t.bit LT_TEMP_SFAULT = (s.get LT_DER_HI != 0 && (decide (1020 ≤ code.toNat) ||
         decide (code.toNat ≤ 3))) ∧
       (t.bit LT_TEMP_SFAULT = true → s.bit LT_TEMP_SFAULT = false → Raised s t 571) ∧
       ((s.light.nextF.getD s.light.factor = 256) ≠ (s.derating code.toNat = 256) →
         Raised s t 570)) ∧
     (∀ (c : Bool) (f : MFrame), (s.mkOf (b2n c)).frame = some f → (s.mkOf (b2n c)).next = none →
       s.frameEnd (b2n c) f ≤ s.tb.up →
       Answers (.markerLatchEnd c) s fun t =>
         (t.mkOf (b2n c)).frame = none ∧ t.bit (MK_STAT_BUSY (b2n c)) = false ∧
         t.get (MK_STAT_FRAMES (b2n c)) =
           saturate (MK_STAT_FRAMES (b2n c)).width (s.get (MK_STAT_FRAMES (b2n c)) + 1) ∧
         t.mem = s.mem ∧ (f.tag ≠ none → Raised s t (572 + b2n c))) ∧
     (∀ (c : Bool) (f : MFrame), (s.mkOf (b2n c)).frame = none → (s.mkOf (b2n c)).last = some f →
       s.get (MK_CFG_REFRESH (b2n c)) ≠ 0 → s.bit (MK_CFG_EN (b2n c)) = true →
       s.modeOn mLIGHT = true → s.domOn dLIGHT = true → s.standby = false →
       (s.mkOf (b2n c)).ended + s.get (MK_CFG_REFRESH (b2n c)) * 12500000 ≤ s.tb.up →
       Answers (.markerRefresh c) s fun t =>
         (t.mkOf (b2n c)).frame = some f ∧ t.bit (MK_STAT_BUSY (b2n c)) = true ∧ t.mem = s.mem ∧
         ∀ a, a ≠ (MK_STAT_BUSY (b2n c)).addr → t.rd a = s.rd a))

/-- R342, R344: a probe that finds less than 90 % of its current in W1 is an open string, and a
pin low at the end of W2 a short to ground that replaces the open verdict of the same probe: the
fail count, the bit and, when it is new, source 544 + n or 552 + n. With FACT the string is held
off. R336 to R338: the boost regulates with source 574 once its target has come to VMIN at 5 V/ms
and its output is within 0.5 V of it; an overvoltage sets OV with source 568 and waits for a
retry, the third within a second latches with source 569; the retry starts softly from the
measured output; the target follows the lowest headroom. Each conclusion here says that exec
answers a next state: probeW1End, probeW2End, boostRegulate, boostOvervoltage, boostRetryEnd,
boostTargetAdapt. -/
def Obligations.StringProbesAndBoost : Prop :=
  (∀ (s : State) (n : BitVec 3), Sized s → (s.strOf n.toNat).probe ≠ none →
     (∀ sink : BitVec 18, s.bit (LS_STAT_OPEN n.toNat) = false →
       sink.toNat < 900 * s.probeCurrent n.toNat →
       Answers (.probeW1End n sink false false) s fun t =>
         t.bit (LS_STAT_OPEN n.toNat) = true ∧ Raised s t (544 + n.toNat) ∧
         t.get (LS_CNT_FAILS n.toNat) =
           saturate (LS_CNT_FAILS n.toNat).width (s.get (LS_CNT_FAILS n.toNat) + 1) ∧
         (t.strOf n.toNat).openNow = true ∧ t.mem = s.mem ∧
         (s.strFact n.toNat = true → t.bit (LS_STAT_OFFD n.toNat) = true ∧
           (t.strOf n.toNat).ton = 0)) ∧
     (∀ sink : BitVec 18, 900 * s.probeCurrent n.toNat ≤ sink.toNat →
       Machine.exec (.probeW1End n sink false false) s = .next s) ∧
     (s.bit (LS_STAT_SGND n.toNat) = false →
       Answers (.probeW2End n true) s fun t =>
         t.bit (LS_STAT_SGND n.toNat) = true ∧ Raised s t (552 + n.toNat) ∧
         ((s.strOf n.toNat).openNow = true → t.bit (LS_STAT_OPEN n.toNat) = false) ∧
         t.get (LS_CNT_FAILS n.toNat) = saturate (LS_CNT_FAILS n.toNat).width
           (s.get (LS_CNT_FAILS n.toNat) + b2n (!(s.strOf n.toNat).open_)) ∧
         (t.strOf n.toNat).probe = none ∧ t.mem = s.mem)) ∧
  (∀ s : State,
     (∀ v : BitVec 8, s.boostState = bsSOFTSTART → s.get BST_CFG_VMIN ≤ v.toNat + 2 →
       v.toNat ≤ s.get BST_CFG_VMIN + 2 → s.light.ramp.1 + s.rampLength * rampStep ≤ s.tb.up →
       Gives (.boostRegulate v) s (((s.put BST_STAT_VOUT v.toNat).put BST_STAT_VTGT
         (s.get BST_CFG_VMIN)).put BST_STAT_STATE bsREGULATE) [574]) ∧
     (s.bgateSwitches = true →
       Answers .boostOvervoltage s fun t =>
         t.bit BST_STAT_OV = true ∧ Raised s t 568 ∧ t.mem = s.mem ∧
         (s.light.overs = [] → t.boostState = bsRETRY ∧ t.light.overs = [s.tb.up]) ∧
         (∀ a b, s.light.overs = [a, b] → s.tb.up < a + 1250000000 →
           s.tb.up < b + 1250000000 → t.boostState = bsLATCHED ∧ Raised s t 569)) ∧
     (∀ a l, s.boostState = bsRETRY → s.light.overs = a :: l → a + 12500000 ≤ s.tb.up →
       Answers .boostRetryEnd s fun t => t.boostState = bsSOFTSTART ∧
         t.get BST_STAT_VTGT = t.get BST_STAT_VOUT ∧
         t.light.ramp = (s.tb.up, t.get BST_STAT_VOUT) ∧ t.mem = s.mem) ∧
     (∀ (n : BitVec 3) (h v : BitVec 8), s.boostState = bsREGULATE →
       s.reportsHeadroom n.toNat = true → 1 ≤ s.get BST_CFG_HEAD →
       s.get BST_CFG_VMIN ≤ s.get BST_STAT_VTGT → s.get BST_STAT_VTGT < s.get BST_CFG_VMAX →
       s.get BST_CFG_VMAX ≤ 0xE8 →
       Answers (.boostTargetAdapt [(n, h)] v) s fun t =>
         t.get BST_STAT_VOUT = v.toNat ∧ t.get (LS_STAT_HEADV n.toNat) = h.toNat ∧
         (h.toNat + 4 < s.get BST_CFG_HEAD →
           t.get BST_STAT_VTGT = s.get BST_STAT_VTGT + 1) ∧
         (s.get BST_CFG_HEAD ≤ h.toNat + 4 → h.toNat ≤ s.get BST_CFG_HEAD + 4 →
           t.get BST_STAT_VTGT = s.get BST_STAT_VTGT) ∧
         (s.get BST_CFG_HEAD + 4 < h.toNat → t.get BST_STAT_VTGT =
           max (s.get BST_CFG_VMIN) (s.get BST_STAT_VTGT - 1)) ∧ t.mem = s.mem))

/-- R359 to R361: the Sieve judges a sample LAG ticks after its label: an excursion from the
rounded baseline opens a run, a quiet sample outside a run moves the baseline by 2^-BSH of its
distance, with the rounding open; an overflow closes the open run with OVR and source 578. Each
conclusion here says that exec answers a next state: sieveDecide, sieveOverflow. -/
def Obligations.SieveRuns : Prop :=
  ∀ (s : State) (c : BitVec 5), s.sieve.length = 32 →
    (∀ l b r x, s.sieveOn c.toNat = true → (s.svOf c.toNat).next = some l →
      (s.svOf c.toNat).gen = s.tb.gen → s.elapsedAt l + s.svLag ≤ s.tb.up →
      s.settleRings.slotLost c.toNat l s.tb.gen = false → (s.svOf c.toNat).run = false →
      (s.svOf c.toNat).base = some b → 2 * b % 131072 ≠ 65536 → r = (2 * b + 65536) / 131072 →
      x = sampleOf (s.settleRings.ringWord c.toNat l) → s.inCapture c.toNat (s.elapsedAt l) = false →
      (s.svThr c.toNat ≤ (x - r).natAbs → (s.svOf c.toNat).back.length < 1000 →
        Answers (.sieveDecide c) s fun t =>
          (t.svOf c.toNat).run = true ∧ (t.svOf c.toNat).exc = some l ∧
          (t.svOf c.toNat).nexc = 1 ∧ (t.svOf c.toNat).base = some b ∧
          t.bit (SV_STAT_ACTIVE c.toNat) = true ∧ t.mem = s.settleRings.mem ∧
          (t.svOf c.toNat).next = some (l + if s.paired c.toNat then 2 else 4)) ∧
      ((x - r).natAbs < s.svThr c.toNat →
        Answers (.sieveDecide c) s fun t => (t.svOf c.toNat).run = false ∧
          t.mem = s.settleRings.mem ∧ (t.svOf c.toNat).next = some (l + if s.paired c.toNat then 2 else 4) ∧
          ∃ d, (t.svOf c.toNat).base = some (b + d) ∧
            ((s.settleRings.ringWord c.toNat l).extractLsb' 0 2 ≠ 0 → d = 0) ∧
            ((s.settleRings.ringWord c.toNat l).extractLsb' 0 2 = 0 →
              (d * 2 ^ s.get (SV_CFG_BSH c.toNat) - (x * 65536 - b)).natAbs <
                2 ^ s.get (SV_CFG_BSH c.toNat)))) ∧
    (∀ cause, (s.svOf c.toNat).run = true → Answers (.sieveOverflow c cause) s fun t =>
      (t.svOf c.toNat).run = false ∧ t.bit (SV_STAT_OVR c.toNat) = true ∧
      t.bit (SV_STAT_ACTIVE c.toNat) = false ∧ Raised s t 578 ∧ t.mem = s.mem) ∧
    ∀ cause, (s.svOf c.toNat).run = false → exec (.sieveOverflow c cause) s = .next s

/-- R29, R63, R363, R364, R402: Sewing sends the held record of the smallest key, of those with
nothing stamped before a step still behind them, once its window has passed and the spine port's
credit covers it, and gives its port its credit back; a record that arrives is held, is passed on
at once where BYPASS or LATE says so, or is marked LATE and counted once its window is over. Each
conclusion here says that exec answers a next state: sewingSend, sewingArrival. -/
def Obligations.SewingOrders : Prop :=
  ∀ s : State, s.gx.length = 5 →
    (∀ h, s.nextHeld = some h → h ∈ s.sew.held ∧ s.mayLeave h = true ∧
      ∀ x ∈ s.sew.held, s.mayLeave x = true → keyLt s.now x.r h.r = false) ∧
    (∀ h, s.sew.urgent = [] → heldGrains s.sew.held ≤ s.get SEW_LIM_GRAINS → s.nextHeld = some h →
      (s.spineTakes h.r = true → tickDiff h.r.tick s.now + s.sewWindow ≤ 0 →
        Answers .sewingSend s fun t =>
          t.sew.out = s.sew.out ++ [h.r] ∧ t.sew.held = s.sew.held.erase h ∧
          t.sew.inbox = s.sew.inbox ∧ t.regs = s.regs ∧ t.mem = s.mem ∧
          (h.port ≠ 0 → h.port < 5 →
            (t.gxOf h.port).ret0 = (s.gxOf h.port).ret0 + recGrains h.r)) ∧
      (s.spineTakes h.r = false → Machine.exec .sewingSend s = .next s)) ∧
    (∀ h rest, s.sew.inbox = h :: rest → h.r.type ≠ 8 → s.sew.urgent = [] →
      (s.has SEW_CFG_BYPASS h.r.type.toNat = true ∨ h.r.late = true →
        let v := { s with sew := { s.sew with inbox := rest, urgent := [h] } }
        (v.mayLeave h = true → s.spineTakes h.r = true →
          Answers (.sewingArrival .own) s fun t => t.sew.inbox = rest ∧
            t.sew.out = s.sew.out ++ [h.r] ∧ t.sew.held = s.sew.held ∧ t.sew.urgent = [] ∧
            t.regs = s.regs ∧ t.mem = s.mem) ∧
        (s.spineTakes h.r = false → Machine.exec (.sewingArrival .own) s = .next v)) ∧
      (s.has SEW_CFG_BYPASS h.r.type.toNat = false → h.r.late = false →
        s.comesLate h.r = true →
        let h' := { h with r := { h.r with late := true } }
        let v := { s with sew := { s.sew with inbox := rest, urgent := [h'] } }
        v.mayLeave h' = true → s.spineTakes h'.r = true →
        Answers (.sewingArrival .own) s fun t => t.sew.inbox = rest ∧
          t.sew.out = s.sew.out ++ [h'.r] ∧ t.sew.held = s.sew.held ∧
          t.get SEW_CNT_LATE = saturate SEW_CNT_LATE.width (s.get SEW_CNT_LATE + 1) ∧
          t.mem = s.mem) ∧
      (s.has SEW_CFG_BYPASS h.r.type.toNat = false → h.r.late = false →
        s.comesLate h.r = false →
        heldGrains (s.sew.held ++ [h]) ≤ s.get SEW_LIM_GRAINS →
        Answers (.sewingArrival .own) s fun t => t.sew.inbox = rest ∧
          t.sew.out = s.sew.out ∧ t.sew.held = s.sew.held ++ [h] ∧ t.mem = s.mem)) ∧
    ∀ (k : Fin 3) (r : Rec), r.type ≠ 8 → r.type ≠ 0 → s.sew.urgent = [] →
      s.has SEW_CFG_BYPASS r.type.toNat = true → s.spineTakes r = true →
      (∀ x ∈ s.sew.held, x.r.unit = r.unit → (s.stepsOf r).1 ≤ x.gen) →
      Answers (.sewingArrival (.child k r)) s fun t =>
        t.sew.out = s.sew.out ++ [r] ∧ t.sew.held = s.sew.held ∧ t.regs = s.regs ∧
        (t.gxOf (k.val + 1)).ret0 = (s.gxOf (k.val + 1)).ret0 + recGrains r

/-- R370 to R374, R441: a queue that admits an item holds it last; one that refuses it sets
REFUSED, counts, raises the source that says why, and loses or keeps the item by its record type;
a waiting item is stored once it is admitted; Sewing takes the oldest item of a queue it consumes.
R377, R378, R381: a stall limit that expires counts in TOCNT, sets TO, raises source 611 and ends
a timed Q_READ with TIMED_OUT; the end of a retest returns the grains that passed, with source
616. Each conclusion here says that exec answers a next state: itemAppend, producerUnblock,
itemRemove, stallExpiry, streamStallExpiry, retestComplete. -/
def Obligations.QueuesItemsAndStalls : Prop :=
  (∀ (s : State) (q : BitVec 8) (words : List W64),
     (Takes s q.toNat (grainsOf words.length) → s.get (Q_LIM_WM q.toNat) = 0 →
       Answers (.itemAppend q words) s fun t => t.mem = s.mem ∧
         (t.queue q.toNat).items =
           (s.queue q.toNat).items ++ [{ words := words, gen := s.tb.gen }]) ∧
     (∀ src r, s.domOn dLOAM = true → s.admission q.toNat (grainsOf words.length) = some src →
       recOfWords words = some r →
       let u := ((s.putB (Q_FLAG_REFUSED q.toNat) true).bump (Q_CNT_REFCNT q.toNat)).raise src
       (r.type.toNat ∈ [3, 4, 5, 6] →
         exec (.itemAppend q words) s = .next (u.markOvf (recKey r))) ∧
       (r.type.toNat ∈ [0, 8, 9, 10] → exec (.itemAppend q words) s = .next { u with
         loam := { u.loam with waiting :=
           u.loam.waiting ++ [(q, { words := words, gen := s.tb.gen })] } })) ∧
     (∀ it rest, s.loam.waiting = (q, it) :: rest → q.toNat < 0x80 ∨ 0xBF < q.toNat →
       Takes s q.toNat (itemGrains it) → s.get (Q_LIM_WM q.toNat) = 0 →
       Answers (.producerUnblock q) s fun t => t.loam.waiting = rest ∧ t.mem = s.mem ∧
         (t.queue q.toNat).items = (s.queue q.toNat).items ++ [it]) ∧
     (∀ it rest r, (s.queue q.toNat).items = it :: rest → q ≠ 0xFF → it.bad = [] →
       s.get (Q_CFG_CONS q.toNat) = 0 → s.bit ENUM_STAT_VALID = true → s.sewingFull = false →
       s.loam.quar ≤ s.get LP_CFG_QLIM → recOfWords it.words = some r →
       Answers (.itemRemove q) s fun t => (t.queue q.toNat).items = rest ∧
         t.sew = { s.sew with inbox := s.sew.inbox ++ [{ gen := it.gen, r := r }] } ∧
         t.regs = s.regs ∧ t.mem = s.mem)) ∧
  (∀ s : State,
     (∀ (q : BitVec 8) st, (s.queue q.toNat).stall = some st → st.timed = true →
       (s.queue q.toNat).items = [] →
       (∃ p ∈ s.atq.pend, p.tag = st.tag) → (∀ p ∈ s.atq.pend, p.waits.isReady = false) →
       q ≠ 0xF1 → (s.queue 0xF1).stall = none →
       Answers (.stallExpiry q) s fun t =>
         (t.queue q.toNat).stall = none ∧ t.bit (Q_FLAG_STALLED q.toNat) = false ∧
         t.bit (Q_FLAG_TO q.toNat) = true ∧ Raised s t 611 ∧ t.mem = s.mem ∧
         ∃ p ∈ t.atq.pend, p.tag = st.tag ∧ p.waits = .ready stTimedOut 0 0 (t.level q.toNat) []) ∧
     (s.patState = paSTARVED → s.bit (Q_FLAG_STALLED s.streamQueue) = true →
       s.get (Q_STALL_LIMIT s.streamQueue) ≠ 0 → s.pat.timedOut = false →
       Gives .streamStallExpiry s
         { ((s.bump (Q_CNT_TOCNT s.streamQueue)).putB (Q_FLAG_TO s.streamQueue) true) with
           pat := { s.pat with timedOut := true } } [611]) ∧
     ∀ n : BitVec 16,
       (s.bit LP_QUAR_BUSY = false → exec (.retestComplete n) s = .next s) ∧
       (s.bit LP_QUAR_BUSY = true → (s.queue 0xF1).stall = none → Answers (.retestComplete n) s fun t =>
         t.loam.quar = s.loam.quar - n.toNat ∧ t.bit LP_QUAR_BUSY = false ∧ Raised s t 616 ∧
         t.mem = s.mem))

/-- R391, R405, R406, R410: a port's training: pattern lock takes it to TRAIN at the rate of the
pattern, lock of a permitted width to NEGOTIATE with its first round on the way, and each of the
time limits back to DETECT, where a port that left UP more than 1 ms ago can no longer resume; the
initiator's next window is at the other rate while VMIN is 1. Each conclusion here says that exec
answers a next state: partnerPatternLock, trainComplete, trainingWindowEnd, trainTimeout,
roundTimeout, recoverTimeout. -/
def Obligations.PortTraining : Prop :=
  ∀ (s : State) (n : Fin 5), s.gx.length = 5 →
    (∀ half, s.gxState n = gxDETECT → ¬ (n = 0 ∧ s.spineHeld = true) →
      (half = true → s.gxInitiator n = true → s.gxVmin n = 1) →
      Answers (.partnerPatternLock n half) s fun t =>
        t.gxState n = gxTRAIN ∧ t.bit (GX_PSTAT_HALF n) = half ∧
        t.bit (GX_PSTAT_PRECODE n) = !half ∧ (t.gxOf n).vmax = s.gxVmax n ∧ t.mem = s.mem ∧
        ∀ k : Fin 5, k ≠ n → t.gxState k = s.gxState k ∧ t.gxOf k = s.gxOf k) ∧
    (∀ (lanes : BitVec 4) w, s.gxState n = gxTRAIN →
      (lanes = 15 ∧ n = 0 ∧ w = 3) ∨ (lanes = 3 ∧ n ≠ 0 ∧ w = 2) ∨
        (lanes = 3 ∧ n = 0 ∧ s.bit (GX_PCFG_NARROW n) = true ∧ w = 2) ∨
        (lanes = 1 ∧ s.bit (GX_PCFG_NARROW n) = true ∧ w = 1) →
      Answers (.trainComplete n lanes) s fun t =>
        t.gxState n = gxNEGOTIATE ∧ t.get (GX_PSTAT_WIDTH n) = w ∧ (t.gxOf n).rounds = 0 ∧
        t.mem = s.mem ∧ ∃ m, (t.gxOf n).mine = some m ∧ m.round = 0 ∧ m.depTick = s.now ∧
          m.vmax.toNat = (s.gxOf n).vmax % 4 ∧ m.vmin.toNat = s.gxVmin n ∧
          m.init = s.gxInitiator n ∧ m.next = (s.gxOf n).got + 1) ∧
    (s.gxState n = gxTRAIN → s.bit (GX_PCFG_NARROW n) = false →
      exec (.trainComplete n 1) s = .next s) ∧
    (∀ (i : Instr) (st d : Nat), (i, st, d) ∈ [(.trainTimeout n, gxTRAIN, 10 * msTicks),
        (.roundTimeout n, gxNEGOTIATE, msTicks / 10), (.recoverTimeout n, gxRECOVER, msTicks)] →
      (s.gxState n = st → (s.gxOf n).since + d ≤ s.tb.up → Answers i s fun t =>
        t.gxState n = gxDETECT ∧ t.get (GX_PSTAT_WIDTH n) = 0 ∧ (t.gxOf n).rounds = 0 ∧
        (t.gxOf n).kept = (s.gxOf n).kept ∧ (t.gxOf n).since = s.tb.up ∧ t.mem = s.mem ∧
        ((t.gxOf n).canResume = true ↔
          (s.gxOf n).canResume = true ∧ s.tb.up ≤ (s.gxOf n).left + msTicks)) ∧
      (s.gxState n ≠ st → exec i s = .next s)) ∧
    (s.gxState n = gxDETECT → s.gxInitiator n = true → (s.gxOf n).since + 2 * msTicks ≤ s.tb.up →
      Answers (.trainingWindowEnd n) s fun t => t.regs = s.regs ∧ t.mem = s.mem ∧
        ((t.gxOf n).half = true ↔ (s.gxOf n).half = false ∧ s.gxVmin n = 1))

/-- R405, R407 to R410, R420: each round that arrives is answered; the eighth brings the port UP
at the version both ends offer, 1 at half rate, with source 640 + 4n, or to REFUSED below VMIN
with source 641 + 4n; a port that recovers keeps its version and resumes where both ends can. Each
conclusion here says that exec answers a next state: negotiationRound, recoverComplete. -/
def Obligations.PortNegotiation : Prop :=
  ∀ (s : State) (n : Fin 5) (r : Round), s.gx.length = 5 → n ≠ 0 ∨ s.isHead = true →
    (s.gxState n = gxNEGOTIATE → (s.gxOf n).rounds < 7 →
      Answers (.negotiationRound n r) s fun t =>
        t.gxState n = gxNEGOTIATE ∧ t.get (GX_PSTAT_PVMAX n) = r.vmax.toNat ∧
        (t.gxOf n).rounds = (s.gxOf n).rounds + 1 ∧ (t.gxOf n).partner = some r ∧
        t.mem = s.mem ∧ ∃ m, (t.gxOf n).mine = some m ∧ m.arrTick = r.hereTick ∧
          m.arrFine = r.hereFine ∧ m.round.toNat = (s.gxOf n).rounds + 1) ∧
    (∀ v, s.gxState n = gxNEGOTIATE → 7 ≤ (s.gxOf n).rounds →
      v = (if s.bit (GX_PSTAT_HALF n) then 1 else min (s.gxOf n).vmax (max 1 r.vmax.toNat)) →
      1 ≤ (s.gxOf n).vmax → (s.gxOf n).vmax ≤ 3 →
      (v < s.gxVmin n → Answers (.negotiationRound n r) s fun t =>
        t.gxState n = gxREFUSED ∧ t.get (GX_PSTAT_WIDTH n) = 0 ∧ Raised s t (641 + 4 * n) ∧
        t.mem = s.mem) ∧
      (s.gxVmin n ≤ v → Answers (.negotiationRound n r) s fun t =>
        t.gxState n = gxUP ∧ t.get (GX_PSTAT_VER n) = v ∧ t.get (PORT_STAT_VER n) = v ∧
        (t.gxOf n).ver = v ∧ Raised s t (640 + 4 * n) ∧ t.mem = s.mem ∧
        t.bit (GX_PSTAT_RESUMED n) =
          ((s.gxOf n).canResume && r.resume && (s.gxOf n).holds r.next))) ∧
    (s.gxState n = gxRECOVER → (s.gxOf n).ver ≤ 3 →
      Answers (.recoverComplete n r) s fun t =>
        t.gxState n = gxUP ∧ t.get (GX_PSTAT_VER n) = (s.gxOf n).ver ∧
        Raised s t (640 + 4 * n) ∧ t.mem = s.mem ∧
        ((s.gxOf n).canResume = true → r.resume = true → (s.gxOf n).holds r.next = true →
          t.bit (GX_PSTAT_RESUMED n) = true ∧ (t.gxOf n).fsn = (s.gxOf n).fsn ∧
          (t.gxOf n).replay = (s.gxOf n).kept.dropWhile (fun f => f.fsn != r.next)) ∧
        ((s.gxOf n).canResume = false ∨ r.resume = false →
          t.bit (GX_PSTAT_RESUMED n) = false ∧ (t.gxOf n).fsn = 0 ∧ (t.gxOf n).kept = [])) ∧
    (s.gxState n ≠ gxRECOVER → exec (.recoverComplete n r) s = .next s)

/-- R56, R395, R399, R402, R403, R412: frames are accepted in order, with the credit they return;
one that does not decode asks for a replay; a NAK has the kept frames sent again, and the eighth
without progress recovers the port; what goes out is the next frame of a replay, or a new one that
is kept; a port that has nothing to send for IDLE_T idles, but lane 0 of a fore-edge port, and
wakes. Each conclusion here says that exec answers a next state: frameReceived, nakReceived,
frameSend, idleEntry, idleExit, linkMarkerReceived. -/
def Obligations.PortFrames : Prop :=
  ∀ (s : State) (n : Fin 5), s.gx.length = 5 →
    (∀ f : Frame, s.gxLive n = true → f.headerOk = true → f.ok = true →
      (f.fsn = (s.gxOf n).got + 1 → (∀ k ∈ (s.gxOf n).kept, k.fsn ≠ f.ack) →
        Answers (.frameReceived n f) s fun t =>
          (t.gxOf n).got = f.fsn ∧ (t.gxOf n).wantNak = false ∧
          (t.gxOf n).kept = (s.gxOf n).kept ∧ t.mem = s.mem ∧
          t.get (GX_CRED_CR0 n) = saturate (GX_CRED_CR0 n).width
            (s.get (GX_CRED_CR0 n) + f.cred0.toNat) ∧
          t.get (GX_CRED_CR1 n) = saturate (GX_CRED_CR1 n).width
            (s.get (GX_CRED_CR1 n) + f.cred1.toNat)) ∧
      (f.fsn = (s.gxOf n).got → Answers (.frameReceived n f) s fun t =>
        t.gxOf n = { s.gxOf n with badHeaders := 0 } ∧ t.mem = s.mem)) ∧
    (∀ f : Frame, s.gxLive n = true → f.headerOk = true → f.ok = false →
      Answers (.frameReceived n f) s fun t =>
        (t.gxOf n).wantNak = true ∧ (t.gxOf n).got = (s.gxOf n).got ∧ t.mem = s.mem ∧
        t.get (GX_CWUNC_UNCORR n) = saturate (GX_CWUNC_UNCORR n).width
          (s.get (GX_CWUNC_UNCORR n) + 1)) ∧
    (∀ ack, s.gxLive n = true → (∀ k ∈ (s.gxOf n).kept, k.fsn ≠ ack) →
      ((s.gxOf n).naks < 7 → Answers (.nakReceived n ack) s fun t =>
        (t.gxOf n).replay = (s.gxOf n).kept ∧ (t.gxOf n).naks = (s.gxOf n).naks + 1 ∧
        t.regs = s.regs ∧ t.mem = s.mem) ∧
      (7 ≤ (s.gxOf n).naks → Answers (.nakReceived n ack) s fun t =>
        t.gxState n = gxRECOVER ∧ (t.gxOf n).replay = (s.gxOf n).kept ∧ t.mem = s.mem)) ∧
    (s.gxState n = gxUP → s.bit (GX_INJ_EN n) = false → (s.gxOf n).heldFrames = [] →
      (∀ f rest, (s.gxOf n).replay = f :: rest → Answers (.frameSend n) s fun t =>
        ∃ g : Frame, (t.gxOf n).sent = (s.gxOf n).sent ++ [g] ∧ g.fsn = f.fsn ∧
          g.recs = f.recs ∧ g.cmds = f.cmds ∧ g.marks = f.marks ∧ g.time = [] ∧
          g.ack = (s.gxOf n).got ∧ g.nak = (s.gxOf n).wantNak ∧
          (t.gxOf n).replay = rest ∧ (t.gxOf n).kept = (s.gxOf n).kept ∧ t.mem = s.mem) ∧
      ((s.gxOf n).replay = [] → (s.gxOf n).kept.length < 64 → Answers (.frameSend n) s fun t =>
        ∃ g : Frame, (t.gxOf n).sent = (s.gxOf n).sent ++ [g] ∧ g.fsn = (s.gxOf n).fsn ∧
          g.ack = (s.gxOf n).got ∧ g.marks = (s.gxOf n).txMarks.take 79 ∧
          (t.gxOf n).txMarks = (s.gxOf n).txMarks.drop 79 ∧
          (t.gxOf n).kept = (s.gxOf n).kept ++ [g] ∧ (t.gxOf n).fsn = (s.gxOf n).fsn + 1 ∧
          t.mem = s.mem) ∧
      ((s.gxOf n).replay = [] → 64 ≤ (s.gxOf n).kept.length →
        exec (.frameSend n) s = .next s)) ∧
    (s.gxState n = gxUP → s.bit (GX_PCFG_IDLE_EN n) = true → s.gxBusy n = false →
      (s.gxOf n).lastData + 16 * max 1 (s.get (GX_PCFG_IDLE_T n)) ≤ s.tb.up →
      Answers (.idleEntry n) s fun t =>
        t.gxState n = gxIDLE ∧ t.bit (GX_PSTAT_IDLE n) = true ∧ t.mem = s.mem ∧
        (s.tb.started = true → ∀ i, i < widthLanes (s.get (GX_PSTAT_WIDTH n)) → i < gxLanes n →
          t.txLane n i = if (n = 1 ∨ n = 2 ∨ n = 3) ∧ i = 0 then .fill else .electricalIdle)) ∧
    (s.gxState n = gxIDLE → Answers (.idleExit n) s fun t =>
      t.gxState n = gxUP ∧ t.bit (GX_PSTAT_IDLE n) = false ∧ t.gx = s.gx ∧ t.mem = s.mem ∧
      t.get (GX_LINK_EXITS n) = saturate (GX_LINK_EXITS n).width
        (s.get (GX_LINK_EXITS n) + 1)) ∧
    (∀ m crcOk replayed, s.gxLive n = false ∨ crcOk = false ∨ replayed = true →
      exec (.linkMarkerReceived n m crcOk replayed) s = .next s) ∧
    (∀ m, s.gxLive n = true → m.kind = 1 → s.standby = false → s.isMember m.members = true →
      s.armState = armIDLE → s.modeOn mLISTEN = true → s.readyOrActive = true →
      tickLt s.now m.tick = true →
      Answers (.linkMarkerReceived n m true false) s fun t =>
        t.armState = armPENDING ∧ t.armTick = m.tick ∧ t.bit TRG_STAT_MASTER = false ∧
        t.trg.acked = (m.origin, .onTime) :: s.trg.acked ∧ t.mem = s.mem)

/-- R45: while PROBE is on a write to CLAIM_FA, CLAIM_HIT, CLAIM_SHARE or CLAIM_BLANK returns
STATE_CONFLICT with DETAIL 22h and changes nothing. Each conclusion here says that exec answers a
next state: claimWrite, registerWrite. -/
def Obligations.ClaimWriteUnderProbe : Prop :=
  ∀ (s : State) (a : Addr) (v : W32), s.domOn dAON = true → s.modeOn mPROBE = true →
    a.toNat ∈ [CLAIM_FA.addr, CLAIM_HIT.addr, CLAIM_SHARE.addr, CLAIM_BLANK.addr] →
    s.writeReg a.toNat v = .error (stStateConflict, 0x22, .nothing) ∧
    exec (.claimWrite a v) s = .next s ∧ exec (.registerWrite a v) s = .next s

/-- R455: a raise of a reserved source changes nothing; its EV_SRC register reads 0 and ignores
writes. Each conclusion here says that exec answers a next state: sourceRaise. -/
def Obligations.ReservedSourcesAreInert : Prop :=
  ∀ (s : State) (n : Fin 704) (v : W32), sourceReserved n = true →
    s.raise n = s ∧ exec (.sourceRaise n) s = .next s ∧
    (s.domOn dCORE = true → s.writeReg (EV_SRC n).addr v = .ok s ∧
      ∀ clears, ∃ t, s.readReg (EV_SRC n).addr clears = .ok (0, t))

/-- R4, R5, R439, R462: a write to an address that is misaligned, outside the map or in a domain
that is off changes nothing, and neither does one to an address where no register stands; a
register without a rule of its own takes its RW fields, clears the W1C bits written 1, and no
other register changes. Each conclusion here says that exec answers a next state: registerWrite.
-/
def Obligations.RegisterWrites : Prop :=
  ∀ (s : State) (a : Addr) (v : W32),
    (a.toNat % 4 ≠ 0 ∨ blockOf a.toNat = none ∨ s.powered a.toNat = false →
      isAoData a.toNat = false → exec (.registerWrite a v) s = .next s) ∧
    (isPatchRam a.toNat = false → a.toNat < 0x800000 → regRow? a.toNat = none →
      isAoData a.toNat = false → exec (.registerWrite a v) s = .next s) ∧
    (s.powered a.toNat = true → a.toNat ∈ [PACE_CTRL.addr, PACE_LOW.addr, MODE_CFG.addr,
        FAULT_CAUSE.addr, CMD_CFG.addr, TEMP_WARN.addr, TR_CFG.addr, TRG_CFG.addr, SEW_CFG.addr,
        SEW_LIM.addr, LP_CFG.addr] →
      ∃ r, regRow? a.toNat = some r ∧
        exec (.registerWrite a v) s = .next (s.wr a.toNat (r.afterWrite v (s.rd a.toNat))) ∧
        ∀ f ∈ r.fields, ∀ old : W32,
          (f.type = .rw → (f.at a.toNat).read (r.afterWrite v old) = (f.at a.toNat).read v) ∧
          (f.type = .ro → (f.at a.toNat).read (r.afterWrite v old) = (f.at a.toNat).read old) ∧
          (f.type = .w1c → ∀ k, k < 32 → f.lo ≤ k → k ≤ f.hi →
            bitOf (r.afterWrite v old) k = (bitOf old k && !bitOf v k))) ∧
    (∀ n : Fin 704, a.toNat = (EV_SRC n).addr → sourceReserved n = false → s.domOn dCORE = true →
      Answers (.registerWrite a v) s fun t =>
        t.bit (EV_SRC_EN n) = bitOf v 31 ∧ t.mem = s.mem ∧ ∀ b, b ≠ a.toNat → t.rd b = s.rd b)

/-- R500, R501: the maintenance port writes and reads registers while it is a target, a refused
write setting MREF and a refused read returning 0; MFL_CMD.GO starts the flash bridge, whose end
clears BUSY and fills the buffer after a read. Each conclusion here says that exec answers a next
state: maintWrite, maintRead, mflGo, flashCommandDone. -/
def Obligations.MaintenanceAndFlash : Prop :=
  ∀ s : State,
    (∀ (a : Addr) v, s.maintOn = false →
      exec (.maintWrite a v) s = .next s ∧ exec (.maintRead a) s = .next s) ∧
    (∀ (a : Addr) v, s.maintOn = true →
      (∀ t, s.writeReg a.toNat v = .ok t → exec (.maintWrite a v) s = .next t) ∧
      (∀ st d, s.writeReg a.toNat v = .error (st, d, .nothing) →
        exec (.maintWrite a v) s = .next (s.putB BOOT_STAT_MREF true)) ∧
      (∀ w t, s.readReg a.toNat true = .ok (w, t) → exec (.maintRead a) s =
        .next { t with atq := { t.atq with maintData := w } }) ∧
      (∀ e, s.readReg a.toNat true = .error e → exec (.maintRead a) s =
        .next { s with atq := { s.atq with maintData := 0 } })) ∧
    (∀ v, s.domOn dAON = true →
      (s.bit MFL_CMD_BUSY = true → exec (.mflGo v) s = .next s) ∧
      (s.bit MFL_CMD_BUSY = false → s.bit STRAP_BOOTSRC = false → bitOf v 31 = true →
        exec (.mflGo v) s = .next s) ∧
      (s.bit MFL_CMD_BUSY = false → s.bit STRAP_BOOTSRC = true → bitOf v 31 = true →
        Answers (.mflGo v) s fun t => t.bit MFL_CMD_BUSY = true ∧
          t.get MFL_CMD_DIR = MFL_CMD_DIR.read v ∧ t.get MFL_CMD_NBYTES = MFL_CMD_NBYTES.read v ∧
          t.atq.flashRead = t.bit MFL_CMD_DIR ∧ t.mem = s.mem ∧
          ∀ a, a ≠ MFL_CMD.addr → t.rd a = s.rd a)) ∧
    (∀ data,
      (s.bit MFL_CMD_BUSY = false → exec (.flashCommandDone data) s = .next s) ∧
      (s.bit MFL_CMD_BUSY = true → Answers (.flashCommandDone data) s fun t =>
        t.bit MFL_CMD_BUSY = false ∧ t.mem = s.mem ∧
        (s.atq.flashRead = false → t.ev = s.ev ∧ ∀ a, a ≠ MFL_CMD.addr → t.rd a = s.rd a) ∧
        (s.atq.flashRead = true → ∀ i b, i < min 256 (s.get MFL_CMD_NBYTES) →
          data[i]? = some b → (t.rd (0x400 + i / 4 * 4)).extractLsb' (i % 4 * 8) 8 = b)))

/-- R117, R120, R129, R176, R248, R249, R261, R265, R275: what the writes of the measuring blocks
start: a strobed reset, the front end's settings or their refusal while a mode holds the channel,
a calibration of the pins, a port's settings, the clearing of its fault, urgent conversions, the
shadow that comes into use, interleaving. Each conclusion here says that exec answers a next
state: strb, faFrontEndWrite, claimWrite, patCalStart, portSettingsWrite, psFaultClear, pcUrg,
pcLcommit, pcIlvWrite. -/
def Obligations.MeasuringBlockWrites : Prop :=
  ∀ s : State, Sized s →
    (∀ (c : BitVec 5) v, s.domOn (faDomain c.toNat) = true → bitOf v 27 = true →
      s.resets c.toNat = true → s.inReset c.toNat = false →
      Answers (.strb c v) s fun t =>
        (t.faOf c.toNat).due = some (match (s.faOf c.toNat).due with
          | some (near, u) => (near, min u (s.tb.up + 1 : Nat))
          | none => (false, (s.tb.up + 1 : Nat))) ∧ t.mem = s.mem ∧
        t.get (FA_RST_POLICY c.toNat) = (FA_RST_POLICY c.toNat).read v ∧
        ∀ a, a ≠ (FA_RST c.toNat).addr → t.rd a = s.rd a) ∧
    (∀ (c : BitVec 5) (a : Addr) v, s.domOn (faDomain c.toNat) = true →
      a.toNat = (FA_CFG c.toNat).addr →
      (∀ n f, s.faHeldBy c.toNat = some n → f ∈ [FA_CFG_FE c.toNat, FA_CFG_CF c.toNat,
          FA_CFG_VRANGE c.toNat, FA_CFG_ZIN c.toNat, FA_CFG_BW c.toNat] → f.read v ≠ s.get f →
        s.writeReg a.toNat v = .error (stStateConflict, 0x20 + n, .nothing) ∧
        exec (.faFrontEndWrite a v) s = .next s) ∧
      (s.faHeldBy c.toNat = none → Answers (.faFrontEndWrite a v) s fun t =>
        (∀ f ∈ [FA_CFG_EN c.toNat, FA_CFG_FE c.toNat, FA_CFG_CF c.toNat, FA_CFG_VRANGE c.toNat,
          FA_CFG_ZIN c.toNat, FA_CFG_BW c.toNat], t.get f = f.read v) ∧ t.mem = s.mem)) ∧
    (∀ (a : Addr) v, s.domOn dAON = true → s.modeOn mPROBE = false → a.toNat = CLAIM_HIT.addr →
      Answers (.claimWrite a v) s fun t => t.get CLAIM_HIT_CH = v.toNat ∧ t.mem = s.mem) ∧
    (∀ v, s.domOn dPAT = true → s.pat.start = none → s.calLacks = none →
      s.patState = paIDLE ∨ s.patState = paOFF →
      (bitOf v 31 = false → exec (.patCalStart v) s = .next s) ∧
      (bitOf v 31 = true → s.standby = true → exec (.patCalStart v) s = .next s) ∧
      (bitOf v 31 = true → s.standby = false → Answers (.patCalStart v) s fun t =>
        t.patState = paCAL ∧ t.bit PAT_CAL_BUSY = true ∧
        t.pins.pvDrive = s.pins.pvDrive ||| s.rd PAT_CAL_PINS.addr ∧ t.mem = s.mem)) ∧
    (∀ (p : BitVec 4) (a : Addr) v, s.domOn (dSP (p.toNat / 8)) = true →
      a.toNat = (PS_CFG p.toNat).addr → s.changes (PS_CFG p.toNat) v = true →
      (s.isSlave p.toNat = false → Answers (.portSettingsWrite a v) s fun t =>
        (t.spOf p.toNat).settle = true ∧ t.rd a.toNat = s.wouldBe a.toNat v ∧ t.mem = s.mem) ∧
      (s.isSlave p.toNat = true → s.portState p.toNat = psSLAVE →
        exec (.portSettingsWrite a v) s = .next (s.plainWrite a.toNat v))) ∧
    (∀ (p : BitVec 4) v, s.domOn (dSP (p.toNat / 8)) = true →
      (bitOf v 31 = false ∨ s.bit (PS_STAT_FAULT p.toNat) = false →
        exec (.psFaultClear p v) s = .next s) ∧
      (bitOf v 31 = true → s.bit (PS_STAT_FAULT p.toNat) = true →
        s.portState p.toNat = psFAULT → s.bit (PS_FLT_AUTOCLR p.toNat) = false →
        Answers (.psFaultClear p v) s fun t =>
          t.bit (PS_STAT_FAULT p.toNat) = false ∧ t.portState p.toNat = psWAIT ∧
          (t.spOf p.toNat).settle = true ∧ Raised s t (321 + 4 * p.toNat) ∧ t.mem = s.mem)) ∧
    (∀ (p : BitVec 4) v, s.domOn dPCV = true → setBits (v.extractLsb' 0 16) = [p.toNat] →
      s.servable p.toNat = true → s.coreState (p.toNat / 2) = cIDLE →
      s.helperAhead (p.toNat / 2) = false →
      (∀ x ∈ (s.pcOf (p.toNat / 2)).urgents, x.port ≠ p) →
      Answers (.pcUrg v) s fun t => (t.pcOf (p.toNat / 2)).urgents =
        (s.pcOf (p.toNat / 2)).urgents ++ [{ port := p, since := s.now, cmd := true }] ∧
        t.regs = s.regs ∧ t.mem = s.mem) ∧
    (∀ v, s.domOn dPCV = true → Answers (.pcLcommit v) s fun t =>
      t.regs = s.regs ∧ t.mem = s.mem ∧ ∀ p, p < 16 →
        (bitOf v p = false → t.spOf p = s.spOf p) ∧
        (bitOf v p = true → ∀ a ∈ shadowAddrs p,
          sparseGet (t.spOf p).use a (resetWord a) = s.rd a)) ∧
    (∀ (k : BitVec 3) v, s.domOn dPCV = true →
      let q := k.toNat ^^^ 1
      (bitOf v 31 = false → s.bit (PC_ILV_ACTIVE k.toNat) = true →
        Answers (.pcIlvWrite k v) s fun t => t.bit (PC_ILV_ACTIVE k.toNat) = false ∧
          t.bit (PC_ILV_EN k.toNat) = false ∧ t.mem = s.mem) ∧
      (bitOf v 31 = true → s.bit (PC_ILV_EN k.toNat) = false →
        s.bit (PC_ILV_ACTIVE k.toNat) = false →
        (∀ r m, r = 2 * q ∨ r = 2 * q + 1 → m < 16 → s.has CE_STAT_RUNNING m = true →
          s.loopTakes m 1 r = false) →
        s.tempPort (2 * q) = false → s.tempPort (2 * q + 1) = false →
        let u := s.plainWrite (PC_ILV k.toNat).addr v
        (u.ilvRefused k.toNat = true → Answers (.pcIlvWrite k v) s fun t =>
          t.bit (PC_ILV_EN k.toNat) = false ∧ t.bit (PC_ILV_ILVERR k.toNat) = true ∧
          Raised s t (392 + k.toNat) ∧ t.mem = s.mem) ∧
        (u.ilvRefused k.toNat = false → Answers (.pcIlvWrite k v) s fun t => t.bit (PC_ILV_EN k.toNat) = true ∧
          t.bit (PC_ILV_ACTIVE k.toNat) = true ∧ t.mem = s.mem)))

/-- R75, R321, R322, R325, R327, R336, R344, R381, R404, R405, R447: what the writes of the
outputs, the lighting, the links and the time base start, and what refuses them. Each conclusion
here says that exec answers a next state: aoCfgWrite, aoDataWrite, lsFaultClear, bstRestart,
lpRetest, tsyncArm, spineRefWrite, gxRetrain, patchEnable. -/
def Obligations.OutputAndLinkWrites : Prop :=
  ∀ s : State, Sized s →
    (∀ (n : BitVec 5) v, s.domOn (aoDomain n.toNat) = true →
      let r := (AO_CFG_RANGE n.toNat).read v
      let same := r = s.get (AO_CFG_RANGE n.toNat)
      (s.pins.aoBusy.getLsbD n.toNat = true ∨ 5 ≤ r → exec (.aoCfgWrite n v) s = .next s) ∧
      (s.pins.aoBusy.getLsbD n.toNat = false → r < 5 →
        (same ∨ s.modeOn mREGULATE = false ∨ s.aoBound n.toNat = false) →
        (highRange r = true → s.bit AO_GSTAT_HIRNG = true) →
        Answers (.aoCfgWrite n v) s fun t =>
          t.get (AO_CFG_RANGE n.toNat) = r ∧ t.bit (AO_CFG_EN n.toNat) = bitOf v 31 ∧
          (¬ same → t.pins.aoBusy.getLsbD n.toNat = true) ∧
          (same → t.pins.aoBusy = s.pins.aoBusy) ∧ t.mem = s.mem)) ∧
    (∀ (n : BitVec 5) v,
      (s.standby = true ∨ s.readyOrActive = false ∨ s.domOn (aoDomain n.toNat) = false ∨
        s.aoBound n.toNat = true ∨
        s.pins.aoBusy.getLsbD n.toNat = true → exec (.aoDataWrite n v) s = .next s) ∧
      (s.standby = false → s.readyOrActive = true → s.domOn (aoDomain n.toNat) = true →
        s.aoBound n.toNat = false →
        s.pins.aoBusy.getLsbD n.toNat = false →
        Answers (.aoDataWrite n v) s fun t =>
          (t.rd (AO_DATA n.toNat).addr).extractLsb' 0 16 = v.extractLsb' 0 16 ∧ t.mem = s.mem ∧
          t.cus.released.getLsbD n.toNat = false ∧
          ∀ a, a ≠ (AO_DATA n.toNat).addr → t.rd a = s.rd a)) ∧
    (∀ (n : BitVec 3) v, s.domOn dLIGHT = true →
      Answers (.lsFaultClear n v) s fun t =>
        t.bit (LS_STAT_OPEN n.toNat) = (s.bit (LS_STAT_OPEN n.toNat) && !bitOf v 31) ∧
        t.bit (LS_STAT_SGND n.toNat) = (s.bit (LS_STAT_SGND n.toNat) && !bitOf v 30) ∧
        t.bit (LS_STAT_NBR n.toNat) = (s.bit (LS_STAT_NBR n.toNat) && !bitOf v 29) ∧
        (t.faultFree n.toNat = true → t.bit (LS_STAT_OFFD n.toNat) = false) ∧
        (t.faultFree n.toNat = false →
          t.bit (LS_STAT_OFFD n.toNat) = s.bit (LS_STAT_OFFD n.toNat)) ∧ t.mem = s.mem) ∧
    (∀ v, s.domOn dLIGHT = true → Answers (.bstRestart v) s fun t => t.mem = s.mem ∧
      (bitOf v 2 = true → s.boostState = bsLATCHED →
        t.boostState = bsSOFTSTART ∧ t.get BST_STAT_VTGT = t.get BST_STAT_VOUT ∧
        t.light.ramp = (s.tb.up, t.get BST_STAT_VOUT)) ∧
      (bitOf v 2 = false ∨ s.boostState ≠ bsLATCHED → t.boostState = s.boostState)) ∧
    (∀ v, s.domOn dLOAM = true →
      (bitOf v 31 = true → exec (.lpRetest v) s = .next (s.putB LP_QUAR_BUSY true)) ∧
      (bitOf v 31 = false → exec (.lpRetest v) s = .next s)) ∧
    (∀ v, s.domOn dPLL = true → Answers (.tsyncArm v) s fun t =>
      t.get TSYNC_CFG_MODE = TSYNC_CFG_MODE.read v ∧ t.get TSYNC_CFG_EDGE = TSYNC_CFG_EDGE.read v ∧
      t.tb.tsArmed = (s.tb.tsArmed || bitOf v 3) ∧ t.mem = s.mem ∧
      ∀ a, a ≠ TSYNC_CFG.addr → t.rd a = s.rd a) ∧
    (∀ v, s.domOn dPLL = true → Answers (.spineRefWrite v) s fun t =>
      t.get TB_CFG_SPINE_REF = TB_CFG_SPINE_REF.read v ∧ t.mem = s.mem ∧
      (s.isHead = true → (TB_CFG_SPINE_REF.read v != 0) ≠ s.bit TB_CFG_SPINE_REF →
        s.gxState 0 ≠ gxDISABLED → t.gxState 0 = gxDETECT) ∧
      ((TB_CFG_SPINE_REF.read v != 0) = s.bit TB_CFG_SPINE_REF → t.gxState 0 = s.gxState 0)) ∧
    (∀ (n : Fin 5) v, s.domOn (gxDomain n) = true →
      (bitOf v 31 = true → bitOf v 30 = true → s.gxState n ≠ gxDISABLED →
        s.gxState n ≠ gxREFUSED → Answers (.gxRetrain n v) s fun t =>
          t.gxState n = gxDETECT ∧ t.get (GX_PSTAT_WIDTH n) = 0 ∧ (t.gxOf n).rounds = 0 ∧
          t.mem = s.mem) ∧
      (bitOf v 31 = false → Answers (.gxRetrain n v) s fun t =>
        t.gxState n = gxDISABLED ∧ t.mem = s.mem)) ∧
    (∀ v, s.domOn dAON = true → s.bit PATCH_CTL_EN = false → bitOf v 31 = true →
      let n := PATCH_CTL_LEN.read v
      let ok := n ≠ 0 ∧ n ≤ 4096 ∧ crc32 (s.patchWords n) = s.rd PATCH_CRC.addr ∧
        (s.memWord 0x8000).toNat / 2 ^ 16 = s.get FW_VER_ROM
      (ok → Answers (.patchEnable v) s fun t => t.bit PATCH_CTL_EN = true ∧
        t.get PATCH_CTL_LEN = n ∧ t.get FW_VER_PATCH = (s.memWord 0x8000).toNat % 2 ^ 16 ∧
        t.mem = s.mem) ∧
      (¬ ok → Gives (.patchEnable v) s (s.putB PATCH_CTL_ERR true) [6]))

/-- R25, R428, R430, R435, R436, R440, R514: a command for this unit is run at once, or waits
behind an ORDER command; the state, the standby role, an open TAG, the pending limit, a running
ENUMERATE and LEN are checked in this order, and the first check that fails is answered without
any effect but its count in CMD_CNT. A command for a unit behind a live port is sent on, one for
any other is answered ABSENT. Each conclusion here says that exec answers a next state, for every
command row. -/
def Obligations.CommandChecks : Prop :=
  ∀ (s : State) (op : Nat) (c : Cmd) (i : Instr), ofOpcode op c = some i → c.cver = 4 →
    c.group = false →
    let refused (st d : Nat) : Prop :=
      exec i s = .next ((counted s).reply c.tag c.noReply st d).releaseAll
    let passes : Prop := s.readyOrActive = true ∧
      (s.standby = false ∨ op ∉ [0x40, 0x41, 0x42, 0x60, 0x61, 0x62, 0x71, 0x72, 0x73])
    (s.listens = false → exec i s = .next s) ∧
    (s.listens = true → c.unit.toNat ≠ s.unitId →
      (s.portOf c.unit.toNat = none →
        exec i s = .next (s.reply c.tag c.noReply stAbsent 0)) ∧
      (∀ k, s.portOf c.unit.toNat = some k →
        (s.gxLive (k + 1) = false → exec i s = .next (s.reply c.tag c.noReply stAbsent 1)) ∧
        (s.gxLive (k + 1) = true → s.gx.length = 5 → Answers i s fun t =>
          (t.gxOf (k + 1)).txCmds =
            (s.gxOf (k + 1)).txCmds ++ packetsOf (c0Of op c) c.p ∧
          t.atq = s.atq ∧ t.regs = s.regs ∧ t.mem = s.mem))) ∧
    (s.listens = true → c.unit.toNat = s.unitId → s.atq.waiting ≠ [] ∨ (c.order = true ∧ s.anyOpen = true) →
      exec i s = .next { s with
        atq := { s.atq with waiting := s.atq.waiting ++ [{ c0 := c0Of op c, p := c.p }] } }) ∧
    (s.listens = true → c.unit.toNat = s.unitId → s.atq.waiting = [] →
      (c.order = true → s.anyOpen = false) →
      (s.unitState = usBoot → op ∉ [1, 2, 3, 4, 0x2F] → refused stStateConflict 1) ∧
      (s.unitState = usFault → op ∉ [1, 2, 3, 4, 0x2F, 0x10, 0x11, 0x12, 0x13, 0x14, 0x21, 0x32,
        0x33, 0x80, 0xFF] → refused stStateConflict 4) ∧
      (s.readyOrActive = true → s.standby = true →
        op ∈ [0x40, 0x41, 0x42, 0x60, 0x61, 0x62, 0x71, 0x72, 0x73] → refused stRefused 0) ∧
      (passes → s.tagOpen c.tag = true → refused stBadParam 3) ∧
      (passes → s.tagOpen c.tag = false → 16 ≤ s.pendCount → refused stBusy 1) ∧
      (passes → s.tagOpen c.tag = false → s.pendCount < 16 → s.enumerating = true →
        refused stBusy 2) ∧
      (passes → s.tagOpen c.tag = false → s.pendCount < 16 → s.enumerating = false →
        lenOk op c.p.length = false → refused stBadParam 6))

/-- R437: IDENT, NEGOTIATE, PING and MODE_QUERY are answered at once with the words the rule lays
out, and change nothing but CMD_CNT. Each conclusion here says that exec answers a next state:
ident, negotiate, ping, modeQuery. -/
def Obligations.IdentityCommands : Prop :=
  ∀ (s : State) (c : Cmd),
    (Heard s 0x01 c → ∃ w : W64,
      AnswersOk (.ident c) c s (counted s) [s.rd IDENT.addr ++ s.rd FW_VER.addr, w] ∧
      bits w 63 62 = s.get STRAP_ROLE ∧ bits w 61 61 = s.get STRAP_HEAD ∧
      bits w 60 60 = s.get STRAP_BOOTSRC ∧ bits w 58 56 = s.unitState ∧
      bits w 53 48 = s.get MODE_STATUS_MASK ∧ bits w 47 40 = s.get ENUM_STAT_GEN) ∧
    (∀ p, Heard s 0x02 c → c.p = [p] →
      (3 ≤ bits p 63 60 → bits p 59 56 ≤ 4 → ∃ w : W64,
        AnswersOk (.negotiate c) c s (counted s) [w] ∧ bits w 63 60 = 4 ∧ bits w 59 56 = 3 ∧
        bits w 55 52 = 3 ∧ bits w 49 48 = s.get (GX_PSTAT_VER 0) ∧
        bits w 31 0 = (s.rd FW_VER.addr).toNat) ∧
      (bits p 63 60 < 3 ∨ 4 < bits p 59 56 → exec (.negotiate c) s =
        .next ((counted s).reply c.tag c.noReply stVersion 0x43).releaseAll)) ∧
    (Heard s 0x04 c → AnswersOk (.ping c) c s (counted s) [c.p.headD 0]) ∧
    (Heard s 0x21 c → AnswersOk (.modeQuery c) c s (counted s)
      [s.rd MODE_STATUS.addr ++ s.rd FAULT_CAUSE.addr])

/-- R438, R439: what the register commands read, write and answer; the write of REG_MODIFY; and
that a command with an access that fails applies none and answers the access's status and index.
Each conclusion here says that exec answers a next state: regRead, regWrite, regModify, readBlock,
writeBlock. -/
def Obligations.RegisterCommands : Prop :=
  ∀ (s : State) (c : Cmd),
    (∀ p w v, Heard s 0x10 c → c.p = [p] →
      (counted s).readReg (bits p 23 0) true = .ok (w, v) →
      AnswersOk (.regRead c) c s v [BitVec.ofNat 64 (bits p 23 0 * 2 ^ 32 + w.toNat)]) ∧
    (∀ p v, Heard s 0x11 c → c.p = [p] →
      (counted s).writeReg (bits p 55 32) (p.setWidth 32) = .ok v →
      AnswersOk (.regWrite c) c s v []) ∧
    (∀ l p r ws v st d m, Heard s 0x11 c → c.p = l ++ p :: r → c.p.length ≤ 64 →
      (counted s).accesses 0 (l.map fun w => .write (bits w 55 32) (w.setWidth 32)) = .ok (ws, v) →
      v.writeReg (bits p 55 32) (p.setWidth 32) = .error (st, d, m) →
      exec (.regWrite c) s = .next (((counted s).leaveMark m).reply c.tag c.noReply st d
        [BitVec.ofNat 64 l.length]).releaseAll) ∧
    (∀ a p old u new v, Heard s 0x12 c → c.p = [a, p] →
      (counted s).readReg (bits a 23 0) false = .ok (old, u) →
      (∀ r, regRow? (bits a 23 0) = some r → r.w1cMask = 0) →
      new = (old &&& ~~~p.extractLsb' 32 32) ||| (p.setWidth 32 &&& p.extractLsb' 32 32) →
      u.writeReg (bits a 23 0) new = .ok v →
      AnswersOk (.regModify c) c s v [old ++ new]) ∧
    (∀ p w0 w1 u v, Heard s 0x13 c → c.p = [p] → bits p 47 32 = 2 →
      blockOf (bits p 23 0 + 4) = blockOf (bits p 23 0) →
      (counted s).readReg (bits p 23 0) true = .ok (w0, u) →
      u.readReg (bits p 23 0 + 4) true = .ok (w1, v) →
      AnswersOk (.readBlock c) c s v [w1 ++ w0]) ∧
    (∀ p w v, Heard s 0x14 c → c.p = [p, w] → bits p 47 32 = 1 →
      (counted s).writeReg (bits p 23 0) (w.setWidth 32) = .ok v →
      AnswersOk (.writeBlock c) c s v [])

/-- R377, R382 to R385: Q_READ takes the oldest items out of a queue or stalls, Q_WRITE appends an
item or is refused by R373, Q_CONFIG sets the queue's settings, Q_FLUSH empties the queue. Each
conclusion here says that exec answers a next state: qRead, qWrite, qConfig, qFlush. -/
def Obligations.QueueCommands : Prop :=
  ∀ (s : State) (c : Cmd), s.loam.quar ≤ s.get LP_CFG_QLIM →
    let q := bits (c.p.headD 0) 63 56
    let plain : Prop := q ≠ 0xFF ∧ (s.queue q).stall = none ∧
      ∀ it ∈ (s.queue q).items, it.bad = []
    (Heard s 0x30 c → plain → s.bit (Q_CFG_EN q) = true → s.get (Q_CFG_CONS q) = 1 →
      ((s.queue q).items = [] → bitOf (c.p.headD 0) 48 = false →
        Leaves (.qRead c) s fun u => Pends s u 0x30 c (.qRead (BitVec.ofNat 8 q)) ∧
          u.bit (Q_FLAG_STALLED q) = true ∧ OnlyRegs s u [(Q_FLAG q).addr] ∧ u.mem = s.mem) ∧
      ((s.queue q).items ≠ [] ∨ bitOf (c.p.headD 0) 48 = true →
        let k := min (max 1 (bits (c.p.headD 0) 47 32)) (s.queue q).items.length
        ∃ v : State, exec (.qRead c) s = .next (v.reply c.tag c.noReply stOk 0
            (((s.queue q).items.take k).map itemReply).flatten k (v.level q)).releaseAll ∧
          (v.queue q).items = (s.queue q).items.drop k ∧ v.mem = s.mem)) ∧
    (Heard s 0x31 c → 2 ≤ c.p.length → c.p.length ≤ 1026 → plain →
      s.bit (Q_CFG_EN q) = true → s.bit (Q_CFG_HOSTW q) = true →
      (s.get (Q_CFG_CONS q) = 0 → bits (c.p.getD 1 0) 41 32 + 2 = c.p.length - 1) →
      (s.get (Q_CFG_CONS q) = 2 → (c.p.length - 1) % 8 = 0) → s.domOn dLOAM = true →
      (s.admission q (grainsOf (c.p.length - 1)) = none → s.loam.trialEcc = none →
        s.get (Q_LIM_WM q) = 0 → ∃ v, AnswersOk (.qWrite c) c s v [] ∧
        (v.queue q).items = (s.queue q).items ++
          [{ words := c.p.tail, gen := s.tb.gen, host := true }] ∧ v.mem = s.mem) ∧
      (∀ src, s.admission q (grainsOf (c.p.length - 1)) = some src →
        exec (.qWrite c) s = .next
          (((((counted s).putB (Q_FLAG_REFUSED q) true).bump (Q_CNT_REFCNT q)).raise src).reply
            c.tag c.noReply stLimit (if src = 610 then 2 else 1)).releaseAll)) ∧
    (∀ p0 p1 p2, Heard s 0x32 c → c.p = [p0, p1, p2] →
      s.queueCheck q (bitOf p0 31) (bits p0 29 28) (bits p1 63 48) (bits p1 31 16) = none →
      ∃ v, AnswersOk (.qConfig c) c s v [] ∧ v.bit (Q_CFG_EN q) = bitOf p0 31 ∧
        v.bit (Q_CFG_HOSTW q) = bitOf p0 30 ∧ v.get (Q_CFG_CONS q) = bits p0 29 28 ∧
        v.get (Q_LIM_DEPTH q) = bits p1 63 48 ∧ v.get (Q_LIM_WM q) = bits p1 47 32 ∧
        v.get (Q_RSV_RSV q) = bits p1 31 16 ∧ v.get (Q_STALL_LIMIT q) = bits p2 23 0 ∧
        v.loam = s.loam ∧ v.mem = s.mem ∧
        OnlyRegs s v [(Q_CFG q).addr, (Q_LIM q).addr, (Q_RSV q).addr, (Q_STALL q).addr]) ∧
    (Heard s 0x33 c → plain → s.streaming q = false →
      ∃ v, AnswersOk (.qFlush c) c s v [] ∧ (v.queue q).items = [] ∧ v.mem = s.mem)

/-- R162 to R164: an accepted ARM takes the settings of the set, sends the marker and is pending;
an accepted FIRE and DISARM are pending until their decision and their tick. Each conclusion here
says that exec answers a next state: arm, fire, disarm. -/
def Obligations.TriggerCommands : Prop :=
  ∀ (s : State) (c : Cmd), Sized s →
    (∀ p0 p1 p2 t, Heard s 0x40 c → c.p = [p0, p1, p2] → s.modeOn mLISTEN = true →
      s.armState = armIDLE → s.isMember p1 = true → t = BitVec.ofNat 48 (bits p0 47 0) →
      tickLt s.now t = true → (t - s.now).toNat ≤ 2 ^ 31 →
      (s.isHead = true → s.rootBad (bits p0 63 58) = false) →
      Leaves (.arm c) s fun u =>
        Pends s u 0x40 c .arm ∧ u.armState = armPENDING ∧ u.armTick = t ∧
        u.get TRG_STAT_ROOT = bits p0 63 58 ∧ u.bit TRG_STAT_MASTER = true ∧
        u.bit TRG_STAT_ONCE = bitOf p0 57 ∧ u.get TRG_SET_HOLD = bits p2 31 16 ∧
        u.get TRG_SET_SETTLE = bits p2 13 0 ∧
        u.get TRG_MEM_LO_MEM_L + u.get TRG_MEM_HI_MEM_H * 2 ^ 32 = p1.toNat ∧
        u.trg.arms = s.trg.arms ++ [{ tag := c.tag, set := u.trg.setNo
                                      root := BitVec.ofNat 6 (bits p0 63 58), tick := t
                                      members := p1
                                      acks := [(BitVec.ofNat 6 s.unitId, ArmAck.onTime)] }] ∧
        u.mem = s.mem ∧
        ∀ n ∈ [1, 2, 3], s.gxLive n = true →
          ∃ m, (u.gxOf n).txMarks = (s.gxOf n).txMarks ++ [m] ∧ m.kind = 1 ∧ m.tick = t ∧
            m.members = p1 ∧ m.root.toNat = bits p0 63 58) ∧
    (∀ p t, Heard s 0x41 c → c.p = [p] → s.modeOn mLISTEN = true → s.armState = armARMED →
      s.bit (TC_CFG_EN (bits p 52 48)) = true → s.get (TC_CFG_TYPE (bits p 52 48)) = 7 →
      t = (if bitOf p 63 then BitVec.ofNat 48 (bits p 47 0) else s.now) →
      (tickLt t s.now = true → (s.now - t).toNat ≤ 65536) →
      (tickLt s.now t = true → (t - s.now).toNat ≤ 2 ^ 31) → s.trg.armWide ≤ s.wide t →
      Leaves (.fire c) s fun u =>
        Pends s u 0x41 c (.fire (BitVec.ofNat 5 (bits p 52 48)) t) ∧ OnlyRegs s u [] ∧
        u.trg = s.trg ∧ u.mem = s.mem ∧ u.gx = s.gx) ∧
    (∀ p t, Heard s 0x42 c → c.p = [p] → s.armState ≠ armIDLE → bitOf p 63 = true →
      t = BitVec.ofNat 48 (bits p 47 0) → tickLt s.now t = true →
      Leaves (.disarm c) s fun u =>
        Pends s u 0x42 c (.disarm t) ∧ u.trg.disarms = s.trg.disarms ++ [(t, s.trg.setNo)] ∧ u.armState = s.armState ∧
        u.mem = s.mem ∧ ∀ n ∈ [1, 2, 3], s.gxLive n = true →
          ∃ m, (u.gxOf n).txMarks = (s.gxOf n).txMarks ++ [m] ∧ m.kind = 3 ∧ m.tick = t)

/-- R73, R106, R107, R270, R271, R305 to R309: an accepted GRADE, CAL_ZERO, CAL_FULL, LINK_ALIGN,
COEFF_WRITE, LOOP_FREEZE and LOOP_RELEASE starts its job on what it names and is pending. Each
conclusion here says that exec answers a next state: grade, calZero, calFull, linkAlign,
coeffWrite, loopFreeze, loopRelease. -/
def Obligations.MeasureAndLoopCommands : Prop :=
  ∀ (s : State) (c : Cmd), Sized s →
    let p0 := c.p.headD 0
    (Heard s 0x50 c → p0 ≠ 0 →
      (∀ k, k < 64 → bitOf p0 k = true → s.bit (CH_CFG_EN k) = true ∧
        s.domOn (tkDomain k) = true) →
      Leaves (.grade c) s fun u =>
        Pends s u 0x50 c (.grade p0 0 false s.tb.up) ∧ u.mem = s.mem ∧ ∀ k, k < 64 →
          (bitOf p0 k = false → u.tkOf k = s.tkOf k) ∧
          (bitOf p0 k = true → bitOf (c.p.getD 1 0) 0 = true → (u.tkOf k).fast = true) ∧
          (bitOf p0 k = true → bitOf (c.p.getD 1 0) 1 = true →
            (u.tkOf k).hist = [] ∧ u.get (GRADE_STAT_FILL k) = 0)) ∧
    (∀ st p, p = bits p0 19 16 → st = s.portState p → st = psWAIT ∨ st = psSETTLE ∨ st = psCONVERT →
      bits p0 15 0 ≠ 0 → (s.spOf p).cal = none →
      (Heard s 0x51 c → c.p.length = 1 → Leaves (.calZero c) s fun u =>
        Pends s u 0x51 c (.cal (BitVec.ofNat 4 p)) ∧ OnlyRegs s u [] ∧ u.mem = s.mem ∧
        (u.spOf p).cal = some { full := false, tag := c.tag, n := bits p0 15 0, fs := 0,
                                since := s.tb.up }) ∧
      (∀ p1, Heard s 0x52 c → c.p = [p0, p1] → bits p1 23 0 ≠ 0 → bits p1 23 0 ≠ 0x800000 →
        Leaves (.calFull c) s fun u =>
          Pends s u 0x52 c (.cal (BitVec.ofNat 4 p)) ∧ OnlyRegs s u [] ∧ u.mem = s.mem ∧
          (u.spOf p).cal = some { full := true, tag := c.tag, n := bits p0 15 0
                                  fs := asSigned 24 (bits p1 23 0)
                                  since := s.tb.up })) ∧
    (Heard s 0x53 c → s.isHead = false → s.alignState ≠ alUNALIGNED →
      s.alignState ≠ alHOLDOVER → s.tb.align = none → (s.gxOf 0).ver = 3 →
      Leaves (.linkAlign c) s fun u =>
        Pends s u 0x53 c .align ∧ u.tb = { s.tb with align := some { tag := c.tag } } ∧
        OnlyRegs s u [] ∧ u.gx = s.gx ∧ u.mem = s.mem) ∧
    (Heard s 0x60 c → s.domOn dCTRL = true → c.p ≠ [] → c.p.length ≤ 64 →
      (∀ w ∈ c.p, bits w 55 48 ≤ 75) →
      Leaves (.coeffWrite c) s fun u =>
        (∃ ls left, Pends s u 0x60 c (.coeff ls left [] false)) ∧ OnlyRegs s u [] ∧
        u.mem = s.mem ∧ ∀ m, m < 16 → (u.ceOf m).writes = (s.ceOf m).writes ++
          (c.p.filter fun w => bits w 63 60 == m).map fun w =>
            { slot := BitVec.ofNat 7 (bits w 55 48), shift := BitVec.ofNat 5 (bits w 36 32)
              value := w.setWidth 32, tag := c.tag, landed := s.now }) ∧
    (∀ m, Heard s 0x61 c → s.domOn dCTRL = true →
      (∀ k, k < 16 → bitOf p0 k = true → s.loopState k = loRUN ∨ s.loopState k = loFROZEN) →
      m < 16 → bitOf p0 m = true → s.loopState m = loRUN →
      Leaves (.loopFreeze c) s fun u =>
        Pends s u 0x61 c (.freeze (p0.setWidth 16) s.now) ∧ (u.ceOf m).freeze = true ∧
        OnlyRegs s u [] ∧ u.mem = s.mem) ∧
    (∀ m, Heard s 0x62 c → s.domOn dCTRL = true → bits p0 17 16 ≠ 3 →
      (∀ k, k < 16 → bitOf p0 k = true → s.loopState k = loFROZEN) →
      m < 16 → bitOf p0 m = true →
      Leaves (.loopRelease c) s fun u =>
        Pends s u 0x62 c (.release (p0.setWidth 16)) ∧ OnlyRegs s u [] ∧ u.mem = s.mem ∧
        (u.ceOf m).release = some (BitVec.ofNat 2 (bits p0 17 16)))

/-- R194 to R196, R347: VEC_LOAD stores its vectors and nothing else; SEQ_START, SEQ_STOP and
SEQ_BRANCH leave their request with the engine and are pending; MARKER_FRAME gives its frame to
the chain, or stores it in a standby. Each conclusion here says that exec answers a next state:
vecLoad, seqStart, seqStop, seqBranch, markerFrame. -/
def Obligations.SequencerAndMarkerCommands : Prop :=
  ∀ (s : State) (c : Cmd), Sized s →
    let p := c.p.headD 0
    (∀ n v, n = bits p 31 16 → v = bits p 15 0 → Heard s 0x70 c → s.domOn dPAT = true → n ≠ 0 →
      c.p.length = 1 + 2 * n → v + n ≤ 65536 → s.vecsInUse v (v + n) = false →
      ∃ u, AnswersOk (.vecLoad c) c s u [] ∧ OnlyRegs s u [] ∧
        (∀ k, k < n →
          u.memWord (vecAddr (v + k)) = (c.p.getD (2 + 2 * k) 0).setWidth 32 ∧
          u.memWord (vecAddr (v + k) + 4) = (c.p.getD (2 + 2 * k) 0).extractLsb' 32 32 ∧
          u.memWord (vecAddr (v + k) + 8) = (c.p.getD (1 + 2 * k) 0).setWidth 32 ∧
          u.memWord (vecAddr (v + k) + 12) =
            (c.p.getD (1 + 2 * k) 0).extractLsb' 32 32 &&& 0xF000FFFF) ∧
        ∀ a, a < 0x800000 + 16 * v ∨ 0x800000 + 16 * (v + n) ≤ a → u.memByte a = s.memByte a) ∧
    (∀ t, Heard s 0x71 c → s.modeOn mPROBE = true → s.domOn dPAT = true → s.patState = paIDLE →
      s.pat.start = none → s.segValid (bits p 57 48) = true →
      t = (if bitOf p 63 then BitVec.ofNat 48 (bits p 47 0) else s.now + 64) →
      64 ≤ tickDiff t s.now → tickDiff t s.now ≤ 2 ^ 31 →
      Leaves (.seqStart c) s fun u =>
        Pends s u 0x71 c .seqStart ∧ OnlyRegs s u [] ∧ u.mem = s.mem ∧
        u.pat.start = some (BitVec.ofNat 10 (bits p 57 48), t, c.tag)) ∧
    (Heard s 0x72 c → s.domOn dPAT = true → s.patState = paRUN → bits p 1 0 ≠ 3 →
      Leaves (.seqStop c) s fun u =>
        Pends s u 0x72 c .seqStop ∧ u.patState = paRUN ∧ u.bit PAT_BR_PEND = false ∧
        u.pat.stops = (BitVec.ofNat 2 (bits p 1 0), some c.tag) :: s.pat.stops ∧
        OnlyRegs s u [PAT_BR.addr] ∧ u.mem = s.mem) ∧
    (Heard s 0x73 c → s.domOn dPAT = true → s.patRunning = true → s.bit PAT_BR_PEND = false →
      s.segValid (bits p 9 0) = true → s.pat.pastPoint = false →
      Leaves (.seqBranch c) s fun u =>
        Pends s u 0x73 c .seqBranch ∧ u.bit PAT_BR_PEND = true ∧ u.bit PAT_BR_LATE = false ∧
        u.get PAT_BR_TARGET = bits p 9 0 ∧ u.pat.reqTag = some c.tag ∧
        OnlyRegs s u [PAT_BR.addr] ∧ u.mem = s.mem) ∧
    (∀ k n : Nat, ∀ f : MFrame, k = bits p 63 63 → n = bits p 11 0 →
      f = { nbits := n, words := c.p.tail, tag := some c.tag } →
      Heard s 0x90 c →
      (s.standby = true → ∃ u, AnswersOk (.markerFrame c) c s u [] ∧ OnlyRegs s u [] ∧
        (u.mkOf k).last = some { f with tag := none } ∧ (u.mkOf k).frame = (s.mkOf k).frame ∧
        u.mem = s.mem) ∧
      (s.standby = false → s.modeOn mLIGHT = true → s.bit (MK_CFG_EN k) = true → n ≠ 0 →
        n ≤ 2048 → c.p.length = 1 + (n + 63) / 64 →
        ((s.mkOf k).frame = none → Leaves (.markerFrame c) s fun u =>
          Pends s u 0x90 c (.marker (k == 1)) ∧ (u.mkOf k).frame = some f ∧
          u.bit (MK_STAT_BUSY k) = true ∧ u.mem = s.mem) ∧
        ((s.mkOf k).frame.isSome → (s.mkOf k).next = none → Leaves (.markerFrame c) s fun u =>
          Pends s u 0x90 c (.marker (k == 1)) ∧ (u.mkOf k).next = some f ∧
          u.bit (MK_STAT_PEND k) = true ∧ u.mem = s.mem)))

/-- R34 to R37, R437, R479: MODE_SET with AT, DOMAIN and the planned handovers leave their request
and are pending; RESET_UNIT is answered with its reset due; PAIR answers the pair's status. Each
conclusion here says that exec answers a next state: modeSet, domain, resetUnit, pair, yield,
reclaim. -/
def Obligations.PowerAndCustodyCommands : Prop :=
  ∀ (s : State) (c : Cmd),
    let p := c.p.headD 0
    (∀ p1 t, Heard s 0x20 c → c.p = [p, p1] → bitOf p 63 = true → s.standby = false →
      t = BitVec.ofNat 48 (bits p1 47 0) → tickLt t s.now = false →
      (tickLt s.now t = true → (t - s.now).toNat ≤ 2 ^ 31) → s.changePending = false →
      (∀ n, n < 6 → (bits p 13 8).testBit n = true → s.draining n = false) →
      s.mirrorCheck (bits p 13 8) (bits p 5 0) = none →
      Leaves (.modeSet c) s fun u =>
        Pends s u 0x20 c (.modeSet (some t) (p.extractLsb' 8 6) (p.extractLsb' 0 6) false) ∧
        u.get MODE_STATUS_PENDING = bits p 13 8 ∧
        u.get MODE_STATUS_MASK = s.get MODE_STATUS_MASK ∧ OnlyRegs s u [ MODE_STATUS.addr] ∧
        u.mem = s.mem) ∧
    (Heard s 0x22 c → s.changePending = false →
      (∀ k, k < 26 → bitOf p (32 + k) = true → bitOf p k = true) →
      Leaves (.domain c) s fun u => u.mem = s.mem ∧ u.rd DOM_STAT.addr = s.rd DOM_STAT.addr ∧
        ∀ k, k < 26 → bitOf p (32 + k) = true → u.has DOM_CMD_CMDON k = true ∧
          (s.domOn (k + 1) = true ∨ (k + 1) ∈ u.pwr.rising ∨ (k + 1) ∈ u.pwr.again)) ∧
    (Heard s 0x2F c → s.cstate ≠ csACTIVE ∨ s.modeOn mMIRROR = false →
      AnswersOk (.resetUnit c) c s { (counted s) with atq := { s.atq with resetDue := true } } []) ∧
    (Heard s 0x80 c → c.p = [p] → s.isPair = true →
      (bitOf p 0 = false → AnswersOk (.pair c) c s (counted s)
        [s.cusStat ++ s.rd MIR_STAT.addr, s.cus.partnerStat ++ (0 : W32)]) ∧
      (bitOf p 0 = true → s.handoverDue = false → s.unitState ≠ usFault →
        s.cstate = csSEEK ∨ s.cstate = csLOST → s.diagOk = true → s.cus.silent = true →
        Leaves (.pair c) s fun u =>
          Pends s u 0x80 c .handover ∧ u.cus.hb = some s.handoverTick ∧ u.cus.taking = true ∧
          u.cstate = s.cstate ∧ u.mem = s.mem)) ∧
    (Heard s 0x81 c → s.handoverDue = false → s.cstate = csACTIVE →
      CUS_STAT_CSTATE.read s.cus.partnerStat = csSTANDBY →
      CUS_STAT_DIAG_OK.read s.cus.partnerStat ≠ 0 → s.mateUp = true →
      Leaves (.yield c) s fun u =>
        Pends s u 0x81 c .handover ∧ u.cus.hb = some s.handoverTick ∧
        u.cus.outgoing = some 9 ∧ u.cus.planned = true ∧ u.cstate = csACTIVE ∧
        Raised s u 672 ∧ u.mem = s.mem) ∧
    (Heard s 0x82 c → s.handoverDue = false → s.cstate = csSTANDBY → s.diagOk = true →
      s.mateUp = true →
      Leaves (.reclaim c) s fun u =>
        Pends s u 0x82 c .handover ∧ OnlyRegs s u [] ∧ u.cus = s.cus ∧ u.mem = s.mem)

/-- R450: the trial commands write the port's injection registers, raise the source, and set up
the error and the cause they name, with source 703 for an action that has taken effect;
TRIAL_CLEAR ends them, and so does the end of HOLD for a cause. Each conclusion here says that
exec answers a next state: trialLink, trialEvent, trialEcc, trialCause, trialClear, trialCauseEnd.
-/
def Obligations.TrialCommands : Prop :=
  ∀ (s : State) (c : Cmd),
    let p := c.p.headD 0
    let on := s.bit TR_CFG_EN = true
    (∀ op i, op ∈ [0xF0, 0xF1, 0xF2, 0xF3] → ofOpcode op c = some i → Heard s op c → ¬ on →
      exec i s = .next ((counted s).reply c.tag c.noReply stStateConflict 0xF0).releaseAll) ∧
    (∀ p1 n, Heard s 0xF0 c → on → c.p = [p, p1] → n = bits p 63 61 → n ≤ 4 →
      s.domOn (gxDomain n) = true → ∃ v, AnswersOk (.trialLink c) c s v [] ∧ Raised s v 703 ∧
        v.get (GX_INJ_EN n) = (GX_INJ_EN n).read (p.setWidth 32) ∧
        v.get (GX_INJ_LEVEL n) = (GX_INJ_LEVEL n).read (p.setWidth 32) ∧
        v.get (GX_INJ_NSYM n) = (GX_INJ_NSYM n).read (p.setWidth 32) ∧
        v.get (GX_INJR1_DROP n) = (GX_INJR1_DROP n).read (p1.extractLsb' 32 32) ∧
        v.get (GX_INJR1_CORR n) = (GX_INJR1_CORR n).read (p1.extractLsb' 32 32) ∧
        v.get (GX_INJR2_REORD n) = (GX_INJR2_REORD n).read (p1.setWidth 32) ∧ v.mem = s.mem) ∧
    (Heard s 0xF1 c → on → c.p = [p] → bits p 9 0 ≤ 703 → sourceReserved (bits p 9 0) = false →
      ∃ v, AnswersOk (.trialEvent c) c s v [] ∧ Raised s v 703 ∧ Raised s v (bits p 9 0) ∧
        v.mem = s.mem) ∧
    (∀ q n, Heard s 0xF2 c → on → c.p = [p] → q = bits p 63 56 → n = bits p 1 0 → q ≠ 0xFF →
      s.bit (Q_CFG_EN q) = true → n = 1 ∨ n = 2 → s.bit TR_STAT_ECC_PEND = false →
      AnswersOk (.trialEcc c) c s { ((counted s).putB TR_STAT_ECC_PEND true) with
        loam := { s.loam with trialEcc := some (BitVec.ofNat 8 q, n) } } []) ∧
    (∀ k, Heard s 0xF3 c → on → c.p = [p] → k = bits p 35 32 → s.bit TR_STAT_CAUSE_ACT = false →
      (k = 1 ∨ k = 2 → ∃ v, AnswersOk (.trialCause c) c s v [] ∧ Raised s v 703 ∧
        v.bit TR_STAT_CAUSE_ACT = true ∧ v.get TR_STAT_CAUSE = k ∧ v.diagOk = false ∧
        v.rd FAULT_CAUSE.addr = s.rd FAULT_CAUSE.addr ∧
        v.atq.trialCause = some (if k = 1 then .pace else .reference) ∧ v.mem = s.mem) ∧
      (k = 3 → s.cstate = csACTIVE → ∃ v, AnswersOk (.trialCause c) c s v [] ∧
        Raised s v 703 ∧ v.bit TR_STAT_CAUSE_ACT = true ∧ v.bit FAULT_CAUSE_RAIL = true ∧
        v.unitState = s.unitState ∧ v.mem = s.mem) ∧
      (4 < k → exec (.trialCause c) s =
        .next ((counted s).reply c.tag c.noReply stBadParam 1).releaseAll)) ∧
    (Heard s 0xFF c → ∃ v, AnswersOk (.trialClear c) c s v [] ∧ v.mem = s.mem ∧
      (∀ n, n < 5 → v.bit (GX_INJ_EN n) = false) ∧ v.bit TR_STAT_ECC_PEND = false ∧
      v.loam.trialEcc = none ∧ v.atq.trialCause = none) ∧
    (∀ cause, s.atq.trialCause = some cause → s.atq.trialEnd ≤ s.tb.up → Answers .trialCauseEnd s fun t =>
      t.atq.trialCause = none ∧ t.bit TR_STAT_CAUSE_ACT = false ∧ t.get TR_STAT_CAUSE = 0 ∧
      t.mem = s.mem ∧ ∀ a, a ≠ TR_STAT.addr → t.rd a = s.rd a)

/-- R421 to R427, R429: a packet for this unit runs its command, one with MORE waits for the rest,
one for a unit behind a live port is sent on unchanged, and one that no range holds is answered
ABSENT; a command whose next packet is late is discarded; a pending command whose happening has
come is answered. Each conclusion here says that exec answers a next state: commandPacket,
packetTimeout, pendingReply. -/
def Obligations.PacketsAndReplies : Prop :=
  ∀ s : State,
    (∀ c, Heard s 0x04 c → s.atq.frag = none → s.atq.skip = none →
      exec (.commandPacket (c0Of 4 c :: c.p) []) s =
        .next (((counted s).reply c.tag c.noReply stOk 0 [c.p.headD 0]).returnCredit 1).releaseAll) ∧
    (∀ c0 p, s.listens = true → s.atq.skip = none → c0Cver c0 = 4 →
      let n := grainsOf (p.length + 1)
      let mine := c0Unit c0 = s.unitId ∨ (c0Group c0 = true ∧ c0Unit c0 < s.unitId)
      (mine → s.atq.frag = none → c0More c0 = true → c0Reserved c0 = false → c0Len c0 ≤ 511 →
        Answers (.commandPacket (c0 :: p) []) s fun t =>
          t.atq.frag = some { c0 := c0, p := p } ∧ t.atq.fragAt = s.tb.up ∧ t.atq.waiting = s.atq.waiting ∧
          t.regs = s.regs ∧ t.mem = s.mem) ∧
      (¬ mine → ∀ k, s.portOf (c0Unit c0) = some k → s.gxLive (k + 1) = true → s.gx.length = 5 →
        Answers (.commandPacket (c0 :: p) []) s fun t =>
          (t.gxOf (k + 1)).txCmds = (s.gxOf (k + 1)).txCmds ++ [c0 :: p] ∧
          (t.gxOf 0).ret1 = (s.gxOf 0).ret1 + n ∧ t.regs = s.regs ∧ t.mem = s.mem ∧
          t.atq = s.atq) ∧
      (¬ mine → s.portOf (c0Unit c0) = none → c0More c0 = false →
        exec (.commandPacket (c0 :: p) []) s = .next
          ((s.reply (BitVec.ofNat 16 (c0Tag c0)) (c0NoReply c0) stAbsent 0).returnCredit n))) ∧
    (∀ f, s.atq.frag = some f → c0Cver f.c0 = 4 → s.atq.fragAt + msTicks ≤ s.tb.up → exec .packetTimeout s = .next
      (((({ s with atq := { s.atq with frag := none } }).bump CMD_STAT_DISC).raise 4).reply
        (BitVec.ofNat 16 (c0Tag f.c0)) (c0NoReply f.c0) stTimedOut 1)) ∧
    (s.atq.frag = none → s.atq.skip.isSome → s.atq.skipAt + msTicks ≤ s.tb.up →
      exec .packetTimeout s = .next { s with atq := { s.atq with skip := none } }) ∧
    (s.atq.frag = none → s.atq.skip = none → exec .packetTimeout s = .next s) ∧
    (∀ (tag : BitVec 16) (op : BitVec 8) (nr ord : Bool) (w : Waits),
      s.atq.pend = [{ tag, opcode := op, noReply := nr, order := ord, waits := w }] →
      let answered (st d : Nat) (body : List W64) (hi lo : Nat) : Prop :=
        exec (.pendingReply tag) s = .next
          ((({ s with atq := { s.atq with pend := [] } }).reply tag nr st d body hi lo).partDone
            tag).releaseAll
      (∀ st d hi lo body, w = .ready st d hi lo body → answered st d body hi lo) ∧
      (∀ st d body, w = .enumerating st d body → answered st d body 0 0) ∧
      (∀ done rej since, w = .grade 0 done rej since →
        answered (if rej then stDataError else stOk) 0 [done] 0 0) ∧
      (∀ todo done rej since, w = .grade todo done rej since → todo ≠ 0 →
        since + gradeLimit ≤ s.tb.up →
        answered stTimedOut (setBits todo).length [done] 0 0))

/-- R442 to R445: the root of a group command opens the group and sends the command on to every
range behind a live port; it takes the units' replies out of the stream, merges them once they are
complete or the wait is over, and discards and counts the late ones until that period ends. Each
conclusion here says that exec answers a next state: ping, groupReplyArrival, groupMergeTimeout,
groupDiscardEnd. -/
def Obligations.GroupCommands : Prop :=
  ∀ s : State,
    (∀ c, s.listens = true → s.atq.waiting = [] → c.order = false → c.cver = 4 → c.group = true →
      c.unit.toNat = s.unitId → s.tagOpen c.tag = false → s.pendCount < 16 →
      s.enumerating = false → c.p.length ≤ 1 →
      s.gx.length = 5 → s.readyOrActive = true →
      Leaves (.ping c) s fun u =>
        (∃ g ∈ u.atq.groups, g.tag = c.tag ∧ g.lo = c.unit ∧ g.noReply = c.noReply ∧
          g.hi.toNat = s.subtreeHi ∧ g.parts = [] ∧ g.ownAt = some s.tb.up) ∧
        ∀ k, k < 3 → s.bit (ENUM_F_VALID k) = true → s.gxLive (k + 1) = true →
          ∃ w, (u.gxOf (k + 1)).txCmds = (s.gxOf (k + 1)).txCmds ++ [w :: c.p] ∧
            cmdOf w c.p = c ∧ c0Opcode w = 4) ∧
    (∀ g r p0 body, s.atq.groups = [g] → s.atq.merged = [] → r.type = 8 → r.cont = false →
      r.payload = p0 :: body → bits p0 63 56 ≠ 9 → bits p0 31 16 = g.tag.toNat → g.lo ≤ r.unit →
      r.unit ≤ g.hi → (∀ q ∈ g.parts, q.unit ≠ r.unit) → g.openParts = [] →
      (∃ k : BitVec 6, g.lo ≤ k ∧ k ≤ g.hi ∧ k ≠ r.unit ∧ ∀ q ∈ g.parts, q.unit ≠ k) →
      Leaves (.groupReplyArrival r) s fun u => u.regs = s.regs ∧ u.mem = s.mem ∧
        u.atq.groups = [{ g with parts := g.parts ++
          [{ unit := r.unit, status := p0.extractLsb' 56 8, detail := p0.extractLsb' 48 8
             body := body }] }]) ∧
    (∀ r p0 body tag lo hi moment, s.atq.groups = [] → s.atq.merged = [] →
      (tag, lo, hi, moment) ∈ s.atq.discards → r.type = 8 → r.cont = false → r.payload = p0 :: body →
      bits p0 31 16 = tag.toNat → lo ≤ r.unit → r.unit ≤ hi →
      Leaves (.groupReplyArrival r) s fun u =>
        u.get CMD_STAT_LATE = min 255 (s.get CMD_STAT_LATE + 1) ∧
        (∀ a, a ≠ CMD_STAT.addr → u.rd a = s.rd a) ∧ u.mem = s.mem ∧ u.atq = s.atq) ∧
    (∀ g begun, s.atq.groups = [g] → g.ownAt = some begun → begun + s.groupWait ≤ s.tb.up →
      Leaves (.groupMergeTimeout g.tag) s fun u => u.atq.groups = [] ∧
        u.atq.discards = (g.tag, g.lo, g.hi, s.tb.up) :: s.atq.discards ∧ u.mem = s.mem) ∧
    (∀ g, s.atq.groups = [g] → g.ownAt = none → exec (.groupMergeTimeout g.tag) s = .next s) ∧
    (∀ tag e, s.atq.discards.find? (fun e => e.1 == tag) = some e →
      e.2.2.2 + s.groupWait ≤ s.tb.up →
      exec (.groupDiscardEnd tag) s = .next { s with
        atq := { s.atq with discards := s.atq.discards.filter fun e => e.1 != tag } }) ∧
    (∀ tag, (∀ e ∈ s.atq.discards, e.1 ≠ tag) → exec (.groupDiscardEnd tag) s = .next s)

/-- R23, R440, R441: the head's ENUMERATE runs until PENDING_REPLY with one word for itself and
each unit it numbers, at most 64, siblings in the order of their ports, and counts it in GEN; a
unit below the head takes the ID of its place, with source 5 when it had none, or no ID past the
63rd; another unit that is addressed answers BAD_PARAM 09h. Each conclusion here says that exec
answers a next state: enumerate. -/
def Obligations.Enumeration : Prop :=
  ∀ (s : State) (c : Cmd) (found : List TreeUnit),
    (Heard s 0x03 c → (∀ u ∈ found, u.own = false) → s.isHead = true →
      let n := (s.reachable false (numberingOrder 64 1 found)).length
      Leaves (.enumerate c found) s fun u => ∃ body : List W64,
        Pends s u 0x03 c (.enumerating (if 63 < n then stLimit else stOk)
          (if 63 < n then min 255 (n - 63) else 0) body) ∧ body.length = 1 + min 63 n ∧
        u.get ENUM_STAT_GEN = (s.get ENUM_STAT_GEN + 1) % 256 ∧ u.mem = s.mem ∧
        (∀ i w, body[i]? = some w → bits w 63 58 = i) ∧
        ((∀ x ∈ found, x.depth = 1) →
          (body.tail.map fun w => bits w 51 50).Pairwise (· ≤ ·))) ∧
    (Heard s 0x03 c → (∀ u ∈ found, u.own = false) → s.isHead = false →
      exec (.enumerate c found) s =
        .next ((counted s).reply c.tag c.noReply stBadParam 9).releaseAll) ∧
    (∀ i u after, s.isHead = false → s.unitState ≠ usOff →
      ownPlace 0 (numberingOrder 64 1 found) = some (i, u, after) →
      Answers (.enumerate c found) s fun t =>
        t.get ENUM_STAT_GEN = (s.get ENUM_STAT_GEN + 1) % 256 ∧ t.mem = s.mem ∧
        (i < 63 → t.bit ENUM_STAT_VALID = true ∧ t.unitId = i + 1 ∧
          t.get ENUM_STAT_DEPTH = u.depth.toNat ∧
          (s.bit ENUM_STAT_VALID = false → Raised s t 5)) ∧
        (63 ≤ i → t.bit ENUM_STAT_VALID = false))

/-- R34 to R39, R48, R49: at its apply tick a scheduled mode change whose domains are on is in
force; it is no longer shown as pending; a standby's own change leaves its mask empty. R30, R46: a
draining mode whose work is done stops draining; when it was the last, source 1 is raised and a
unit with no mode left is READY. Each conclusion here says that exec answers a next state:
modeApplyTick, modeDrainEnd. -/
def Obligations.ModesChangeAndDrain : Prop :=
  (∀ (s : State) (tag : BitVec 16) (at_ : Tick) (sel val : BitVec 6) (nr f : Bool) (op : BitVec 8),
     s.atq.pend = [{ tag, opcode := op, noReply := nr, waits := .modeSet (some at_) sel val f }] →
     let new := maskAfter (s.get MODE_STATUS_MASK) sel.toNat val.toNat
     (s.standby = true → Answers .modeApplyTick s fun t =>
       t.get MODE_STATUS_MASK = 0 ∧ t.get MODE_STATUS_PENDING = 0) ∧
     (s.standby = false → s.maskWaits new = [] →
     Answers .modeApplyTick s fun t =>
       t.get MODE_STATUS_MASK = new ∧ t.get MODE_STATUS_PENDING = 0 ∧
       (s.tb.started = true → tickLt s.now at_ = true → t.now = at_) ∧
       (∀ n, n < 6 → s.modeOn n = true → new.testBit n = false → t.draining n = true) ∧
       (s.readyOrActive = true → t.unitState =
         if new = 0 ∧ s.get MODE_STATUS_MASK = 0 ∧ s.get MODE_STATUS_DRAINING = 0
         then usReady else usActive))) ∧
  (∀ (s : State) (n : Nat), n < 6 → s.draining n = true → s.workDone n = true →
     Answers (.modeDrainEnd (BitVec.ofNat 6 (2 ^ n))) s fun t =>
       t.draining n = false ∧ t.get MODE_STATUS_MASK = s.get MODE_STATUS_MASK ∧
       (∀ k, k < 6 → k ≠ n → t.draining k = s.draining k) ∧
       (s.get MODE_STATUS_DRAINING = 2 ^ n → Raised s t 1 ∧
         (s.readyOrActive = true → t.unitState =
           if s.get MODE_STATUS_MASK = 0 then usReady else usActive)))

/-- R454 to R456, R458: a raise sets the source's latch bit, and with CUS set it is a
self-diagnosis cause; a source that is off and a reserved one have no effect. Nothing but the
event matrix, the queues and the event routes changes. R356, R459: a recorded raise queues one
event record in queue 0F1h: type 6, source the latch word, the next sequence number of that
stream, and the source with its latch word as the payload. Each conclusion here says that exec
answers a next state: sourceRaise. -/
def Obligations.RaisesLatchAndRecord : Prop :=
  (∀ (s : State) (n : Fin 704),
     Gives (.sourceRaise n) s s (if sourceReserved n then [] else [n.val]) ∧
     (sourceReserved n = true ∨ s.bit (EV_SRC_EN n) = false ∨ s.domOn dCORE = false →
       Machine.exec (.sourceRaise n) s = .next s) ∧
     (sourceReserved n = false → s.bit (EV_SRC_EN n) = true → s.domOn dCORE = true →
       s.bit (EV_SRC_CUS n) = true →
       Answers (.sourceRaise n) s fun t => t.cus.raisedAt = some s.tb.up)) ∧
  (∀ (s : State) (n : Fin 704), sourceReserved n = false → s.domOn dCORE = true →
     s.domOn dLOAM = true → s.bit (EV_SRC_EN n) = true → s.bit (EV_SRC_REC n) = true →
     s.standby = false → s.loam.trialEcc = none → (s.queue 0xF1).stall = none →
     s.get (Q_LIM_WM 0xF1) = 0 → s.admission 0xF1 1 = none →
     Answers (.sourceRaise n) s fun t => ∃ r : Rec, ∃ it : Item,
       (t.queue 0xF1).items = (s.queue 0xF1).items ++ [it] ∧ it.words = recWords r ∧
       r.type = 6 ∧ r.source.toNat = n / 32 ∧ r.unit.toNat = s.unitId ∧
       r.seq = s.seqOf (streamKey 6 (n / 32)) ∧
       t.seqOf (streamKey 6 (n / 32)) = s.seqOf (streamKey 6 (n / 32)) + 1 ∧
       r.payload = [packWord [(n.val, 54, 10), (t.get (EV_LATCH_SRC (n / 32)), 0, 32)]])

/-- R19, R20: while RUN is 1 each region's window writes COUNT and lowers MIN; a count below its
floor and margin sets BELOW and raises source 8 + n. Each conclusion here says that exec answers a
next state: paceWindowEnd. -/
def Obligations.PaceWindows : Prop :=
  ∀ (s : State) (c : Fin 4 → BitVec 16), s.domOn dCORE = true → s.bit PACE_CTRL_RUN = true →
    Answers (.paceWindowEnd (c 0) (c 1) (c 2) (c 3)) s fun t =>
      t.mem = s.mem ∧ ∀ n : Fin 4,
        t.get (PACE_COUNT n) = (c n).toNat ∧
        t.get (PACE_MIN_MIN n) = min (s.get (PACE_MIN_MIN n)) (c n).toNat ∧
        ((c n).toNat < s.get (PACE_FLOOR n) + 16 * s.get PACE_CTRL_MARGIN →
          t.has PACE_LOW_BELOW n = true ∧ Raised s t (8 + n)) ∧
        (s.get (PACE_FLOOR n) + 16 * s.get PACE_CTRL_MARGIN ≤ (c n).toNat →
          t.has PACE_LOW_BELOW n = s.has PACE_LOW_BELOW n)

/-- R471, R472: at a frame boundary the counter stands at it, AGE is the age of the copy held in
boundaries, and a copy still in progress is abandoned; in SOLO the boundary only ends MIRROR's
drain. R467, R471: an acknowledged copy makes AGE 0 and counts in COPIES; one that fails its check
is abandoned and counts in MISSED; the first complete copy takes a SYNC unit to STANDBY with
source 684. Each conclusion here says that exec answers a next state: mirrorBoundary,
copyComplete. -/
def Obligations.MirrorCopies : Prop :=
  (∀ s : State,
     (s.cstate = csSOLO → s.draining mMIRROR = false → Machine.exec .mirrorBoundary s = .next s) ∧
     (s.cstate ≠ csSOLO → s.cus.giveUp = false → s.cus.silentTake = false →
       Answers .mirrorBoundary s fun t =>
         t.cus.boundary = some s.nextBoundary ∧
         t.get MIR_STAT_AGE = (match s.cus.copyAt with
           | none => 0xFFFF
           | some u => min 0xFFFE ((s.elapsedAt s.nextBoundary - u).toNat / s.mirrorPer)) ∧
         (s.cus.sending = none → t.get MIR_STAT_MISSED = s.get MIR_STAT_MISSED) ∧
         (s.cus.sending.isSome → t.get MIR_STAT_MISSED =
           saturate MIR_STAT_MISSED.width (s.get MIR_STAT_MISSED + 1)))) ∧
  (∀ (s : State) (c : MirrorCopy),
     (∀ x, s.cstate = csACTIVE → s.cus.sending = some x → x.boundary = c.boundary →
       s.cus.holding = false → c.ok = true →
       Answers (.copyComplete c) s fun t =>
         t.get MIR_STAT_AGE = 0 ∧ Counts s t MIR_CNT_COPIES 1 ∧
         t.cus.sending = none ∧ t.cus.copyAt = some (s.elapsedAt c.boundary) ∧ t.cstate = csACTIVE ∧
         t.mem = s.mem) ∧
     (s.cstate = csSTANDBY ∨ s.cstate = csSYNC → c.ok = false →
       Gives (.copyComplete c) s { (s.bump MIR_STAT_MISSED) with
         cus := { s.cus with partnerStat := c.stat, sending := none } } []) ∧
     (s.cstate = csSYNC → c.ok = true →
       Answers (.copyComplete c) s fun t =>
         t.cstate = csSTANDBY ∧ t.get MIR_STAT_AGE = 0 ∧ t.cus.copy = some c ∧ Raised s t 684))

/-- R474, R475: an active's self-diagnosis holds its codes, stops GUARDO and schedules a handover
at the first boundary at least 1,250 ticks ahead, with source 672; a standby notes the HB it is
told. R475, R477, R483: at HB the outgoing unit gives up control, to SYNC when the handover was
planned and else to YIELDED, with source 674; an eligible standby takes it, with source 673 and
TAKE counted; one that is not eligible declines, counts in DECL and is LOST. Each conclusion here
says that exec answers a next state: selfDiagnosisCause, handoverNotice, handoverBoundary. -/
def Obligations.HandoversMoveControl : Prop :=
  (∀ s : State,
     (∀ c : Cause, s.cstate = csACTIVE → s.isPair = true → s.cus.outgoing = none →
       Answers (.selfDiagnosisCause c) s fun t =>
         t.cus.hb = some s.handoverTick ∧ t.cus.outgoing = some (BitVec.ofNat 4 (causeReason c)) ∧
         t.cus.planned = false ∧ t.cus.holding = true ∧ t.pins.guardo = false ∧
         t.get CUS_HB_LO_TICK_L = s.handoverTick.toNat % 2 ^ 32 ∧
         t.get CUS_HB_HI_TICK_H = s.handoverTick.toNat / 2 ^ 32 ∧ Raised s t 672 ∧
         t.mem = s.mem ∧ t.now = s.now) ∧
     (∀ hb stat, s.cstate = csSYNC ∨ s.cstate = csSTANDBY →
       Answers (.handoverNotice hb false stat) s fun t =>
         t.cus.hb = some hb ∧ t.get CUS_HB_LO_TICK_L = hb.toNat % 2 ^ 32 ∧
         t.get CUS_HB_HI_TICK_H = hb.toNat / 2 ^ 32 ∧ t.mem = s.mem ∧
         ∀ a, a ≠ CUS_HB_LO_TICK_L.addr → a ≠ CUS_HB_HI_TICK_H.addr → t.rd a = s.rd a) ∧
     (∀ hb stat, s.cstate = csACTIVE → s.cus.hb = none →
       Answers (.handoverNotice hb true stat) s fun t =>
         t.cus.hb = some s.handoverTick ∧ t.cus.planned = true ∧
         t.cus.outgoing = some 10 ∧ Raised s t 672)) ∧
  (∀ s : State, s.cus.hb = some s.now →
     (∀ r, s.cstate = csACTIVE → s.cus.outgoing = some r → s.cus.faultAfter = false →
       Answers .handoverBoundary s fun t =>
         t.cstate = (if s.cus.planned then csSYNC else csYIELDED) ∧ t.cus.hb = none ∧
         t.cus.outgoing = none ∧ t.get CUS_STAT_REASON = r.toNat ∧ t.pins.guardo = false ∧
         Raised s t 674) ∧
     (s.cstate = csSTANDBY → s.cus.outgoing = none → s.cus.taking = false → s.diagOk = true →
       s.cus.ineligible = false →
       Answers .handoverBoundary s fun t =>
         t.cstate = csACTIVE ∧ t.cus.hb = none ∧
         t.get CUS_CNT_TAKE = saturate CUS_CNT_TAKE.width (s.get CUS_CNT_TAKE + 1) ∧
         Raised s t 673) ∧
     (s.cstate = csSTANDBY → s.cus.outgoing = none → s.cus.taking = false → s.diagOk = false →
       Answers .handoverBoundary s fun t =>
         t.cstate = csLOST ∧ t.cus.hb = none ∧
         t.get CUS_CNT_DECL = saturate CUS_CNT_DECL.width (s.get CUS_CNT_DECL + 1) ∧
         Raised s t 675 ∧ Raised s t 676))

/-- R473: the partner's guard falling silent raises source 678 in a pair and readies a standby's
takeover unless the silence was asserted; its edges coming back end the silence; a conflict makes
the B partner give up control at the next boundary. R467, R468, R475: a partner that holds control
takes a SEEK unit to SYNC with source 682; SEEK with a guard silent for SEEK_T ends in ACTIVE; an
outgoing unit that has not seen its partner's guard t_GD and a frame after HB is LOST with source
676. Each conclusion here says that exec answers a next state: guardEdgesReturn, guardSilent,
guardConflict, partnerJoin, seekTimeout, outgoingGuardTimeout. -/
def Obligations.GuardAndCustodyTimes : Prop :=
  (∀ s : State,
     Machine.exec .guardEdgesReturn s = .next { s with
       cus := { s.cus with silent := false, ineligible := false, orphan := none } } ∧
     (∀ b, s.cstate = csSOLO → Machine.exec (.guardSilent b) s = .next { s with
       cus := { s.cus with silent := true } }) ∧
     (s.cstate = csSYNC ∨ s.cstate = csSTANDBY → s.cus.hb = none →
       Gives (.guardSilent false) s { s with
         cus := { s.cus with silent := true, silentTake := true } } [678] ∧
       Gives (.guardSilent true) s { s with
         cus := { s.cus with silent := true, ineligible := true } } [678, 679]) ∧
     (s.cstate = csACTIVE → Gives .guardConflict s { s with
       cus := { s.cus with silent := false, giveUp := s.cus.giveUp || s.role == 2 } } [686])) ∧
  (∀ s : State,
     (∀ stat, s.cstate = csSEEK → s.mateUp = true → s.cus.joined = false →
       CUS_STAT_HOLDS.read stat = 1 →
       Answers (.partnerJoin stat) s fun t =>
         t.cstate = csSYNC ∧ t.cus.joined = true ∧ t.cus.partnerStat = stat ∧ Raised s t 682) ∧
     (s.cstate = csSEEK → s.cus.silent = true → s.diagOk = true →
       s.cus.seekFrom + s.seekTicks ≤ s.tb.up →
       Answers .seekTimeout s fun t =>
         t.cstate = csACTIVE ∧ Raised s t 673) ∧
     (∀ u, s.cstate = csYIELDED ∨ s.cstate = csSYNC → s.cus.orphan = some u →
       s.cus.silent = true → u + 2375 + s.mirrorPer ≤ s.tb.up →
       Answers .outgoingGuardTimeout s fun t =>
         t.cstate = csLOST ∧ t.cus.orphan = none ∧ t.pins.pairLost = true ∧ Raised s t 676))

/-- R491: a rail outside its window moves from INW to OUTW and raises source 12 + k; one that
comes back raises 19 + k. A rail that feeds LIGHT ends kept lighting. R490, R492, R502: supply
warnings write VSUP_MON and raise sources 7 and 28; temperatures are shown and an overrun raises
source 26 or 27 once; a TAP instruction changes the TAP alone. Each conclusion here says that exec
answers a next state: railOut, railReturn, vsupWarn, vsupHigh, tapInstruction, tempRead. -/
def Obligations.SupplyMonitorsAndRails : Prop :=
  (∀ (s : State) (k : Fin 7),
     (s.railChecked k = true → s.pwr.railOut.contains k.val = false →
       Answers (.railOut k) s (fun t =>
         t.has RAIL_STAT_OUTW k = true ∧ t.has RAIL_STAT_INW k = false ∧
         k.val ∈ t.pwr.railOut ∧ Raised s t (12 + k) ∧
         (lightRail k = true → s.domOn dLIGHT = true → t.bit MODE_STATUS_LKEPT = false)) ∧
       (lightRail k = false →
         Gives (.railOut k) s { ((s.mark RAIL_STAT_OUTW k).unmark RAIL_STAT_INW k) with
           pwr := { s.pwr with railOut := k.val :: s.pwr.railOut } } [12 + k.val])) ∧
     (s.pwr.railOut.contains k.val = true → lightRail k = false → k.val < 3 →
       Gives (.railReturn k) s { (s.mark RAIL_STAT_INW k) with
         pwr := { s.pwr with railOut := s.pwr.railOut.filter (· != k.val) } } [19 + k.val]) ∧
     (s.pwr.railOut.contains k.val = true →
       Answers (.railReturn k) s fun t => k.val ∉ t.pwr.railOut ∧ Raised s t (19 + k))) ∧
  (∀ s : State,
     (∀ v, Gives (.vsupWarn v) s (s.put VSUP_MON_VSUP v.toNat) [7]) ∧
     (∀ v, Gives (.vsupHigh v) s (s.put VSUP_MON_VSUP v.toNat) [28]) ∧
     (∀ i, Machine.exec (.tapInstruction i) s = .next { s with pwr := { s.pwr with tap := i } }) ∧
     (∀ tc tf : BitVec 16, s.pwr.supply = true → ∃ w x : Bool,
       Gives (.tempRead tc tf) s
         { ((s.put TEMP_MON_TCORE tc.toNat).put TEMP_MON_TFIELD tf.toNat) with
           pwr := { s.pwr with warnCore := w, warnField := x } }
         ((if s.get TEMP_WARN_LIMIT * 8 ≤ tc.toInt ∧ s.pwr.warnCore = false then [26] else []) ++
           (if s.get TEMP_WARN_LIMIT * 8 ≤ tf.toInt ∧ s.pwr.warnField = false then [27] else []))))

/-- R30, R31, R32, R491, R449: a failed rail or an expired watchdog latches its cause; a unit in
READY or ACTIVE that is no active partner then enters FAULT with no mode left and source 3, and an
active partner's self-diagnosis sees the cause first. R486 to R489: a domain whose rails are good
counts as on once it has qualified; domains go off one after another, and one that has powered
down counts as off, loses DOM_CMD.CMDON and powers up again if it was asked for meanwhile; one
that fails is reported in DOM_FAIL with source 29 and takes a running unit to FAULT. Each
conclusion here says that exec answers a next state: domainUp, domainOff, domainFail, railFault,
watchdogTimeout. -/
def Obligations.FaultsAndDomains : Prop :=
  (∀ (s : State) (c : Instr) (f : RF) (cause : Cause),
     (∃ k : Fin 7, c = .railFault k ∧ f = FAULT_CAUSE_RAIL ∧ cause = .rail ∧
       s.railChecked k = true ∧ s.pwr.railOut.contains k.val = true) ∨
     (c = .watchdogTimeout ∧ f = FAULT_CAUSE_WATCHDOG ∧ cause = .watchdog ∧ s.domOn dATSQ = true) →
     (s.cstate = csACTIVE →
       Machine.exec c s = .next { s.putB f true with
         cus := { s.cus with frameClean := false, causes := s.cus.causes ++ [cause] } }) ∧
     (s.cstate ≠ csACTIVE → s.readyOrActive = true →
       Answers c s fun t =>
         t.bit f = true ∧ t.unitState = usFault ∧ t.get MODE_STATUS_MASK = 0 ∧
         t.get MODE_STATUS_DRAINING = 0 ∧ Raised s t 3)) ∧
  (∀ (s : State) (d : Fin 27), d.val ≠ 0 →
     (s.rising d = true → s.railsGood d = true →
       Answers (.domainUp d) s fun t => t.domOn d = true ∧ t.rising d = false) ∧
     (s.rising d = false ∨ s.railsGood d = false → Machine.exec (.domainUp d) s = .next s) ∧
     (s.pwr.falling.head? = some d.val → Answers (.domainOff d) s fun t =>
       t.domOn d = false ∧ t.has DOM_CMD_CMDON (d - 1) = false ∧ t.falling d = false ∧
       (s.pwr.again.contains d.val = true → t.rising d = true)) ∧
     (s.pwr.falling.head? ≠ some d.val → Machine.exec (.domainOff d) s = .next s) ∧
     (s.rising d = true → Answers (.domainFail d) s fun t =>
       t.has DOM_FAIL_FAIL (d - 1) = true ∧ t.rising d = false ∧ Raised s t 29 ∧
       (s.cstate ≠ csACTIVE → s.readyOrActive = true → s.changePending = false →
         t.unitState = usFault ∧ t.bit FAULT_CAUSE_DOMAIN = true)))

/-- R7, R490, R493, R494: RESETN low long enough, or the supply falling, puts every register but
the live ones at its reset value and empties the memories; a pulse up to 100 ns does nothing.
RESETN or the supply rising samples the straps and boots with the base domains powering up. R7,
R432, R448, R499: the reset that RESET_UNIT asked for boots the unit with every register at its
reset value but those that keep theirs; the patch RAM keeps its contents and the other memories do
not; pending commands are gone. Each conclusion here says that exec answers a next state:
resetnLow, vsupFall, resetnRise, vsupRise, unitReset. -/
def Obligations.Resets : Prop :=
  (∀ s : State,
     (∀ ns : BitVec 16, ns.toNat ≤ 100 → Machine.exec (.resetnLow ns) s = .next s) ∧
     (∀ ns : BitVec 16, 1000 ≤ ns.toNat → s.pwr.supply = true →
       Answers (.resetnLow ns) s fun t =>
         t.pwr.resetn = false ∧ t.unitState = usBoot ∧ t.mem = [] ∧ t.tb.tick = 0 ∧
         t.pwr.rising = [] ∧ (∀ d, 1 < d → d < 27 → t.domOn d = false) ∧
         ∀ a, a ∉ resetWrites → liveReg a = false → t.rd a = resetWord a) ∧
     (∀ v : BitVec 16, s.pwr.supply = true →
       Answers (.vsupFall v) s fun t =>
         t.pwr.supply = false ∧ t.unitState = usOff ∧ t.mem = [] ∧ t.get VSUP_MON_VSUP = v.toNat ∧
         ∀ a, a ∉ resetWrites → liveReg a = false → t.rd a = resetWord a) ∧
     (s.pwr.resetn = false → s.pwr.supply = true →
       Answers .resetnRise s fun t =>
         t.pwr.resetn = true ∧ t.unitState = usBoot ∧ t.rd STRAP.addr = STRAP.write s.pwr.straps.toNat 0 ∧
         t.pwr.rising = baseDomains.filter (fun d => !s.domOn d) ∧ t.mem = s.mem ∧
         t.isHead = t.bit STRAP_HEAD ∧
         ∀ a, a ∉ resetWrites → t.rd a = s.rd a) ∧
     (∀ v : BitVec 16, s.pwr.resetn = true → s.pwr.supply = false →
       Answers (.vsupRise v) s fun t =>
         t.pwr.supply = true ∧ t.unitState = usBoot ∧ t.get VSUP_MON_VSUP = v.toNat ∧
         t.rd STRAP.addr = STRAP.write s.pwr.straps.toNat 0 ∧ t.mem = s.mem ∧
         t.pwr.rising = baseDomains.filter (fun d => !s.domOn d))) ∧
  (∀ s : State, s.atq.resetDue = true →
     Answers .unitReset s fun t =>
       t.unitState = usBoot ∧ t.atq.pend = [] ∧ t.cstate = csSOLO ∧ t.tb.tick = 0 ∧
       (∀ a, 0x8000 ≤ a → a < 0xC000 → t.memByte a = s.memByte a) ∧
       (∀ a, a < 0x8000 ∨ 0xC000 ≤ a → t.memByte a = memReset a) ∧
       (∀ a, a ∉ resetWrites → liveReg a = true → t.rd a = s.rd a) ∧
       (∀ a, a ∈ [FAULT_CAUSE.addr, ENUM_STAT.addr, (ENUM_F 0).addr, PATCH_CTL.addr, CUS_CFG.addr,
         CUS_CNT.addr] → t.rd a = s.rd a) ∧ t.rd PATCH_CRC.addr = resetWord PATCH_CRC.addr ∧
       ∀ d ∈ baseDomains, t.domOn d = s.domOn d)

/-- R496, R498: the boot steps in order. A failed ROM check is error 1, more failing grains than
QLIM error 2, an erased flash error 3; each ends in FAULT with BOOT_FAIL. Without a flash image
the memory test ends in READY. Each conclusion here says that exec answers a next state:
romCheckDone, memoryTestDone, flashImageRead. -/
def Obligations.BootSteps : Prop :=
  ∀ s : State, s.booting = true →
    (s.pwr.romOk = false →
      Machine.exec (.romCheckDone true) s = .next { s with pwr := { s.pwr with romOk := true } } ∧
      Answers (.romCheckDone false) s fun t =>
        t.get BOOT_STAT_ERR = 1 ∧ t.bit FAULT_CAUSE_BOOT_FAIL = true ∧ t.unitState = usFault) ∧
    (∀ n : BitVec 16, s.pwr.romOk = true → s.pwr.memOk = false → n.toNat ≤ s.get LP_CFG_QLIM →
      n.toNat ≤ poolGrains →
      Answers (.memoryTestDone n) s fun t =>
        s.loam.quar + n.toNat ≤ t.loam.quar ∧ t.pwr.memOk = true ∧
        t.unitState = if s.bit STRAP_BOOTSRC then usBoot else usReady) ∧
    (∀ n : BitVec 16, s.pwr.romOk = true → s.pwr.memOk = false → s.get LP_CFG_QLIM < n.toNat →
      s.get LP_CFG_QLIM < poolGrains →
      Answers (.memoryTestDone n) s fun t =>
        t.get BOOT_STAT_ERR = 2 ∧ t.bit FAULT_CAUSE_BOOT_FAIL = true ∧ t.unitState = usFault) ∧
    (∀ image : List W32, s.pwr.memOk = true → s.bit STRAP_BOOTSRC = true →
      (image.head? = some 0xFFFFFFFF ∨ image = [] →
        Answers (.flashImageRead image) s fun t => t.bit BOOT_STAT_FLASH = true ∧
          t.get BOOT_STAT_ERR = 3 ∧ t.bit FAULT_CAUSE_BOOT_FAIL = true ∧ t.unitState = usFault) ∧
      (image = [0x72640001, 0, 0, crc32 [0x72640001, 0, 0]] →
        Answers (.flashImageRead image) s fun t =>
          t.bit BOOT_STAT_FLASH = true ∧ t.get BOOT_STAT_ERR = s.get BOOT_STAT_ERR ∧
          t.unitState = usReady))
end

