-- ==== Sys2Proof/WellFormed.lean ====
section
/-! DEFINITION. Which commands are well formed: what the rules say a command, a record, a frame or a
measured value can be at all. The machine itself is total and takes any command. -/
namespace Sys2Proof

/-- A command's parameter words are at most 131,071 (R423). -/
def Cmd.wf (c : Cmd) : Bool := c.p.length ≤ 131071

/-- A record has at most 1,023 payload words (R353). -/
def Rec.wf (r : Rec) : Bool := r.payload.length ≤ 1023

/-- Units below the head in a depth-first order: each follows its parent or a unit of its parent's
subtree, behind F0, F1 or F2. The head puts siblings in the order of their ports (R23,
`Machine.numberingOrder`). -/
def treeWf : Nat → List TreeUnit → Bool
  | _, [] => true
  | d, u :: l => decide (1 ≤ u.depth.toNat) && decide (u.depth.toNat ≤ d + 1) && u.port != 0 &&
      treeWf u.depth.toNat l

/-- A packet is C0 and LEN parameter words (R421). -/
def packetWf : List W64 → Bool
  | [] => false
  | c0 :: p => c0.toNat % 2 ^ 16 == p.length

/-- Records and packets of a frame (R395). -/
def Frame.wf (f : Frame) : Bool := f.recs.all Rec.wf && f.cmds.all packetWf

/-- A slot write names one of the 76 slots (R303). -/
def LoopCopy.wf (l : LoopCopy) : Bool := l.slots.all (fun e => decide (e.1.1.toNat < 76))

/-- The registers of a front-end write: FA_CFG of a channel, FA_GCFG (R129). -/
def frontEndAddr (a : Nat) : Bool :=
  a == 0x90000 || (decide (0x91000 ≤ a) && decide (a < 0x91400) && a % 0x20 == 0)

/-- The claim registers (R45). -/
def claimAddr (a : Nat) : Bool := decide (0x20 ≤ a) && decide (a < 0x30) && a % 4 == 0

/-- PS_CFG, PS_EXC and PS_AUX of a port, and the PC_PORT that holds RATE (R249). -/
def portAddr (a : Nat) : Bool :=
  (decide (0xF1000 ≤ a) && decide (a < 0xF1400) && a % 4 == 0 && decide (a % 0x40 < 0xC)) ||
    (decide (0x100800 ≤ a) && decide (a < 0x100A00) && a % 0x20 == 0)

/-- A pulse of RESETN that R493 allows: at most t_RF, or at least t_RW. -/
def resetPulse (ns : Nat) : Bool := decide (ns ≤ 100) || decide (1000 ≤ ns)

/-- What makes a command well formed. -/
def Instr.wf : Instr → Bool
  | .ident c | .negotiate c | .ping c | .regRead c | .regWrite c | .regModify c | .readBlock c
  | .writeBlock c | .modeSet c | .modeQuery c | .domain c | .resetUnit c | .qRead c | .qWrite c
  | .qConfig c | .qFlush c | .arm c | .fire c | .disarm c | .grade c | .calZero c | .calFull c
  | .linkAlign c | .coeffWrite c | .loopFreeze c | .loopRelease c | .vecLoad c | .seqStart c
  | .seqStop c | .seqBranch c | .pair c | .yield c | .reclaim c | .markerFrame c | .trialLink c
  | .trialEvent c | .trialEcc c | .trialCause c | .trialClear c => c.wf
  | .enumerate c found => c.wf && treeWf 0 found
  | .faFrontEndWrite a _ => frontEndAddr a.toNat
  | .claimWrite a _ => claimAddr a.toNat
  | .portSettingsWrite a _ => portAddr a.toNat
  | .flashCommandDone data => data.length ≤ 256
  | .commandPacket words found => packetWf words && treeWf 0 found
  | .groupReplyArrival r => r.wf && r.type == 8
  | .sewingArrival (.child _ r) => r.wf
  | .samplingInstant _ codes => codes.length == 32
  | .frameReceived _ f => f.wf
  | .copyComplete c => c.loops.all (fun e => e.2.wf)
  | .calibrationEnd meas => meas.all (fun r => decide (r.2.length ≤ 256))
  | .boostTargetAdapt reports _ => reports.length ≤ 8
  | .memoryTestDone failing => failing.toNat ≤ 32768
  | .resetnLow ns => resetPulse ns.toNat
  | .trialCauseEnd | .registerWrite .. | .tsyncArm .. | .spineRefWrite .. | .strb .. | .patCalStart ..
  | .psFaultClear .. | .pcUrg .. | .pcLcommit .. | .pcIlvWrite .. | .aoCfgWrite .. | .aoDataWrite ..
  | .lsFaultClear .. | .bstRestart .. | .lpRetest .. | .patchEnable .. | .gxRetrain .. | .mflGo ..
  | .maintWrite .. | .maintRead .. | .tapInstruction .. | .packetTimeout | .groupMergeTimeout ..
  | .pendingReply .. | .watchdogTimeout | .modeApplyTick | .modeDrainEnd .. | .paceWindowEnd ..
  | .pllLock | .pllLockLoss | .tickWrap | .periodicMarker | .exchangeSend .. | .timeTransferMarker ..
  | .stepApply | .referenceLost | .referenceQualified | .tsyncEdge .. | .lrefLost | .lrefQualified
  | .leadingEdge .. | .intervalOverflow .. | .releaseCrossing .. | .hitRelease .. | .hitAssemble ..
  | .hitBlockClose .. | .injectionAttempt .. | .gradeSample .. | .tableSwap .. | .gradeStale ..
  | .periodicResetDue .. | .nearRailResetDue .. | .deferredResetFire .. | .deferLimit ..
  | .resetStart .. | .resetEnd .. | .clipSample .. | .matchOkChange .. | .conditionMet ..
  | .armMarker .. | .armAck .. | .armTickReached | .armReply | .fireMarker .. | .fireDecide
  | .disarmMarker .. | .disarmEffect | .cutComplete .. | .captureOverflow .. | .triginEdge ..
  | .trigoutStart | .trigoutEnd | .sequenceStart | .vectorIssue | .vectorStart | .pulseFall
  | .compareStrobe .. | .branchRequest .. | .starveResume | .stoppingExit | .gateClose .. | .scanTurn ..
  | .settlingEnd .. | .conversionComplete .. | .impedanceSlot ..
  | .impedanceResult .. | .calResultsDone .. | .calTimeout .. | .pwfPeriodStart .. | .loopSampleStart ..
  | .loopOutputLatch .. | .rangeChangeEnd .. | .clrnFall | .clrnRise | .hirngLoss | .hirngReturn
  | .aoCurrentLimit .. | .dimmingPeriodStart | .probeW1End .. | .probeW2End .. | .boostRegulate ..
  | .boostOvervoltage | .boostRetryEnd | .ltmpRead .. | .markerLatchEnd .. | .markerRefresh ..
  | .sewingArrival .own | .sewingSend | .sieveDecide .. | .sieveOverflow .. | .itemAppend ..
  | .producerUnblock .. | .itemRemove .. | .stallExpiry .. | .streamStallExpiry | .retestComplete ..
  | .partnerPatternLock .. | .trainComplete .. | .trainTimeout .. | .negotiationRound ..
  | .roundTimeout .. | .nakReceived .. | .frameSend .. | .linkMarkerReceived .. | .recoverComplete ..
  | .recoverTimeout .. | .idleEntry .. | .idleExit .. | .sourceRaise .. | .mirrorBoundary
  | .selfDiagnosisCause .. | .handoverNotice .. | .handoverBoundary | .guardSilent .. | .guardConflict
  | .outgoingGuardTimeout | .seekTimeout | .partnerJoin .. | .vsupRise .. | .vsupFall .. | .vsupWarn ..
  | .vsupHigh .. | .railOut .. | .railFault .. | .railReturn .. | .tempRead .. | .domainUp ..
  | .domainFail .. | .resetnRise | .romCheckDone .. | .flashImageRead .. | .slewComplete
  | .measurementAged | .unitReset | .domainOff .. | .guardEdgesReturn | .trainingWindowEnd ..
  | .groupDiscardEnd .. => true
  | .windowFault _ samples _ => samples.length == 8 && samples.all (fun v => v.length == 6)
  | .windowGlitch ⟨_, samples⟩ =>
    1 ≤ samples.length && samples.length ≤ 7 && samples.all (fun v => v.length == 6)

end Sys2Proof
end

