-- ==== Sys2Proof/Laws/PerInstr.lean ====
section
/-! SUPPORT. A law about every command as syntax: what a well-formed command carries is well formed,
a command of the protocol and records alike. -/
namespace Sys2Proof.Laws

/-- The protocol command that a command of the model carries. -/
def cmdOf : Instr → Option Cmd
  | .ident c | .negotiate c | .ping c | .regRead c | .regWrite c | .regModify c
  | .readBlock c | .writeBlock c | .modeSet c | .modeQuery c | .domain c | .resetUnit c
  | .qRead c | .qWrite c | .qConfig c | .qFlush c | .arm c | .fire c | .disarm c | .grade c
  | .calZero c | .calFull c | .linkAlign c | .coeffWrite c | .loopFreeze c | .loopRelease c
  | .vecLoad c | .seqStart c | .seqStop c | .seqBranch c | .pair c | .yield c | .reclaim c
  | .markerFrame c | .trialLink c | .trialEvent c | .trialEcc c | .trialCause c
  | .trialClear c => some c
  | .enumerate c _ => some c
  | _ => none

/-- The records that a command of the model carries. -/
def recsOf : Instr → List Rec
  | .groupReplyArrival r => [r]
  | .sewingArrival (.child _ r) => [r]
  | .frameReceived _ f => f.recs
  | _ => []

/-- What a well-formed command carries is well formed. -/
def Shape.Statement (i : Instr) : Prop :=
  i.wf = true → (∀ c, cmdOf i = some c → c.wf = true) ∧ ∀ r ∈ recsOf i, r.wf = true

/-- A command that carries neither. -/
theorem Shape.empty {i : Instr} (hc : cmdOf i = none) (hr : recsOf i = []) : Shape.Statement i := by
  intro _
  exact ⟨fun c h => by simp [hc] at h, fun r h => by simp [hr] at h⟩

namespace Shape

theorem ident (c : Cmd) : Statement (.ident c) := by
  intro h; exact ⟨(fun _ e => by cases e; exact h), fun _ h => nomatch h⟩
theorem negotiate (c : Cmd) : Statement (.negotiate c) := by
  intro h; exact ⟨(fun _ e => by cases e; exact h), fun _ h => nomatch h⟩
theorem enumerate (c : Cmd) (found : List TreeUnit) : Statement (.enumerate c found) := by
  intro h
  simp only [Instr.wf, Bool.and_eq_true] at h
  exact ⟨(fun _ e => by cases e; exact h.1), fun _ h => nomatch h⟩
theorem ping (c : Cmd) : Statement (.ping c) := by
  intro h; exact ⟨(fun _ e => by cases e; exact h), fun _ h => nomatch h⟩
theorem regRead (c : Cmd) : Statement (.regRead c) := by
  intro h; exact ⟨(fun _ e => by cases e; exact h), fun _ h => nomatch h⟩
theorem regWrite (c : Cmd) : Statement (.regWrite c) := by
  intro h; exact ⟨(fun _ e => by cases e; exact h), fun _ h => nomatch h⟩
theorem regModify (c : Cmd) : Statement (.regModify c) := by
  intro h; exact ⟨(fun _ e => by cases e; exact h), fun _ h => nomatch h⟩
theorem readBlock (c : Cmd) : Statement (.readBlock c) := by
  intro h; exact ⟨(fun _ e => by cases e; exact h), fun _ h => nomatch h⟩
theorem writeBlock (c : Cmd) : Statement (.writeBlock c) := by
  intro h; exact ⟨(fun _ e => by cases e; exact h), fun _ h => nomatch h⟩
theorem modeSet (c : Cmd) : Statement (.modeSet c) := by
  intro h; exact ⟨(fun _ e => by cases e; exact h), fun _ h => nomatch h⟩
theorem modeQuery (c : Cmd) : Statement (.modeQuery c) := by
  intro h; exact ⟨(fun _ e => by cases e; exact h), fun _ h => nomatch h⟩
theorem domain (c : Cmd) : Statement (.domain c) := by
  intro h; exact ⟨(fun _ e => by cases e; exact h), fun _ h => nomatch h⟩
theorem resetUnit (c : Cmd) : Statement (.resetUnit c) := by
  intro h; exact ⟨(fun _ e => by cases e; exact h), fun _ h => nomatch h⟩
theorem qRead (c : Cmd) : Statement (.qRead c) := by
  intro h; exact ⟨(fun _ e => by cases e; exact h), fun _ h => nomatch h⟩
theorem qWrite (c : Cmd) : Statement (.qWrite c) := by
  intro h; exact ⟨(fun _ e => by cases e; exact h), fun _ h => nomatch h⟩
theorem qConfig (c : Cmd) : Statement (.qConfig c) := by
  intro h; exact ⟨(fun _ e => by cases e; exact h), fun _ h => nomatch h⟩
theorem qFlush (c : Cmd) : Statement (.qFlush c) := by
  intro h; exact ⟨(fun _ e => by cases e; exact h), fun _ h => nomatch h⟩
theorem arm (c : Cmd) : Statement (.arm c) := by
  intro h; exact ⟨(fun _ e => by cases e; exact h), fun _ h => nomatch h⟩
theorem fire (c : Cmd) : Statement (.fire c) := by
  intro h; exact ⟨(fun _ e => by cases e; exact h), fun _ h => nomatch h⟩
theorem disarm (c : Cmd) : Statement (.disarm c) := by
  intro h; exact ⟨(fun _ e => by cases e; exact h), fun _ h => nomatch h⟩
theorem grade (c : Cmd) : Statement (.grade c) := by
  intro h; exact ⟨(fun _ e => by cases e; exact h), fun _ h => nomatch h⟩
theorem calZero (c : Cmd) : Statement (.calZero c) := by
  intro h; exact ⟨(fun _ e => by cases e; exact h), fun _ h => nomatch h⟩
theorem calFull (c : Cmd) : Statement (.calFull c) := by
  intro h; exact ⟨(fun _ e => by cases e; exact h), fun _ h => nomatch h⟩
theorem linkAlign (c : Cmd) : Statement (.linkAlign c) := by
  intro h; exact ⟨(fun _ e => by cases e; exact h), fun _ h => nomatch h⟩
theorem coeffWrite (c : Cmd) : Statement (.coeffWrite c) := by
  intro h; exact ⟨(fun _ e => by cases e; exact h), fun _ h => nomatch h⟩
theorem loopFreeze (c : Cmd) : Statement (.loopFreeze c) := by
  intro h; exact ⟨(fun _ e => by cases e; exact h), fun _ h => nomatch h⟩
theorem loopRelease (c : Cmd) : Statement (.loopRelease c) := by
  intro h; exact ⟨(fun _ e => by cases e; exact h), fun _ h => nomatch h⟩
theorem vecLoad (c : Cmd) : Statement (.vecLoad c) := by
  intro h; exact ⟨(fun _ e => by cases e; exact h), fun _ h => nomatch h⟩
theorem seqStart (c : Cmd) : Statement (.seqStart c) := by
  intro h; exact ⟨(fun _ e => by cases e; exact h), fun _ h => nomatch h⟩
theorem seqStop (c : Cmd) : Statement (.seqStop c) := by
  intro h; exact ⟨(fun _ e => by cases e; exact h), fun _ h => nomatch h⟩
theorem seqBranch (c : Cmd) : Statement (.seqBranch c) := by
  intro h; exact ⟨(fun _ e => by cases e; exact h), fun _ h => nomatch h⟩
theorem pair (c : Cmd) : Statement (.pair c) := by
  intro h; exact ⟨(fun _ e => by cases e; exact h), fun _ h => nomatch h⟩
theorem yield (c : Cmd) : Statement (.yield c) := by
  intro h; exact ⟨(fun _ e => by cases e; exact h), fun _ h => nomatch h⟩
theorem reclaim (c : Cmd) : Statement (.reclaim c) := by
  intro h; exact ⟨(fun _ e => by cases e; exact h), fun _ h => nomatch h⟩
theorem markerFrame (c : Cmd) : Statement (.markerFrame c) := by
  intro h; exact ⟨(fun _ e => by cases e; exact h), fun _ h => nomatch h⟩
theorem trialLink (c : Cmd) : Statement (.trialLink c) := by
  intro h; exact ⟨(fun _ e => by cases e; exact h), fun _ h => nomatch h⟩
theorem trialEvent (c : Cmd) : Statement (.trialEvent c) := by
  intro h; exact ⟨(fun _ e => by cases e; exact h), fun _ h => nomatch h⟩
theorem trialEcc (c : Cmd) : Statement (.trialEcc c) := by
  intro h; exact ⟨(fun _ e => by cases e; exact h), fun _ h => nomatch h⟩
theorem trialCause (c : Cmd) : Statement (.trialCause c) := by
  intro h; exact ⟨(fun _ e => by cases e; exact h), fun _ h => nomatch h⟩
theorem trialClear (c : Cmd) : Statement (.trialClear c) := by
  intro h; exact ⟨(fun _ e => by cases e; exact h), fun _ h => nomatch h⟩
theorem trialCauseEnd : Statement (.trialCauseEnd) := empty rfl rfl
theorem registerWrite (a : Addr) (v : W32) : Statement (.registerWrite a v) := empty rfl rfl
theorem tsyncArm (v : W32) : Statement (.tsyncArm v) := empty rfl rfl
theorem spineRefWrite (v : W32) : Statement (.spineRefWrite v) := empty rfl rfl
theorem strb (c : BitVec 5) (v : W32) : Statement (.strb c v) := empty rfl rfl
theorem faFrontEndWrite (a : Addr) (v : W32) : Statement (.faFrontEndWrite a v) := empty rfl rfl
theorem claimWrite (a : Addr) (v : W32) : Statement (.claimWrite a v) := empty rfl rfl
theorem patCalStart (v : W32) : Statement (.patCalStart v) := empty rfl rfl
theorem portSettingsWrite (a : Addr) (v : W32) : Statement (.portSettingsWrite a v) := empty rfl rfl
theorem psFaultClear (p : BitVec 4) (v : W32) : Statement (.psFaultClear p v) := empty rfl rfl
theorem pcUrg (v : W32) : Statement (.pcUrg v) := empty rfl rfl
theorem pcLcommit (v : W32) : Statement (.pcLcommit v) := empty rfl rfl
theorem pcIlvWrite (k : BitVec 3) (v : W32) : Statement (.pcIlvWrite k v) := empty rfl rfl
theorem aoCfgWrite (n : BitVec 5) (v : W32) : Statement (.aoCfgWrite n v) := empty rfl rfl
theorem aoDataWrite (n : BitVec 5) (v : W32) : Statement (.aoDataWrite n v) := empty rfl rfl
theorem lsFaultClear (n : BitVec 3) (v : W32) : Statement (.lsFaultClear n v) := empty rfl rfl
theorem bstRestart (v : W32) : Statement (.bstRestart v) := empty rfl rfl
theorem lpRetest (v : W32) : Statement (.lpRetest v) := empty rfl rfl
theorem patchEnable (v : W32) : Statement (.patchEnable v) := empty rfl rfl
theorem gxRetrain (n : Fin 5) (v : W32) : Statement (.gxRetrain n v) := empty rfl rfl
theorem mflGo (v : W32) : Statement (.mflGo v) := empty rfl rfl
theorem flashCommandDone (data : List (BitVec 8)) :
    Statement (.flashCommandDone data) := empty rfl rfl
theorem maintWrite (a : Addr) (v : W32) : Statement (.maintWrite a v) := empty rfl rfl
theorem maintRead (a : Addr) : Statement (.maintRead a) := empty rfl rfl
theorem tapInstruction (i : TapInstr) : Statement (.tapInstruction i) := empty rfl rfl
theorem commandPacket (words : List W64) (found : List TreeUnit) :
    Statement (.commandPacket words found) := empty rfl rfl
theorem packetTimeout : Statement (.packetTimeout) := empty rfl rfl
theorem groupReplyArrival (r : Rec) : Statement (.groupReplyArrival r) := by
  intro h
  simp only [Instr.wf, Bool.and_eq_true] at h
  exact ⟨(fun _ e => nomatch e), fun x hx => by simp [recsOf] at hx; exact hx ▸ h.1⟩
theorem groupMergeTimeout (tag : BitVec 16) : Statement (.groupMergeTimeout tag) := empty rfl rfl
theorem pendingReply (tag : BitVec 16) : Statement (.pendingReply tag) := empty rfl rfl
theorem watchdogTimeout : Statement (.watchdogTimeout) := empty rfl rfl
theorem modeApplyTick : Statement (.modeApplyTick) := empty rfl rfl
theorem modeDrainEnd (modes : BitVec 6) : Statement (.modeDrainEnd modes) := empty rfl rfl
theorem paceWindowEnd (c0 c1 c2 c3 : BitVec 16) :
    Statement (.paceWindowEnd c0 c1 c2 c3) := empty rfl rfl
theorem pllLock : Statement (.pllLock) := empty rfl rfl
theorem pllLockLoss : Statement (.pllLockLoss) := empty rfl rfl
theorem tickWrap : Statement (.tickWrap) := empty rfl rfl
theorem periodicMarker : Statement (.periodicMarker) := empty rfl rfl
theorem exchangeSend (n : Fin 5) : Statement (.exchangeSend n) := empty rfl rfl
theorem timeTransferMarker (n : Fin 5) (m : TimeMark) (arrTick : Tick) (arrFine : Fine) :
    Statement (.timeTransferMarker n m arrTick arrFine) := empty rfl rfl
theorem stepApply : Statement (.stepApply) := empty rfl rfl
theorem referenceLost : Statement (.referenceLost) := empty rfl rfl
theorem referenceQualified : Statement (.referenceQualified) := empty rfl rfl
theorem tsyncEdge (t : Tick) (f : Fine) (rising : Bool) :
    Statement (.tsyncEdge t f rising) := empty rfl rfl
theorem lrefLost : Statement (.lrefLost) := empty rfl rfl
theorem lrefQualified : Statement (.lrefQualified) := empty rfl rfl
theorem leadingEdge (c : BitVec 6) (t : Tick) (bin : BitVec 7) (falling : Bool) :
    Statement (.leadingEdge c t bin falling) := empty rfl rfl
theorem intervalOverflow (u : BitVec 4) : Statement (.intervalOverflow u) := empty rfl rfl
theorem releaseCrossing (c : BitVec 6) (t : Tick) (bin : BitVec 7) :
    Statement (.releaseCrossing c t bin) := empty rfl rfl
theorem hitRelease (c : BitVec 6) : Statement (.hitRelease c) := empty rfl rfl
theorem hitAssemble (c : BitVec 6) : Statement (.hitAssemble c) := empty rfl rfl
theorem hitBlockClose (c : BitVec 6) : Statement (.hitBlockClose c) := empty rfl rfl
theorem injectionAttempt (c : BitVec 6) (t : Tick) (bin : BitVec 7) :
    Statement (.injectionAttempt c t bin) := empty rfl rfl
theorem gradeSample (c : BitVec 6) : Statement (.gradeSample c) := empty rfl rfl
theorem tableSwap (c : BitVec 6) : Statement (.tableSwap c) := empty rfl rfl
theorem gradeStale (c : BitVec 6) : Statement (.gradeStale c) := empty rfl rfl
theorem periodicResetDue (c : BitVec 5) : Statement (.periodicResetDue c) := empty rfl rfl
theorem nearRailResetDue (c : BitVec 5) : Statement (.nearRailResetDue c) := empty rfl rfl
theorem deferredResetFire (c : BitVec 5) : Statement (.deferredResetFire c) := empty rfl rfl
theorem deferLimit (c : BitVec 5) : Statement (.deferLimit c) := empty rfl rfl
theorem resetStart (c : BitVec 5) : Statement (.resetStart c) := empty rfl rfl
theorem resetEnd (c : BitVec 5) : Statement (.resetEnd c) := empty rfl rfl
theorem clipSample (c : BitVec 5) : Statement (.clipSample c) := empty rfl rfl
theorem matchOkChange (k : BitVec 4) (ok : Bool) (est : W32) :
    Statement (.matchOkChange k ok est) := empty rfl rfl
theorem conditionMet (n : BitVec 5) (input : CondInput) :
    Statement (.conditionMet n input) := empty rfl rfl
theorem armMarker (m : TrigMark) (port : Fin 5) : Statement (.armMarker m port) := empty rfl rfl
theorem armAck (unit : BitVec 6) (a : ArmAck) : Statement (.armAck unit a) := empty rfl rfl
theorem armTickReached : Statement (.armTickReached) := empty rfl rfl
theorem armReply : Statement (.armReply) := empty rfl rfl
theorem fireMarker (m : TrigMark) (port : Fin 5) : Statement (.fireMarker m port) := empty rfl rfl
theorem fireDecide : Statement (.fireDecide) := empty rfl rfl
theorem disarmMarker (m : TrigMark) (port : Fin 5) :
    Statement (.disarmMarker m port) := empty rfl rfl
theorem disarmEffect : Statement (.disarmEffect) := empty rfl rfl
theorem cutComplete (c : BitVec 5) : Statement (.cutComplete c) := empty rfl rfl
theorem captureOverflow (c : BitVec 5) (cause : OvfCause) (delivered : BitVec 17) :
    Statement (.captureOverflow c cause delivered) := empty rfl rfl
theorem triginEdge (t : Tick) (rising : Bool) : Statement (.triginEdge t rising) := empty rfl rfl
theorem trigoutStart : Statement (.trigoutStart) := empty rfl rfl
theorem trigoutEnd : Statement (.trigoutEnd) := empty rfl rfl
theorem sequenceStart : Statement (.sequenceStart) := empty rfl rfl
theorem vectorIssue : Statement (.vectorIssue) := empty rfl rfl
theorem vectorStart : Statement (.vectorStart) := empty rfl rfl
theorem pulseFall : Statement (.pulseFall) := empty rfl rfl
theorem compareStrobe (levels : W32) : Statement (.compareStrobe levels) := empty rfl rfl
theorem branchRequest (i : BranchInput) : Statement (.branchRequest i) := empty rfl rfl
theorem starveResume : Statement (.starveResume) := empty rfl rfl
theorem stoppingExit : Statement (.stoppingExit) := empty rfl rfl
theorem calibrationEnd (meas : List (BitVec 5 × List (List Int))) :
    Statement (.calibrationEnd meas) := empty rfl rfl
theorem gateClose (d : BitVec 4) (g : BitVec 3) : Statement (.gateClose d g) := empty rfl rfl
theorem scanTurn (k : BitVec 3) : Statement (.scanTurn k) := empty rfl rfl
theorem settlingEnd (k : BitVec 3) : Statement (.settlingEnd k) := empty rfl rfl
theorem conversionComplete (k : BitVec 3) (helper : Bool) (raw : Int) :
    Statement (.conversionComplete k helper raw) := empty rfl rfl
theorem windowFault (p : BitVec 4) (samples : List (List Int)) (t : Tick) :
    Statement (.windowFault p samples t) := empty rfl rfl
theorem windowGlitch (g : PinSamples) : Statement (.windowGlitch g) := empty rfl rfl
theorem impedanceSlot (k : BitVec 3) (port : Bool) :
    Statement (.impedanceSlot k port) := empty rfl rfl
theorem impedanceResult (k : BitVec 3) (loop lead : BitVec 16) :
    Statement (.impedanceResult k loop lead) := empty rfl rfl
theorem calResultsDone (p : BitVec 4) : Statement (.calResultsDone p) := empty rfl rfl
theorem calTimeout (p : BitVec 4) : Statement (.calTimeout p) := empty rfl rfl
theorem pwfPeriodStart (n : BitVec 3) : Statement (.pwfPeriodStart n) := empty rfl rfl
theorem loopSampleStart (m : BitVec 4) : Statement (.loopSampleStart m) := empty rfl rfl
theorem loopOutputLatch (m : BitVec 4) : Statement (.loopOutputLatch m) := empty rfl rfl
theorem rangeChangeEnd (n : BitVec 5) : Statement (.rangeChangeEnd n) := empty rfl rfl
theorem clrnFall : Statement (.clrnFall) := empty rfl rfl
theorem clrnRise : Statement (.clrnRise) := empty rfl rfl
theorem hirngLoss : Statement (.hirngLoss) := empty rfl rfl
theorem hirngReturn : Statement (.hirngReturn) := empty rfl rfl
theorem aoCurrentLimit (n : BitVec 5) : Statement (.aoCurrentLimit n) := empty rfl rfl
theorem dimmingPeriodStart : Statement (.dimmingPeriodStart) := empty rfl rfl
theorem probeW1End (n : BitVec 3) (sink : BitVec 18) (nearLower nearUpper : Bool) :
    Statement (.probeW1End n sink nearLower nearUpper) := empty rfl rfl
theorem probeW2End (n : BitVec 3) (pinLow : Bool) :
    Statement (.probeW2End n pinLow) := empty rfl rfl
theorem boostRegulate (vout : BitVec 8) : Statement (.boostRegulate vout) := empty rfl rfl
theorem boostOvervoltage : Statement (.boostOvervoltage) := empty rfl rfl
theorem boostRetryEnd : Statement (.boostRetryEnd) := empty rfl rfl
theorem boostTargetAdapt (reports : List (BitVec 3 × BitVec 8)) (vout : BitVec 8) :
    Statement (.boostTargetAdapt reports vout) := empty rfl rfl
theorem ltmpRead (code : BitVec 10) : Statement (.ltmpRead code) := empty rfl rfl
theorem markerLatchEnd (c : Bool) : Statement (.markerLatchEnd c) := empty rfl rfl
theorem markerRefresh (c : Bool) : Statement (.markerRefresh c) := empty rfl rfl
theorem sewingArrival (src : SewFrom) : Statement (.sewingArrival src) := by
  intro h; cases src
  all_goals simp_all [Instr.wf, recsOf, cmdOf]
theorem sewingSend : Statement (.sewingSend) := empty rfl rfl
theorem sieveDecide (c : BitVec 5) : Statement (.sieveDecide c) := empty rfl rfl
theorem sieveOverflow (c : BitVec 5) (cause : OvfCause) :
    Statement (.sieveOverflow c cause) := empty rfl rfl
theorem itemAppend (q : BitVec 8) (words : List W64) :
    Statement (.itemAppend q words) := empty rfl rfl
theorem producerUnblock (q : BitVec 8) : Statement (.producerUnblock q) := empty rfl rfl
theorem itemRemove (q : BitVec 8) : Statement (.itemRemove q) := empty rfl rfl
theorem stallExpiry (q : BitVec 8) : Statement (.stallExpiry q) := empty rfl rfl
theorem streamStallExpiry : Statement (.streamStallExpiry) := empty rfl rfl
theorem retestComplete (passed : BitVec 16) : Statement (.retestComplete passed) := empty rfl rfl
theorem partnerPatternLock (n : Fin 5) (half : Bool) :
    Statement (.partnerPatternLock n half) := empty rfl rfl
theorem trainComplete (n : Fin 5) (lanes : BitVec 4) :
    Statement (.trainComplete n lanes) := empty rfl rfl
theorem trainTimeout (n : Fin 5) : Statement (.trainTimeout n) := empty rfl rfl
theorem negotiationRound (n : Fin 5) (r : Round) :
    Statement (.negotiationRound n r) := empty rfl rfl
theorem roundTimeout (n : Fin 5) : Statement (.roundTimeout n) := empty rfl rfl
theorem frameReceived (n : Fin 5) (f : Frame) : Statement (.frameReceived n f) := by
  intro h
  simp only [Instr.wf, Frame.wf, Bool.and_eq_true, List.all_eq_true] at h
  exact ⟨(fun _ e => nomatch e), fun r hr => h.1 r hr⟩
theorem nakReceived (n : Fin 5) (ack : BitVec 12) : Statement (.nakReceived n ack) := empty rfl rfl
theorem frameSend (n : Fin 5) : Statement (.frameSend n) := empty rfl rfl
theorem linkMarkerReceived (n : Fin 5) (m : TrigMark) (crcOk replayed : Bool) :
    Statement (.linkMarkerReceived n m crcOk replayed) := empty rfl rfl
theorem recoverComplete (n : Fin 5) (r : Round) : Statement (.recoverComplete n r) := empty rfl rfl
theorem recoverTimeout (n : Fin 5) : Statement (.recoverTimeout n) := empty rfl rfl
theorem idleEntry (n : Fin 5) : Statement (.idleEntry n) := empty rfl rfl
theorem idleExit (n : Fin 5) : Statement (.idleExit n) := empty rfl rfl
theorem sourceRaise (s : Fin 704) : Statement (.sourceRaise s) := empty rfl rfl
theorem mirrorBoundary : Statement (.mirrorBoundary) := empty rfl rfl
theorem copyComplete (c : MirrorCopy) : Statement (.copyComplete c) := empty rfl rfl
theorem selfDiagnosisCause (c : Cause) : Statement (.selfDiagnosisCause c) := empty rfl rfl
theorem handoverNotice (hb : Tick) (reclaim : Bool) (stat : W32) :
    Statement (.handoverNotice hb reclaim stat) := empty rfl rfl
theorem handoverBoundary : Statement (.handoverBoundary) := empty rfl rfl
theorem guardSilent (asserted : Bool) : Statement (.guardSilent asserted) := empty rfl rfl
theorem guardConflict : Statement (.guardConflict) := empty rfl rfl
theorem outgoingGuardTimeout : Statement (.outgoingGuardTimeout) := empty rfl rfl
theorem seekTimeout : Statement (.seekTimeout) := empty rfl rfl
theorem partnerJoin (stat : W32) : Statement (.partnerJoin stat) := empty rfl rfl
theorem vsupRise (tenMv : BitVec 16) : Statement (.vsupRise tenMv) := empty rfl rfl
theorem vsupFall (tenMv : BitVec 16) : Statement (.vsupFall tenMv) := empty rfl rfl
theorem vsupWarn (tenMv : BitVec 16) : Statement (.vsupWarn tenMv) := empty rfl rfl
theorem vsupHigh (tenMv : BitVec 16) : Statement (.vsupHigh tenMv) := empty rfl rfl
theorem railOut (k : Fin 7) : Statement (.railOut k) := empty rfl rfl
theorem railFault (k : Fin 7) : Statement (.railFault k) := empty rfl rfl
theorem railReturn (k : Fin 7) : Statement (.railReturn k) := empty rfl rfl
theorem tempRead (tcore tfield : BitVec 16) : Statement (.tempRead tcore tfield) := empty rfl rfl
theorem domainUp (d : Fin 27) : Statement (.domainUp d) := empty rfl rfl
theorem domainFail (d : Fin 27) : Statement (.domainFail d) := empty rfl rfl
theorem resetnLow (ns : BitVec 16) : Statement (.resetnLow ns) := empty rfl rfl
theorem resetnRise : Statement (.resetnRise) := empty rfl rfl
theorem romCheckDone (ok : Bool) : Statement (.romCheckDone ok) := empty rfl rfl
theorem memoryTestDone (failing : BitVec 16) : Statement (.memoryTestDone failing) := empty rfl rfl
theorem flashImageRead (image : List W32) : Statement (.flashImageRead image) := empty rfl rfl
theorem samplingInstant (t : Tick) (codes : List (BitVec 14)) :
    Statement (.samplingInstant t codes) := empty rfl rfl
theorem slewComplete : Statement (.slewComplete) := empty rfl rfl
theorem measurementAged : Statement (.measurementAged) := empty rfl rfl
theorem unitReset : Statement (.unitReset) := empty rfl rfl
theorem domainOff (d : Fin 27) : Statement (.domainOff d) := empty rfl rfl
theorem guardEdgesReturn : Statement (.guardEdgesReturn) := empty rfl rfl
theorem trainingWindowEnd (n : Fin 5) : Statement (.trainingWindowEnd n) := empty rfl rfl
theorem groupDiscardEnd (tag : BitVec 16) : Statement (.groupDiscardEnd tag) := empty rfl rfl

end Shape
end Sys2Proof.Laws
end

