-- ==== Sys2Proof/Laws/Sparse.lean ====
section
/-! SUPPORT. The laws of the sparse maps that hold the register file and the memories: a read after a
write, and the canonical form. -/
namespace Sys2Proof.Machine

variable {β : Type}

theorem sparseGet_drop_same (m : List (Nat × β)) (a : Nat) (d : β) :
    sparseGet (sparseDrop m a) a d = d := by
  induction m with
  | nil => rfl
  | cons c m ih =>
    by_cases h : c.1 = a
    · simpa [sparseDrop, h] using ih
    · have : sparseDrop (c :: m) a = c :: sparseDrop m a := by simp [sparseDrop, h]
      rw [this]; simpa [sparseGet, h] using ih

theorem sparseGet_drop_other (m : List (Nat × β)) {a b : Nat} (d : β) (h : a ≠ b) :
    sparseGet (sparseDrop m a) b d = sparseGet m b d := by
  induction m with
  | nil => rfl
  | cons c m ih =>
    by_cases hc : c.1 = a
    · have : sparseDrop (c :: m) a = sparseDrop m a := by simp [sparseDrop, hc]
      rw [this, ih]; simp [sparseGet, hc, h]
    · have : sparseDrop (c :: m) a = c :: sparseDrop m a := by simp [sparseDrop, hc]
      rw [this]; simp [sparseGet, ih]

theorem sparseGet_insert_other (m : List (Nat × β)) {a b : Nat} (v d : β) (h : a ≠ b) :
    sparseGet (sparseInsert m a v) b d = sparseGet m b d := by
  induction m with
  | nil => simp [sparseInsert, sparseGet, h]
  | cons c m ih =>
    unfold sparseInsert
    split
    · simp [sparseGet, h]
    · simp [sparseGet, ih]

theorem sparseGet_insert_same (m : List (Nat × β)) (a : Nat) (v d : β)
    (h : ∀ c ∈ m, c.1 ≠ a) : sparseGet (sparseInsert m a v) a d = v := by
  induction m with
  | nil => simp [sparseInsert, sparseGet]
  | cons c m ih =>
    unfold sparseInsert
    split
    · simp [sparseGet]
    · have h1 : c.1 ≠ a := h c (by simp)
      have h2 := ih (fun e he => h e (by simp [he]))
      simpa [sparseGet, h1] using h2

theorem sparseDrop_ne (m : List (Nat × β)) (a : Nat) : ∀ c ∈ sparseDrop m a, c.1 ≠ a := by
  intro c hc
  simpa using (List.mem_filter.mp hc).2

theorem sparseInsert_mem (m : List (Nat × β)) (a : Nat) (v : β) (c : Nat × β) :
    c ∈ sparseInsert m a v ↔ c = (a, v) ∨ c ∈ m := by
  induction m with
  | nil => simp [sparseInsert]
  | cons e m ih =>
    unfold sparseInsert
    split
    · simp
    · simp only [List.mem_cons, ih]
      exact or_left_comm

theorem sparseInsert_rising (m : List (Nat × β)) (a : Nat) (v : β)
    (h : (m.map (fun c => c.1)).Pairwise (· < ·)) (hn : ∀ c ∈ m, c.1 ≠ a) :
    ((sparseInsert m a v).map (fun c => c.1)).Pairwise (· < ·) := by
  induction m with
  | nil => simp [sparseInsert]
  | cons e m ih =>
    unfold sparseInsert
    simp only [List.map_cons, List.pairwise_cons] at h
    split
    · next hlt =>
      simp only [List.map_cons, List.pairwise_cons, List.mem_cons, forall_eq_or_imp]
      exact ⟨⟨hlt, fun x hx => Nat.lt_trans hlt (h.1 x hx)⟩, h.1, h.2⟩
    · next hlt =>
      simp only [List.map_cons, List.pairwise_cons]
      refine ⟨?_, ih h.2 (fun c hc => hn c (by simp [hc]))⟩
      intro x hx
      obtain ⟨c, hc, rfl⟩ := List.mem_map.mp hx
      rcases (sparseInsert_mem m a v c).mp hc with rfl | hc
      · have := hn e (by simp); simp only at *; omega
      · exact h.1 _ (List.mem_map.mpr ⟨c, hc, rfl⟩)

variable [DecidableEq β]

/-- What was written is read. -/
theorem sparseGet_put_same (m : List (Nat × β)) (a : Nat) (v d : β) :
    sparseGet (sparsePut m a v d) a d = v := by
  unfold sparsePut
  split
  · next h => rw [sparseGet_drop_same, h]
  · exact sparseGet_insert_same _ _ _ _ (sparseDrop_ne m a)

/-- A write leaves every other key alone. -/
theorem sparseGet_put_other (m : List (Nat × β)) {a b : Nat} (v d e : β) (h : a ≠ b) :
    sparseGet (sparsePut m a v d) b e = sparseGet m b e := by
  unfold sparsePut
  split
  · exact sparseGet_drop_other m e h
  · rw [sparseGet_insert_other _ _ _ h, sparseGet_drop_other m e h]

/-- The canonical form, said by its keys and entries. -/
theorem sparseOk_iff (d : Nat → β) (m : List (Nat × β)) :
    sparseOk d m = true ↔ (m.map (fun c => c.1)).Pairwise (· < ·) ∧ ∀ c ∈ m, c.2 ≠ d c.1 := by
  induction m with
  | nil => simp [sparseOk]
  | cons c m ih =>
    cases m with
    | nil => simp [sparseOk]
    | cons e m =>
      have step : sparseOk d (c :: e :: m) = true ↔
          c.2 ≠ d c.1 ∧ c.1 < e.1 ∧ sparseOk d (e :: m) = true := by
        simp [sparseOk, and_assoc]
      rw [step, ih]
      simp only [List.map_cons, List.pairwise_cons, List.mem_cons, forall_eq_or_imp]
      constructor
      · rintro ⟨h1, h2, ⟨h3, h4⟩, h5, h6⟩
        exact ⟨⟨⟨h2, fun x hx => Nat.lt_trans h2 (h3 x hx)⟩, h3, h4⟩, h1, h5, h6⟩
      · rintro ⟨⟨⟨h2, _⟩, h3, h4⟩, h1, h5, h6⟩
        exact ⟨h1, h2, ⟨h3, h4⟩, h5, h6⟩

theorem sparseOk_filter (d : Nat → β) (p : Nat × β → Bool) {m : List (Nat × β)}
    (h : sparseOk d m = true) : sparseOk d (m.filter p) = true := by
  rw [sparseOk_iff] at h ⊢
  refine ⟨?_, fun c hc => h.2 c (List.mem_filter.mp hc).1⟩
  exact h.1.sublist ((List.filter_sublist).map _)

/-- A write keeps the canonical form. -/
theorem sparseOk_put (d : Nat → β) {m : List (Nat × β)} (a : Nat) (v : β)
    (h : sparseOk d m = true) : sparseOk d (sparsePut m a v (d a)) = true := by
  have hd : sparseOk d (sparseDrop m a) = true := sparseOk_filter d _ h
  unfold sparsePut
  split
  · exact hd
  · next hv =>
    rw [sparseOk_iff] at hd ⊢
    refine ⟨sparseInsert_rising _ _ _ hd.1 (sparseDrop_ne m a), fun c hc => ?_⟩
    rcases (sparseInsert_mem _ _ _ _).mp hc with rfl | hc
    · exact hv
    · exact hd.2 c hc

end Sys2Proof.Machine
end

