-- ==== Sys2Proof/Laws/State.lean ====
section
/-! SUPPORT. One lemma for each update of the state and each of its parts: what the update makes of the
part. All hold by definition. -/
namespace Sys2Proof.Machine


/-! ### modTb -/

@[simp] theorem State.modTb_pending (s : State) (f : TimeBase → TimeBase) :
    (s.modTb f).pending = s.pending := rfl
@[simp] theorem State.modTb_regs (s : State) (f : TimeBase → TimeBase) :
    (s.modTb f).regs = s.regs := rfl
@[simp] theorem State.modTb_mem (s : State) (f : TimeBase → TimeBase) :
    (s.modTb f).mem = s.mem := rfl
@[simp] theorem State.modTb_tb (s : State) (f : TimeBase → TimeBase) :
    (s.modTb f).tb = f s.tb := rfl
@[simp] theorem State.modTb_ev (s : State) (f : TimeBase → TimeBase) :
    (s.modTb f).ev = s.ev := rfl
@[simp] theorem State.modTb_loam (s : State) (f : TimeBase → TimeBase) :
    (s.modTb f).loam = s.loam := rfl
@[simp] theorem State.modTb_sew (s : State) (f : TimeBase → TimeBase) :
    (s.modTb f).sew = s.sew := rfl
@[simp] theorem State.modTb_sieve (s : State) (f : TimeBase → TimeBase) :
    (s.modTb f).sieve = s.sieve := rfl
@[simp] theorem State.modTb_tk (s : State) (f : TimeBase → TimeBase) :
    (s.modTb f).tk = s.tk := rfl
@[simp] theorem State.modTb_iv (s : State) (f : TimeBase → TimeBase) :
    (s.modTb f).iv = s.iv := rfl
@[simp] theorem State.modTb_fa (s : State) (f : TimeBase → TimeBase) :
    (s.modTb f).fa = s.fa := rfl
@[simp] theorem State.modTb_trg (s : State) (f : TimeBase → TimeBase) :
    (s.modTb f).trg = s.trg := rfl
@[simp] theorem State.modTb_pat (s : State) (f : TimeBase → TimeBase) :
    (s.modTb f).pat = s.pat := rfl
@[simp] theorem State.modTb_dm (s : State) (f : TimeBase → TimeBase) :
    (s.modTb f).dm = s.dm := rfl
@[simp] theorem State.modTb_sp (s : State) (f : TimeBase → TimeBase) :
    (s.modTb f).sp = s.sp := rfl
@[simp] theorem State.modTb_pc (s : State) (f : TimeBase → TimeBase) :
    (s.modTb f).pc = s.pc := rfl
@[simp] theorem State.modTb_ce (s : State) (f : TimeBase → TimeBase) :
    (s.modTb f).ce = s.ce := rfl
@[simp] theorem State.modTb_light (s : State) (f : TimeBase → TimeBase) :
    (s.modTb f).light = s.light := rfl
@[simp] theorem State.modTb_gx (s : State) (f : TimeBase → TimeBase) :
    (s.modTb f).gx = s.gx := rfl
@[simp] theorem State.modTb_atq (s : State) (f : TimeBase → TimeBase) :
    (s.modTb f).atq = s.atq := rfl
@[simp] theorem State.modTb_cus (s : State) (f : TimeBase → TimeBase) :
    (s.modTb f).cus = s.cus := rfl
@[simp] theorem State.modTb_pwr (s : State) (f : TimeBase → TimeBase) :
    (s.modTb f).pwr = s.pwr := rfl
@[simp] theorem State.modTb_pins (s : State) (f : TimeBase → TimeBase) :
    (s.modTb f).pins = s.pins := rfl

/-! ### modEv -/

@[simp] theorem State.modEv_pending (s : State) (f : Events → Events) :
    (s.modEv f).pending = s.pending := rfl
@[simp] theorem State.modEv_regs (s : State) (f : Events → Events) :
    (s.modEv f).regs = s.regs := rfl
@[simp] theorem State.modEv_mem (s : State) (f : Events → Events) :
    (s.modEv f).mem = s.mem := rfl
@[simp] theorem State.modEv_tb (s : State) (f : Events → Events) :
    (s.modEv f).tb = s.tb := rfl
@[simp] theorem State.modEv_ev (s : State) (f : Events → Events) :
    (s.modEv f).ev = f s.ev := rfl
@[simp] theorem State.modEv_loam (s : State) (f : Events → Events) :
    (s.modEv f).loam = s.loam := rfl
@[simp] theorem State.modEv_sew (s : State) (f : Events → Events) :
    (s.modEv f).sew = s.sew := rfl
@[simp] theorem State.modEv_sieve (s : State) (f : Events → Events) :
    (s.modEv f).sieve = s.sieve := rfl
@[simp] theorem State.modEv_tk (s : State) (f : Events → Events) :
    (s.modEv f).tk = s.tk := rfl
@[simp] theorem State.modEv_iv (s : State) (f : Events → Events) :
    (s.modEv f).iv = s.iv := rfl
@[simp] theorem State.modEv_fa (s : State) (f : Events → Events) :
    (s.modEv f).fa = s.fa := rfl
@[simp] theorem State.modEv_trg (s : State) (f : Events → Events) :
    (s.modEv f).trg = s.trg := rfl
@[simp] theorem State.modEv_pat (s : State) (f : Events → Events) :
    (s.modEv f).pat = s.pat := rfl
@[simp] theorem State.modEv_dm (s : State) (f : Events → Events) :
    (s.modEv f).dm = s.dm := rfl
@[simp] theorem State.modEv_sp (s : State) (f : Events → Events) :
    (s.modEv f).sp = s.sp := rfl
@[simp] theorem State.modEv_pc (s : State) (f : Events → Events) :
    (s.modEv f).pc = s.pc := rfl
@[simp] theorem State.modEv_ce (s : State) (f : Events → Events) :
    (s.modEv f).ce = s.ce := rfl
@[simp] theorem State.modEv_light (s : State) (f : Events → Events) :
    (s.modEv f).light = s.light := rfl
@[simp] theorem State.modEv_gx (s : State) (f : Events → Events) :
    (s.modEv f).gx = s.gx := rfl
@[simp] theorem State.modEv_atq (s : State) (f : Events → Events) :
    (s.modEv f).atq = s.atq := rfl
@[simp] theorem State.modEv_cus (s : State) (f : Events → Events) :
    (s.modEv f).cus = s.cus := rfl
@[simp] theorem State.modEv_pwr (s : State) (f : Events → Events) :
    (s.modEv f).pwr = s.pwr := rfl
@[simp] theorem State.modEv_pins (s : State) (f : Events → Events) :
    (s.modEv f).pins = s.pins := rfl

/-! ### modLoam -/

@[simp] theorem State.modLoam_pending (s : State) (f : Loam → Loam) :
    (s.modLoam f).pending = s.pending := rfl
@[simp] theorem State.modLoam_regs (s : State) (f : Loam → Loam) :
    (s.modLoam f).regs = s.regs := rfl
@[simp] theorem State.modLoam_mem (s : State) (f : Loam → Loam) :
    (s.modLoam f).mem = s.mem := rfl
@[simp] theorem State.modLoam_tb (s : State) (f : Loam → Loam) :
    (s.modLoam f).tb = s.tb := rfl
@[simp] theorem State.modLoam_ev (s : State) (f : Loam → Loam) :
    (s.modLoam f).ev = s.ev := rfl
@[simp] theorem State.modLoam_loam (s : State) (f : Loam → Loam) :
    (s.modLoam f).loam = f s.loam := rfl
@[simp] theorem State.modLoam_sew (s : State) (f : Loam → Loam) :
    (s.modLoam f).sew = s.sew := rfl
@[simp] theorem State.modLoam_sieve (s : State) (f : Loam → Loam) :
    (s.modLoam f).sieve = s.sieve := rfl
@[simp] theorem State.modLoam_tk (s : State) (f : Loam → Loam) :
    (s.modLoam f).tk = s.tk := rfl
@[simp] theorem State.modLoam_iv (s : State) (f : Loam → Loam) :
    (s.modLoam f).iv = s.iv := rfl
@[simp] theorem State.modLoam_fa (s : State) (f : Loam → Loam) :
    (s.modLoam f).fa = s.fa := rfl
@[simp] theorem State.modLoam_trg (s : State) (f : Loam → Loam) :
    (s.modLoam f).trg = s.trg := rfl
@[simp] theorem State.modLoam_pat (s : State) (f : Loam → Loam) :
    (s.modLoam f).pat = s.pat := rfl
@[simp] theorem State.modLoam_dm (s : State) (f : Loam → Loam) :
    (s.modLoam f).dm = s.dm := rfl
@[simp] theorem State.modLoam_sp (s : State) (f : Loam → Loam) :
    (s.modLoam f).sp = s.sp := rfl
@[simp] theorem State.modLoam_pc (s : State) (f : Loam → Loam) :
    (s.modLoam f).pc = s.pc := rfl
@[simp] theorem State.modLoam_ce (s : State) (f : Loam → Loam) :
    (s.modLoam f).ce = s.ce := rfl
@[simp] theorem State.modLoam_light (s : State) (f : Loam → Loam) :
    (s.modLoam f).light = s.light := rfl
@[simp] theorem State.modLoam_gx (s : State) (f : Loam → Loam) :
    (s.modLoam f).gx = s.gx := rfl
@[simp] theorem State.modLoam_atq (s : State) (f : Loam → Loam) :
    (s.modLoam f).atq = s.atq := rfl
@[simp] theorem State.modLoam_cus (s : State) (f : Loam → Loam) :
    (s.modLoam f).cus = s.cus := rfl
@[simp] theorem State.modLoam_pwr (s : State) (f : Loam → Loam) :
    (s.modLoam f).pwr = s.pwr := rfl
@[simp] theorem State.modLoam_pins (s : State) (f : Loam → Loam) :
    (s.modLoam f).pins = s.pins := rfl

/-! ### modSew -/

@[simp] theorem State.modSew_pending (s : State) (f : Sewing → Sewing) :
    (s.modSew f).pending = s.pending := rfl
@[simp] theorem State.modSew_regs (s : State) (f : Sewing → Sewing) :
    (s.modSew f).regs = s.regs := rfl
@[simp] theorem State.modSew_mem (s : State) (f : Sewing → Sewing) :
    (s.modSew f).mem = s.mem := rfl
@[simp] theorem State.modSew_tb (s : State) (f : Sewing → Sewing) :
    (s.modSew f).tb = s.tb := rfl
@[simp] theorem State.modSew_ev (s : State) (f : Sewing → Sewing) :
    (s.modSew f).ev = s.ev := rfl
@[simp] theorem State.modSew_loam (s : State) (f : Sewing → Sewing) :
    (s.modSew f).loam = s.loam := rfl
@[simp] theorem State.modSew_sew (s : State) (f : Sewing → Sewing) :
    (s.modSew f).sew = f s.sew := rfl
@[simp] theorem State.modSew_sieve (s : State) (f : Sewing → Sewing) :
    (s.modSew f).sieve = s.sieve := rfl
@[simp] theorem State.modSew_tk (s : State) (f : Sewing → Sewing) :
    (s.modSew f).tk = s.tk := rfl
@[simp] theorem State.modSew_iv (s : State) (f : Sewing → Sewing) :
    (s.modSew f).iv = s.iv := rfl
@[simp] theorem State.modSew_fa (s : State) (f : Sewing → Sewing) :
    (s.modSew f).fa = s.fa := rfl
@[simp] theorem State.modSew_trg (s : State) (f : Sewing → Sewing) :
    (s.modSew f).trg = s.trg := rfl
@[simp] theorem State.modSew_pat (s : State) (f : Sewing → Sewing) :
    (s.modSew f).pat = s.pat := rfl
@[simp] theorem State.modSew_dm (s : State) (f : Sewing → Sewing) :
    (s.modSew f).dm = s.dm := rfl
@[simp] theorem State.modSew_sp (s : State) (f : Sewing → Sewing) :
    (s.modSew f).sp = s.sp := rfl
@[simp] theorem State.modSew_pc (s : State) (f : Sewing → Sewing) :
    (s.modSew f).pc = s.pc := rfl
@[simp] theorem State.modSew_ce (s : State) (f : Sewing → Sewing) :
    (s.modSew f).ce = s.ce := rfl
@[simp] theorem State.modSew_light (s : State) (f : Sewing → Sewing) :
    (s.modSew f).light = s.light := rfl
@[simp] theorem State.modSew_gx (s : State) (f : Sewing → Sewing) :
    (s.modSew f).gx = s.gx := rfl
@[simp] theorem State.modSew_atq (s : State) (f : Sewing → Sewing) :
    (s.modSew f).atq = s.atq := rfl
@[simp] theorem State.modSew_cus (s : State) (f : Sewing → Sewing) :
    (s.modSew f).cus = s.cus := rfl
@[simp] theorem State.modSew_pwr (s : State) (f : Sewing → Sewing) :
    (s.modSew f).pwr = s.pwr := rfl
@[simp] theorem State.modSew_pins (s : State) (f : Sewing → Sewing) :
    (s.modSew f).pins = s.pins := rfl

/-! ### modTrg -/

@[simp] theorem State.modTrg_pending (s : State) (f : Trigger → Trigger) :
    (s.modTrg f).pending = s.pending := rfl
@[simp] theorem State.modTrg_regs (s : State) (f : Trigger → Trigger) :
    (s.modTrg f).regs = s.regs := rfl
@[simp] theorem State.modTrg_mem (s : State) (f : Trigger → Trigger) :
    (s.modTrg f).mem = s.mem := rfl
@[simp] theorem State.modTrg_tb (s : State) (f : Trigger → Trigger) :
    (s.modTrg f).tb = s.tb := rfl
@[simp] theorem State.modTrg_ev (s : State) (f : Trigger → Trigger) :
    (s.modTrg f).ev = s.ev := rfl
@[simp] theorem State.modTrg_loam (s : State) (f : Trigger → Trigger) :
    (s.modTrg f).loam = s.loam := rfl
@[simp] theorem State.modTrg_sew (s : State) (f : Trigger → Trigger) :
    (s.modTrg f).sew = s.sew := rfl
@[simp] theorem State.modTrg_sieve (s : State) (f : Trigger → Trigger) :
    (s.modTrg f).sieve = s.sieve := rfl
@[simp] theorem State.modTrg_tk (s : State) (f : Trigger → Trigger) :
    (s.modTrg f).tk = s.tk := rfl
@[simp] theorem State.modTrg_iv (s : State) (f : Trigger → Trigger) :
    (s.modTrg f).iv = s.iv := rfl
@[simp] theorem State.modTrg_fa (s : State) (f : Trigger → Trigger) :
    (s.modTrg f).fa = s.fa := rfl
@[simp] theorem State.modTrg_trg (s : State) (f : Trigger → Trigger) :
    (s.modTrg f).trg = f s.trg := rfl
@[simp] theorem State.modTrg_pat (s : State) (f : Trigger → Trigger) :
    (s.modTrg f).pat = s.pat := rfl
@[simp] theorem State.modTrg_dm (s : State) (f : Trigger → Trigger) :
    (s.modTrg f).dm = s.dm := rfl
@[simp] theorem State.modTrg_sp (s : State) (f : Trigger → Trigger) :
    (s.modTrg f).sp = s.sp := rfl
@[simp] theorem State.modTrg_pc (s : State) (f : Trigger → Trigger) :
    (s.modTrg f).pc = s.pc := rfl
@[simp] theorem State.modTrg_ce (s : State) (f : Trigger → Trigger) :
    (s.modTrg f).ce = s.ce := rfl
@[simp] theorem State.modTrg_light (s : State) (f : Trigger → Trigger) :
    (s.modTrg f).light = s.light := rfl
@[simp] theorem State.modTrg_gx (s : State) (f : Trigger → Trigger) :
    (s.modTrg f).gx = s.gx := rfl
@[simp] theorem State.modTrg_atq (s : State) (f : Trigger → Trigger) :
    (s.modTrg f).atq = s.atq := rfl
@[simp] theorem State.modTrg_cus (s : State) (f : Trigger → Trigger) :
    (s.modTrg f).cus = s.cus := rfl
@[simp] theorem State.modTrg_pwr (s : State) (f : Trigger → Trigger) :
    (s.modTrg f).pwr = s.pwr := rfl
@[simp] theorem State.modTrg_pins (s : State) (f : Trigger → Trigger) :
    (s.modTrg f).pins = s.pins := rfl

/-! ### modPat -/

@[simp] theorem State.modPat_pending (s : State) (f : Pattern → Pattern) :
    (s.modPat f).pending = s.pending := rfl
@[simp] theorem State.modPat_regs (s : State) (f : Pattern → Pattern) :
    (s.modPat f).regs = s.regs := rfl
@[simp] theorem State.modPat_mem (s : State) (f : Pattern → Pattern) :
    (s.modPat f).mem = s.mem := rfl
@[simp] theorem State.modPat_tb (s : State) (f : Pattern → Pattern) :
    (s.modPat f).tb = s.tb := rfl
@[simp] theorem State.modPat_ev (s : State) (f : Pattern → Pattern) :
    (s.modPat f).ev = s.ev := rfl
@[simp] theorem State.modPat_loam (s : State) (f : Pattern → Pattern) :
    (s.modPat f).loam = s.loam := rfl
@[simp] theorem State.modPat_sew (s : State) (f : Pattern → Pattern) :
    (s.modPat f).sew = s.sew := rfl
@[simp] theorem State.modPat_sieve (s : State) (f : Pattern → Pattern) :
    (s.modPat f).sieve = s.sieve := rfl
@[simp] theorem State.modPat_tk (s : State) (f : Pattern → Pattern) :
    (s.modPat f).tk = s.tk := rfl
@[simp] theorem State.modPat_iv (s : State) (f : Pattern → Pattern) :
    (s.modPat f).iv = s.iv := rfl
@[simp] theorem State.modPat_fa (s : State) (f : Pattern → Pattern) :
    (s.modPat f).fa = s.fa := rfl
@[simp] theorem State.modPat_trg (s : State) (f : Pattern → Pattern) :
    (s.modPat f).trg = s.trg := rfl
@[simp] theorem State.modPat_pat (s : State) (f : Pattern → Pattern) :
    (s.modPat f).pat = f s.pat := rfl
@[simp] theorem State.modPat_dm (s : State) (f : Pattern → Pattern) :
    (s.modPat f).dm = s.dm := rfl
@[simp] theorem State.modPat_sp (s : State) (f : Pattern → Pattern) :
    (s.modPat f).sp = s.sp := rfl
@[simp] theorem State.modPat_pc (s : State) (f : Pattern → Pattern) :
    (s.modPat f).pc = s.pc := rfl
@[simp] theorem State.modPat_ce (s : State) (f : Pattern → Pattern) :
    (s.modPat f).ce = s.ce := rfl
@[simp] theorem State.modPat_light (s : State) (f : Pattern → Pattern) :
    (s.modPat f).light = s.light := rfl
@[simp] theorem State.modPat_gx (s : State) (f : Pattern → Pattern) :
    (s.modPat f).gx = s.gx := rfl
@[simp] theorem State.modPat_atq (s : State) (f : Pattern → Pattern) :
    (s.modPat f).atq = s.atq := rfl
@[simp] theorem State.modPat_cus (s : State) (f : Pattern → Pattern) :
    (s.modPat f).cus = s.cus := rfl
@[simp] theorem State.modPat_pwr (s : State) (f : Pattern → Pattern) :
    (s.modPat f).pwr = s.pwr := rfl
@[simp] theorem State.modPat_pins (s : State) (f : Pattern → Pattern) :
    (s.modPat f).pins = s.pins := rfl

/-! ### modLight -/

@[simp] theorem State.modLight_pending (s : State) (f : Lighting → Lighting) :
    (s.modLight f).pending = s.pending := rfl
@[simp] theorem State.modLight_regs (s : State) (f : Lighting → Lighting) :
    (s.modLight f).regs = s.regs := rfl
@[simp] theorem State.modLight_mem (s : State) (f : Lighting → Lighting) :
    (s.modLight f).mem = s.mem := rfl
@[simp] theorem State.modLight_tb (s : State) (f : Lighting → Lighting) :
    (s.modLight f).tb = s.tb := rfl
@[simp] theorem State.modLight_ev (s : State) (f : Lighting → Lighting) :
    (s.modLight f).ev = s.ev := rfl
@[simp] theorem State.modLight_loam (s : State) (f : Lighting → Lighting) :
    (s.modLight f).loam = s.loam := rfl
@[simp] theorem State.modLight_sew (s : State) (f : Lighting → Lighting) :
    (s.modLight f).sew = s.sew := rfl
@[simp] theorem State.modLight_sieve (s : State) (f : Lighting → Lighting) :
    (s.modLight f).sieve = s.sieve := rfl
@[simp] theorem State.modLight_tk (s : State) (f : Lighting → Lighting) :
    (s.modLight f).tk = s.tk := rfl
@[simp] theorem State.modLight_iv (s : State) (f : Lighting → Lighting) :
    (s.modLight f).iv = s.iv := rfl
@[simp] theorem State.modLight_fa (s : State) (f : Lighting → Lighting) :
    (s.modLight f).fa = s.fa := rfl
@[simp] theorem State.modLight_trg (s : State) (f : Lighting → Lighting) :
    (s.modLight f).trg = s.trg := rfl
@[simp] theorem State.modLight_pat (s : State) (f : Lighting → Lighting) :
    (s.modLight f).pat = s.pat := rfl
@[simp] theorem State.modLight_dm (s : State) (f : Lighting → Lighting) :
    (s.modLight f).dm = s.dm := rfl
@[simp] theorem State.modLight_sp (s : State) (f : Lighting → Lighting) :
    (s.modLight f).sp = s.sp := rfl
@[simp] theorem State.modLight_pc (s : State) (f : Lighting → Lighting) :
    (s.modLight f).pc = s.pc := rfl
@[simp] theorem State.modLight_ce (s : State) (f : Lighting → Lighting) :
    (s.modLight f).ce = s.ce := rfl
@[simp] theorem State.modLight_light (s : State) (f : Lighting → Lighting) :
    (s.modLight f).light = f s.light := rfl
@[simp] theorem State.modLight_gx (s : State) (f : Lighting → Lighting) :
    (s.modLight f).gx = s.gx := rfl
@[simp] theorem State.modLight_atq (s : State) (f : Lighting → Lighting) :
    (s.modLight f).atq = s.atq := rfl
@[simp] theorem State.modLight_cus (s : State) (f : Lighting → Lighting) :
    (s.modLight f).cus = s.cus := rfl
@[simp] theorem State.modLight_pwr (s : State) (f : Lighting → Lighting) :
    (s.modLight f).pwr = s.pwr := rfl
@[simp] theorem State.modLight_pins (s : State) (f : Lighting → Lighting) :
    (s.modLight f).pins = s.pins := rfl

/-! ### modAtq -/

@[simp] theorem State.modAtq_pending (s : State) (f : Atesque → Atesque) :
    (s.modAtq f).pending = s.pending := rfl
@[simp] theorem State.modAtq_regs (s : State) (f : Atesque → Atesque) :
    (s.modAtq f).regs = s.regs := rfl
@[simp] theorem State.modAtq_mem (s : State) (f : Atesque → Atesque) :
    (s.modAtq f).mem = s.mem := rfl
@[simp] theorem State.modAtq_tb (s : State) (f : Atesque → Atesque) :
    (s.modAtq f).tb = s.tb := rfl
@[simp] theorem State.modAtq_ev (s : State) (f : Atesque → Atesque) :
    (s.modAtq f).ev = s.ev := rfl
@[simp] theorem State.modAtq_loam (s : State) (f : Atesque → Atesque) :
    (s.modAtq f).loam = s.loam := rfl
@[simp] theorem State.modAtq_sew (s : State) (f : Atesque → Atesque) :
    (s.modAtq f).sew = s.sew := rfl
@[simp] theorem State.modAtq_sieve (s : State) (f : Atesque → Atesque) :
    (s.modAtq f).sieve = s.sieve := rfl
@[simp] theorem State.modAtq_tk (s : State) (f : Atesque → Atesque) :
    (s.modAtq f).tk = s.tk := rfl
@[simp] theorem State.modAtq_iv (s : State) (f : Atesque → Atesque) :
    (s.modAtq f).iv = s.iv := rfl
@[simp] theorem State.modAtq_fa (s : State) (f : Atesque → Atesque) :
    (s.modAtq f).fa = s.fa := rfl
@[simp] theorem State.modAtq_trg (s : State) (f : Atesque → Atesque) :
    (s.modAtq f).trg = s.trg := rfl
@[simp] theorem State.modAtq_pat (s : State) (f : Atesque → Atesque) :
    (s.modAtq f).pat = s.pat := rfl
@[simp] theorem State.modAtq_dm (s : State) (f : Atesque → Atesque) :
    (s.modAtq f).dm = s.dm := rfl
@[simp] theorem State.modAtq_sp (s : State) (f : Atesque → Atesque) :
    (s.modAtq f).sp = s.sp := rfl
@[simp] theorem State.modAtq_pc (s : State) (f : Atesque → Atesque) :
    (s.modAtq f).pc = s.pc := rfl
@[simp] theorem State.modAtq_ce (s : State) (f : Atesque → Atesque) :
    (s.modAtq f).ce = s.ce := rfl
@[simp] theorem State.modAtq_light (s : State) (f : Atesque → Atesque) :
    (s.modAtq f).light = s.light := rfl
@[simp] theorem State.modAtq_gx (s : State) (f : Atesque → Atesque) :
    (s.modAtq f).gx = s.gx := rfl
@[simp] theorem State.modAtq_atq (s : State) (f : Atesque → Atesque) :
    (s.modAtq f).atq = f s.atq := rfl
@[simp] theorem State.modAtq_cus (s : State) (f : Atesque → Atesque) :
    (s.modAtq f).cus = s.cus := rfl
@[simp] theorem State.modAtq_pwr (s : State) (f : Atesque → Atesque) :
    (s.modAtq f).pwr = s.pwr := rfl
@[simp] theorem State.modAtq_pins (s : State) (f : Atesque → Atesque) :
    (s.modAtq f).pins = s.pins := rfl

/-! ### modCus -/

@[simp] theorem State.modCus_pending (s : State) (f : Custody → Custody) :
    (s.modCus f).pending = s.pending := rfl
@[simp] theorem State.modCus_regs (s : State) (f : Custody → Custody) :
    (s.modCus f).regs = s.regs := rfl
@[simp] theorem State.modCus_mem (s : State) (f : Custody → Custody) :
    (s.modCus f).mem = s.mem := rfl
@[simp] theorem State.modCus_tb (s : State) (f : Custody → Custody) :
    (s.modCus f).tb = s.tb := rfl
@[simp] theorem State.modCus_ev (s : State) (f : Custody → Custody) :
    (s.modCus f).ev = s.ev := rfl
@[simp] theorem State.modCus_loam (s : State) (f : Custody → Custody) :
    (s.modCus f).loam = s.loam := rfl
@[simp] theorem State.modCus_sew (s : State) (f : Custody → Custody) :
    (s.modCus f).sew = s.sew := rfl
@[simp] theorem State.modCus_sieve (s : State) (f : Custody → Custody) :
    (s.modCus f).sieve = s.sieve := rfl
@[simp] theorem State.modCus_tk (s : State) (f : Custody → Custody) :
    (s.modCus f).tk = s.tk := rfl
@[simp] theorem State.modCus_iv (s : State) (f : Custody → Custody) :
    (s.modCus f).iv = s.iv := rfl
@[simp] theorem State.modCus_fa (s : State) (f : Custody → Custody) :
    (s.modCus f).fa = s.fa := rfl
@[simp] theorem State.modCus_trg (s : State) (f : Custody → Custody) :
    (s.modCus f).trg = s.trg := rfl
@[simp] theorem State.modCus_pat (s : State) (f : Custody → Custody) :
    (s.modCus f).pat = s.pat := rfl
@[simp] theorem State.modCus_dm (s : State) (f : Custody → Custody) :
    (s.modCus f).dm = s.dm := rfl
@[simp] theorem State.modCus_sp (s : State) (f : Custody → Custody) :
    (s.modCus f).sp = s.sp := rfl
@[simp] theorem State.modCus_pc (s : State) (f : Custody → Custody) :
    (s.modCus f).pc = s.pc := rfl
@[simp] theorem State.modCus_ce (s : State) (f : Custody → Custody) :
    (s.modCus f).ce = s.ce := rfl
@[simp] theorem State.modCus_light (s : State) (f : Custody → Custody) :
    (s.modCus f).light = s.light := rfl
@[simp] theorem State.modCus_gx (s : State) (f : Custody → Custody) :
    (s.modCus f).gx = s.gx := rfl
@[simp] theorem State.modCus_atq (s : State) (f : Custody → Custody) :
    (s.modCus f).atq = s.atq := rfl
@[simp] theorem State.modCus_cus (s : State) (f : Custody → Custody) :
    (s.modCus f).cus = f s.cus := rfl
@[simp] theorem State.modCus_pwr (s : State) (f : Custody → Custody) :
    (s.modCus f).pwr = s.pwr := rfl
@[simp] theorem State.modCus_pins (s : State) (f : Custody → Custody) :
    (s.modCus f).pins = s.pins := rfl

/-! ### modPwr -/

@[simp] theorem State.modPwr_pending (s : State) (f : Power → Power) :
    (s.modPwr f).pending = s.pending := rfl
@[simp] theorem State.modPwr_regs (s : State) (f : Power → Power) :
    (s.modPwr f).regs = s.regs := rfl
@[simp] theorem State.modPwr_mem (s : State) (f : Power → Power) :
    (s.modPwr f).mem = s.mem := rfl
@[simp] theorem State.modPwr_tb (s : State) (f : Power → Power) :
    (s.modPwr f).tb = s.tb := rfl
@[simp] theorem State.modPwr_ev (s : State) (f : Power → Power) :
    (s.modPwr f).ev = s.ev := rfl
@[simp] theorem State.modPwr_loam (s : State) (f : Power → Power) :
    (s.modPwr f).loam = s.loam := rfl
@[simp] theorem State.modPwr_sew (s : State) (f : Power → Power) :
    (s.modPwr f).sew = s.sew := rfl
@[simp] theorem State.modPwr_sieve (s : State) (f : Power → Power) :
    (s.modPwr f).sieve = s.sieve := rfl
@[simp] theorem State.modPwr_tk (s : State) (f : Power → Power) :
    (s.modPwr f).tk = s.tk := rfl
@[simp] theorem State.modPwr_iv (s : State) (f : Power → Power) :
    (s.modPwr f).iv = s.iv := rfl
@[simp] theorem State.modPwr_fa (s : State) (f : Power → Power) :
    (s.modPwr f).fa = s.fa := rfl
@[simp] theorem State.modPwr_trg (s : State) (f : Power → Power) :
    (s.modPwr f).trg = s.trg := rfl
@[simp] theorem State.modPwr_pat (s : State) (f : Power → Power) :
    (s.modPwr f).pat = s.pat := rfl
@[simp] theorem State.modPwr_dm (s : State) (f : Power → Power) :
    (s.modPwr f).dm = s.dm := rfl
@[simp] theorem State.modPwr_sp (s : State) (f : Power → Power) :
    (s.modPwr f).sp = s.sp := rfl
@[simp] theorem State.modPwr_pc (s : State) (f : Power → Power) :
    (s.modPwr f).pc = s.pc := rfl
@[simp] theorem State.modPwr_ce (s : State) (f : Power → Power) :
    (s.modPwr f).ce = s.ce := rfl
@[simp] theorem State.modPwr_light (s : State) (f : Power → Power) :
    (s.modPwr f).light = s.light := rfl
@[simp] theorem State.modPwr_gx (s : State) (f : Power → Power) :
    (s.modPwr f).gx = s.gx := rfl
@[simp] theorem State.modPwr_atq (s : State) (f : Power → Power) :
    (s.modPwr f).atq = s.atq := rfl
@[simp] theorem State.modPwr_cus (s : State) (f : Power → Power) :
    (s.modPwr f).cus = s.cus := rfl
@[simp] theorem State.modPwr_pwr (s : State) (f : Power → Power) :
    (s.modPwr f).pwr = f s.pwr := rfl
@[simp] theorem State.modPwr_pins (s : State) (f : Power → Power) :
    (s.modPwr f).pins = s.pins := rfl

/-! ### modPins -/

@[simp] theorem State.modPins_pending (s : State) (f : Pins → Pins) :
    (s.modPins f).pending = s.pending := rfl
@[simp] theorem State.modPins_regs (s : State) (f : Pins → Pins) :
    (s.modPins f).regs = s.regs := rfl
@[simp] theorem State.modPins_mem (s : State) (f : Pins → Pins) :
    (s.modPins f).mem = s.mem := rfl
@[simp] theorem State.modPins_tb (s : State) (f : Pins → Pins) :
    (s.modPins f).tb = s.tb := rfl
@[simp] theorem State.modPins_ev (s : State) (f : Pins → Pins) :
    (s.modPins f).ev = s.ev := rfl
@[simp] theorem State.modPins_loam (s : State) (f : Pins → Pins) :
    (s.modPins f).loam = s.loam := rfl
@[simp] theorem State.modPins_sew (s : State) (f : Pins → Pins) :
    (s.modPins f).sew = s.sew := rfl
@[simp] theorem State.modPins_sieve (s : State) (f : Pins → Pins) :
    (s.modPins f).sieve = s.sieve := rfl
@[simp] theorem State.modPins_tk (s : State) (f : Pins → Pins) :
    (s.modPins f).tk = s.tk := rfl
@[simp] theorem State.modPins_iv (s : State) (f : Pins → Pins) :
    (s.modPins f).iv = s.iv := rfl
@[simp] theorem State.modPins_fa (s : State) (f : Pins → Pins) :
    (s.modPins f).fa = s.fa := rfl
@[simp] theorem State.modPins_trg (s : State) (f : Pins → Pins) :
    (s.modPins f).trg = s.trg := rfl
@[simp] theorem State.modPins_pat (s : State) (f : Pins → Pins) :
    (s.modPins f).pat = s.pat := rfl
@[simp] theorem State.modPins_dm (s : State) (f : Pins → Pins) :
    (s.modPins f).dm = s.dm := rfl
@[simp] theorem State.modPins_sp (s : State) (f : Pins → Pins) :
    (s.modPins f).sp = s.sp := rfl
@[simp] theorem State.modPins_pc (s : State) (f : Pins → Pins) :
    (s.modPins f).pc = s.pc := rfl
@[simp] theorem State.modPins_ce (s : State) (f : Pins → Pins) :
    (s.modPins f).ce = s.ce := rfl
@[simp] theorem State.modPins_light (s : State) (f : Pins → Pins) :
    (s.modPins f).light = s.light := rfl
@[simp] theorem State.modPins_gx (s : State) (f : Pins → Pins) :
    (s.modPins f).gx = s.gx := rfl
@[simp] theorem State.modPins_atq (s : State) (f : Pins → Pins) :
    (s.modPins f).atq = s.atq := rfl
@[simp] theorem State.modPins_cus (s : State) (f : Pins → Pins) :
    (s.modPins f).cus = s.cus := rfl
@[simp] theorem State.modPins_pwr (s : State) (f : Pins → Pins) :
    (s.modPins f).pwr = s.pwr := rfl
@[simp] theorem State.modPins_pins (s : State) (f : Pins → Pins) :
    (s.modPins f).pins = f s.pins := rfl

/-! ### modTk -/

@[simp] theorem State.modTk_pending (s : State) (k : Nat) (f : TkChan → TkChan) :
    (s.modTk k f).pending = s.pending := rfl
@[simp] theorem State.modTk_regs (s : State) (k : Nat) (f : TkChan → TkChan) :
    (s.modTk k f).regs = s.regs := rfl
@[simp] theorem State.modTk_mem (s : State) (k : Nat) (f : TkChan → TkChan) :
    (s.modTk k f).mem = s.mem := rfl
@[simp] theorem State.modTk_tb (s : State) (k : Nat) (f : TkChan → TkChan) :
    (s.modTk k f).tb = s.tb := rfl
@[simp] theorem State.modTk_ev (s : State) (k : Nat) (f : TkChan → TkChan) :
    (s.modTk k f).ev = s.ev := rfl
@[simp] theorem State.modTk_loam (s : State) (k : Nat) (f : TkChan → TkChan) :
    (s.modTk k f).loam = s.loam := rfl
@[simp] theorem State.modTk_sew (s : State) (k : Nat) (f : TkChan → TkChan) :
    (s.modTk k f).sew = s.sew := rfl
@[simp] theorem State.modTk_sieve (s : State) (k : Nat) (f : TkChan → TkChan) :
    (s.modTk k f).sieve = s.sieve := rfl
@[simp] theorem State.modTk_tk (s : State) (k : Nat) (f : TkChan → TkChan) :
    (s.modTk k f).tk = s.tk.modify k f := rfl
@[simp] theorem State.modTk_iv (s : State) (k : Nat) (f : TkChan → TkChan) :
    (s.modTk k f).iv = s.iv := rfl
@[simp] theorem State.modTk_fa (s : State) (k : Nat) (f : TkChan → TkChan) :
    (s.modTk k f).fa = s.fa := rfl
@[simp] theorem State.modTk_trg (s : State) (k : Nat) (f : TkChan → TkChan) :
    (s.modTk k f).trg = s.trg := rfl
@[simp] theorem State.modTk_pat (s : State) (k : Nat) (f : TkChan → TkChan) :
    (s.modTk k f).pat = s.pat := rfl
@[simp] theorem State.modTk_dm (s : State) (k : Nat) (f : TkChan → TkChan) :
    (s.modTk k f).dm = s.dm := rfl
@[simp] theorem State.modTk_sp (s : State) (k : Nat) (f : TkChan → TkChan) :
    (s.modTk k f).sp = s.sp := rfl
@[simp] theorem State.modTk_pc (s : State) (k : Nat) (f : TkChan → TkChan) :
    (s.modTk k f).pc = s.pc := rfl
@[simp] theorem State.modTk_ce (s : State) (k : Nat) (f : TkChan → TkChan) :
    (s.modTk k f).ce = s.ce := rfl
@[simp] theorem State.modTk_light (s : State) (k : Nat) (f : TkChan → TkChan) :
    (s.modTk k f).light = s.light := rfl
@[simp] theorem State.modTk_gx (s : State) (k : Nat) (f : TkChan → TkChan) :
    (s.modTk k f).gx = s.gx := rfl
@[simp] theorem State.modTk_atq (s : State) (k : Nat) (f : TkChan → TkChan) :
    (s.modTk k f).atq = s.atq := rfl
@[simp] theorem State.modTk_cus (s : State) (k : Nat) (f : TkChan → TkChan) :
    (s.modTk k f).cus = s.cus := rfl
@[simp] theorem State.modTk_pwr (s : State) (k : Nat) (f : TkChan → TkChan) :
    (s.modTk k f).pwr = s.pwr := rfl
@[simp] theorem State.modTk_pins (s : State) (k : Nat) (f : TkChan → TkChan) :
    (s.modTk k f).pins = s.pins := rfl

/-! ### modFa -/

@[simp] theorem State.modFa_pending (s : State) (k : Nat) (f : FaChan → FaChan) :
    (s.modFa k f).pending = s.pending := rfl
@[simp] theorem State.modFa_regs (s : State) (k : Nat) (f : FaChan → FaChan) :
    (s.modFa k f).regs = s.regs := rfl
@[simp] theorem State.modFa_mem (s : State) (k : Nat) (f : FaChan → FaChan) :
    (s.modFa k f).mem = s.mem := rfl
@[simp] theorem State.modFa_tb (s : State) (k : Nat) (f : FaChan → FaChan) :
    (s.modFa k f).tb = s.tb := rfl
@[simp] theorem State.modFa_ev (s : State) (k : Nat) (f : FaChan → FaChan) :
    (s.modFa k f).ev = s.ev := rfl
@[simp] theorem State.modFa_loam (s : State) (k : Nat) (f : FaChan → FaChan) :
    (s.modFa k f).loam = s.loam := rfl
@[simp] theorem State.modFa_sew (s : State) (k : Nat) (f : FaChan → FaChan) :
    (s.modFa k f).sew = s.sew := rfl
@[simp] theorem State.modFa_sieve (s : State) (k : Nat) (f : FaChan → FaChan) :
    (s.modFa k f).sieve = s.sieve := rfl
@[simp] theorem State.modFa_tk (s : State) (k : Nat) (f : FaChan → FaChan) :
    (s.modFa k f).tk = s.tk := rfl
@[simp] theorem State.modFa_iv (s : State) (k : Nat) (f : FaChan → FaChan) :
    (s.modFa k f).iv = s.iv := rfl
@[simp] theorem State.modFa_fa (s : State) (k : Nat) (f : FaChan → FaChan) :
    (s.modFa k f).fa = s.fa.modify k f := rfl
@[simp] theorem State.modFa_trg (s : State) (k : Nat) (f : FaChan → FaChan) :
    (s.modFa k f).trg = s.trg := rfl
@[simp] theorem State.modFa_pat (s : State) (k : Nat) (f : FaChan → FaChan) :
    (s.modFa k f).pat = s.pat := rfl
@[simp] theorem State.modFa_dm (s : State) (k : Nat) (f : FaChan → FaChan) :
    (s.modFa k f).dm = s.dm := rfl
@[simp] theorem State.modFa_sp (s : State) (k : Nat) (f : FaChan → FaChan) :
    (s.modFa k f).sp = s.sp := rfl
@[simp] theorem State.modFa_pc (s : State) (k : Nat) (f : FaChan → FaChan) :
    (s.modFa k f).pc = s.pc := rfl
@[simp] theorem State.modFa_ce (s : State) (k : Nat) (f : FaChan → FaChan) :
    (s.modFa k f).ce = s.ce := rfl
@[simp] theorem State.modFa_light (s : State) (k : Nat) (f : FaChan → FaChan) :
    (s.modFa k f).light = s.light := rfl
@[simp] theorem State.modFa_gx (s : State) (k : Nat) (f : FaChan → FaChan) :
    (s.modFa k f).gx = s.gx := rfl
@[simp] theorem State.modFa_atq (s : State) (k : Nat) (f : FaChan → FaChan) :
    (s.modFa k f).atq = s.atq := rfl
@[simp] theorem State.modFa_cus (s : State) (k : Nat) (f : FaChan → FaChan) :
    (s.modFa k f).cus = s.cus := rfl
@[simp] theorem State.modFa_pwr (s : State) (k : Nat) (f : FaChan → FaChan) :
    (s.modFa k f).pwr = s.pwr := rfl
@[simp] theorem State.modFa_pins (s : State) (k : Nat) (f : FaChan → FaChan) :
    (s.modFa k f).pins = s.pins := rfl

/-! ### modDm -/

@[simp] theorem State.modDm_pending (s : State) (k : Nat) (f : Demod → Demod) :
    (s.modDm k f).pending = s.pending := rfl
@[simp] theorem State.modDm_regs (s : State) (k : Nat) (f : Demod → Demod) :
    (s.modDm k f).regs = s.regs := rfl
@[simp] theorem State.modDm_mem (s : State) (k : Nat) (f : Demod → Demod) :
    (s.modDm k f).mem = s.mem := rfl
@[simp] theorem State.modDm_tb (s : State) (k : Nat) (f : Demod → Demod) :
    (s.modDm k f).tb = s.tb := rfl
@[simp] theorem State.modDm_ev (s : State) (k : Nat) (f : Demod → Demod) :
    (s.modDm k f).ev = s.ev := rfl
@[simp] theorem State.modDm_loam (s : State) (k : Nat) (f : Demod → Demod) :
    (s.modDm k f).loam = s.loam := rfl
@[simp] theorem State.modDm_sew (s : State) (k : Nat) (f : Demod → Demod) :
    (s.modDm k f).sew = s.sew := rfl
@[simp] theorem State.modDm_sieve (s : State) (k : Nat) (f : Demod → Demod) :
    (s.modDm k f).sieve = s.sieve := rfl
@[simp] theorem State.modDm_tk (s : State) (k : Nat) (f : Demod → Demod) :
    (s.modDm k f).tk = s.tk := rfl
@[simp] theorem State.modDm_iv (s : State) (k : Nat) (f : Demod → Demod) :
    (s.modDm k f).iv = s.iv := rfl
@[simp] theorem State.modDm_fa (s : State) (k : Nat) (f : Demod → Demod) :
    (s.modDm k f).fa = s.fa := rfl
@[simp] theorem State.modDm_trg (s : State) (k : Nat) (f : Demod → Demod) :
    (s.modDm k f).trg = s.trg := rfl
@[simp] theorem State.modDm_pat (s : State) (k : Nat) (f : Demod → Demod) :
    (s.modDm k f).pat = s.pat := rfl
@[simp] theorem State.modDm_dm (s : State) (k : Nat) (f : Demod → Demod) :
    (s.modDm k f).dm = s.dm.modify k f := rfl
@[simp] theorem State.modDm_sp (s : State) (k : Nat) (f : Demod → Demod) :
    (s.modDm k f).sp = s.sp := rfl
@[simp] theorem State.modDm_pc (s : State) (k : Nat) (f : Demod → Demod) :
    (s.modDm k f).pc = s.pc := rfl
@[simp] theorem State.modDm_ce (s : State) (k : Nat) (f : Demod → Demod) :
    (s.modDm k f).ce = s.ce := rfl
@[simp] theorem State.modDm_light (s : State) (k : Nat) (f : Demod → Demod) :
    (s.modDm k f).light = s.light := rfl
@[simp] theorem State.modDm_gx (s : State) (k : Nat) (f : Demod → Demod) :
    (s.modDm k f).gx = s.gx := rfl
@[simp] theorem State.modDm_atq (s : State) (k : Nat) (f : Demod → Demod) :
    (s.modDm k f).atq = s.atq := rfl
@[simp] theorem State.modDm_cus (s : State) (k : Nat) (f : Demod → Demod) :
    (s.modDm k f).cus = s.cus := rfl
@[simp] theorem State.modDm_pwr (s : State) (k : Nat) (f : Demod → Demod) :
    (s.modDm k f).pwr = s.pwr := rfl
@[simp] theorem State.modDm_pins (s : State) (k : Nat) (f : Demod → Demod) :
    (s.modDm k f).pins = s.pins := rfl

/-! ### modSp -/

@[simp] theorem State.modSp_pending (s : State) (k : Nat) (f : SpPort → SpPort) :
    (s.modSp k f).pending = s.pending := rfl
@[simp] theorem State.modSp_regs (s : State) (k : Nat) (f : SpPort → SpPort) :
    (s.modSp k f).regs = s.regs := rfl
@[simp] theorem State.modSp_mem (s : State) (k : Nat) (f : SpPort → SpPort) :
    (s.modSp k f).mem = s.mem := rfl
@[simp] theorem State.modSp_tb (s : State) (k : Nat) (f : SpPort → SpPort) :
    (s.modSp k f).tb = s.tb := rfl
@[simp] theorem State.modSp_ev (s : State) (k : Nat) (f : SpPort → SpPort) :
    (s.modSp k f).ev = s.ev := rfl
@[simp] theorem State.modSp_loam (s : State) (k : Nat) (f : SpPort → SpPort) :
    (s.modSp k f).loam = s.loam := rfl
@[simp] theorem State.modSp_sew (s : State) (k : Nat) (f : SpPort → SpPort) :
    (s.modSp k f).sew = s.sew := rfl
@[simp] theorem State.modSp_sieve (s : State) (k : Nat) (f : SpPort → SpPort) :
    (s.modSp k f).sieve = s.sieve := rfl
@[simp] theorem State.modSp_tk (s : State) (k : Nat) (f : SpPort → SpPort) :
    (s.modSp k f).tk = s.tk := rfl
@[simp] theorem State.modSp_iv (s : State) (k : Nat) (f : SpPort → SpPort) :
    (s.modSp k f).iv = s.iv := rfl
@[simp] theorem State.modSp_fa (s : State) (k : Nat) (f : SpPort → SpPort) :
    (s.modSp k f).fa = s.fa := rfl
@[simp] theorem State.modSp_trg (s : State) (k : Nat) (f : SpPort → SpPort) :
    (s.modSp k f).trg = s.trg := rfl
@[simp] theorem State.modSp_pat (s : State) (k : Nat) (f : SpPort → SpPort) :
    (s.modSp k f).pat = s.pat := rfl
@[simp] theorem State.modSp_dm (s : State) (k : Nat) (f : SpPort → SpPort) :
    (s.modSp k f).dm = s.dm := rfl
@[simp] theorem State.modSp_sp (s : State) (k : Nat) (f : SpPort → SpPort) :
    (s.modSp k f).sp = s.sp.modify k f := rfl
@[simp] theorem State.modSp_pc (s : State) (k : Nat) (f : SpPort → SpPort) :
    (s.modSp k f).pc = s.pc := rfl
@[simp] theorem State.modSp_ce (s : State) (k : Nat) (f : SpPort → SpPort) :
    (s.modSp k f).ce = s.ce := rfl
@[simp] theorem State.modSp_light (s : State) (k : Nat) (f : SpPort → SpPort) :
    (s.modSp k f).light = s.light := rfl
@[simp] theorem State.modSp_gx (s : State) (k : Nat) (f : SpPort → SpPort) :
    (s.modSp k f).gx = s.gx := rfl
@[simp] theorem State.modSp_atq (s : State) (k : Nat) (f : SpPort → SpPort) :
    (s.modSp k f).atq = s.atq := rfl
@[simp] theorem State.modSp_cus (s : State) (k : Nat) (f : SpPort → SpPort) :
    (s.modSp k f).cus = s.cus := rfl
@[simp] theorem State.modSp_pwr (s : State) (k : Nat) (f : SpPort → SpPort) :
    (s.modSp k f).pwr = s.pwr := rfl
@[simp] theorem State.modSp_pins (s : State) (k : Nat) (f : SpPort → SpPort) :
    (s.modSp k f).pins = s.pins := rfl

/-! ### modPc -/

@[simp] theorem State.modPc_pending (s : State) (k : Nat) (f : PcCore → PcCore) :
    (s.modPc k f).pending = s.pending := rfl
@[simp] theorem State.modPc_regs (s : State) (k : Nat) (f : PcCore → PcCore) :
    (s.modPc k f).regs = s.regs := rfl
@[simp] theorem State.modPc_mem (s : State) (k : Nat) (f : PcCore → PcCore) :
    (s.modPc k f).mem = s.mem := rfl
@[simp] theorem State.modPc_tb (s : State) (k : Nat) (f : PcCore → PcCore) :
    (s.modPc k f).tb = s.tb := rfl
@[simp] theorem State.modPc_ev (s : State) (k : Nat) (f : PcCore → PcCore) :
    (s.modPc k f).ev = s.ev := rfl
@[simp] theorem State.modPc_loam (s : State) (k : Nat) (f : PcCore → PcCore) :
    (s.modPc k f).loam = s.loam := rfl
@[simp] theorem State.modPc_sew (s : State) (k : Nat) (f : PcCore → PcCore) :
    (s.modPc k f).sew = s.sew := rfl
@[simp] theorem State.modPc_sieve (s : State) (k : Nat) (f : PcCore → PcCore) :
    (s.modPc k f).sieve = s.sieve := rfl
@[simp] theorem State.modPc_tk (s : State) (k : Nat) (f : PcCore → PcCore) :
    (s.modPc k f).tk = s.tk := rfl
@[simp] theorem State.modPc_iv (s : State) (k : Nat) (f : PcCore → PcCore) :
    (s.modPc k f).iv = s.iv := rfl
@[simp] theorem State.modPc_fa (s : State) (k : Nat) (f : PcCore → PcCore) :
    (s.modPc k f).fa = s.fa := rfl
@[simp] theorem State.modPc_trg (s : State) (k : Nat) (f : PcCore → PcCore) :
    (s.modPc k f).trg = s.trg := rfl
@[simp] theorem State.modPc_pat (s : State) (k : Nat) (f : PcCore → PcCore) :
    (s.modPc k f).pat = s.pat := rfl
@[simp] theorem State.modPc_dm (s : State) (k : Nat) (f : PcCore → PcCore) :
    (s.modPc k f).dm = s.dm := rfl
@[simp] theorem State.modPc_sp (s : State) (k : Nat) (f : PcCore → PcCore) :
    (s.modPc k f).sp = s.sp := rfl
@[simp] theorem State.modPc_pc (s : State) (k : Nat) (f : PcCore → PcCore) :
    (s.modPc k f).pc = s.pc.modify k f := rfl
@[simp] theorem State.modPc_ce (s : State) (k : Nat) (f : PcCore → PcCore) :
    (s.modPc k f).ce = s.ce := rfl
@[simp] theorem State.modPc_light (s : State) (k : Nat) (f : PcCore → PcCore) :
    (s.modPc k f).light = s.light := rfl
@[simp] theorem State.modPc_gx (s : State) (k : Nat) (f : PcCore → PcCore) :
    (s.modPc k f).gx = s.gx := rfl
@[simp] theorem State.modPc_atq (s : State) (k : Nat) (f : PcCore → PcCore) :
    (s.modPc k f).atq = s.atq := rfl
@[simp] theorem State.modPc_cus (s : State) (k : Nat) (f : PcCore → PcCore) :
    (s.modPc k f).cus = s.cus := rfl
@[simp] theorem State.modPc_pwr (s : State) (k : Nat) (f : PcCore → PcCore) :
    (s.modPc k f).pwr = s.pwr := rfl
@[simp] theorem State.modPc_pins (s : State) (k : Nat) (f : PcCore → PcCore) :
    (s.modPc k f).pins = s.pins := rfl

/-! ### modCe -/

@[simp] theorem State.modCe_pending (s : State) (k : Nat) (f : Loop → Loop) :
    (s.modCe k f).pending = s.pending := rfl
@[simp] theorem State.modCe_regs (s : State) (k : Nat) (f : Loop → Loop) :
    (s.modCe k f).regs = s.regs := rfl
@[simp] theorem State.modCe_mem (s : State) (k : Nat) (f : Loop → Loop) :
    (s.modCe k f).mem = s.mem := rfl
@[simp] theorem State.modCe_tb (s : State) (k : Nat) (f : Loop → Loop) :
    (s.modCe k f).tb = s.tb := rfl
@[simp] theorem State.modCe_ev (s : State) (k : Nat) (f : Loop → Loop) :
    (s.modCe k f).ev = s.ev := rfl
@[simp] theorem State.modCe_loam (s : State) (k : Nat) (f : Loop → Loop) :
    (s.modCe k f).loam = s.loam := rfl
@[simp] theorem State.modCe_sew (s : State) (k : Nat) (f : Loop → Loop) :
    (s.modCe k f).sew = s.sew := rfl
@[simp] theorem State.modCe_sieve (s : State) (k : Nat) (f : Loop → Loop) :
    (s.modCe k f).sieve = s.sieve := rfl
@[simp] theorem State.modCe_tk (s : State) (k : Nat) (f : Loop → Loop) :
    (s.modCe k f).tk = s.tk := rfl
@[simp] theorem State.modCe_iv (s : State) (k : Nat) (f : Loop → Loop) :
    (s.modCe k f).iv = s.iv := rfl
@[simp] theorem State.modCe_fa (s : State) (k : Nat) (f : Loop → Loop) :
    (s.modCe k f).fa = s.fa := rfl
@[simp] theorem State.modCe_trg (s : State) (k : Nat) (f : Loop → Loop) :
    (s.modCe k f).trg = s.trg := rfl
@[simp] theorem State.modCe_pat (s : State) (k : Nat) (f : Loop → Loop) :
    (s.modCe k f).pat = s.pat := rfl
@[simp] theorem State.modCe_dm (s : State) (k : Nat) (f : Loop → Loop) :
    (s.modCe k f).dm = s.dm := rfl
@[simp] theorem State.modCe_sp (s : State) (k : Nat) (f : Loop → Loop) :
    (s.modCe k f).sp = s.sp := rfl
@[simp] theorem State.modCe_pc (s : State) (k : Nat) (f : Loop → Loop) :
    (s.modCe k f).pc = s.pc := rfl
@[simp] theorem State.modCe_ce (s : State) (k : Nat) (f : Loop → Loop) :
    (s.modCe k f).ce = s.ce.modify k f := rfl
@[simp] theorem State.modCe_light (s : State) (k : Nat) (f : Loop → Loop) :
    (s.modCe k f).light = s.light := rfl
@[simp] theorem State.modCe_gx (s : State) (k : Nat) (f : Loop → Loop) :
    (s.modCe k f).gx = s.gx := rfl
@[simp] theorem State.modCe_atq (s : State) (k : Nat) (f : Loop → Loop) :
    (s.modCe k f).atq = s.atq := rfl
@[simp] theorem State.modCe_cus (s : State) (k : Nat) (f : Loop → Loop) :
    (s.modCe k f).cus = s.cus := rfl
@[simp] theorem State.modCe_pwr (s : State) (k : Nat) (f : Loop → Loop) :
    (s.modCe k f).pwr = s.pwr := rfl
@[simp] theorem State.modCe_pins (s : State) (k : Nat) (f : Loop → Loop) :
    (s.modCe k f).pins = s.pins := rfl

/-! ### modSv -/

@[simp] theorem State.modSv_pending (s : State) (k : Nat) (f : SieveChan → SieveChan) :
    (s.modSv k f).pending = s.pending := rfl
@[simp] theorem State.modSv_regs (s : State) (k : Nat) (f : SieveChan → SieveChan) :
    (s.modSv k f).regs = s.regs := rfl
@[simp] theorem State.modSv_mem (s : State) (k : Nat) (f : SieveChan → SieveChan) :
    (s.modSv k f).mem = s.mem := rfl
@[simp] theorem State.modSv_tb (s : State) (k : Nat) (f : SieveChan → SieveChan) :
    (s.modSv k f).tb = s.tb := rfl
@[simp] theorem State.modSv_ev (s : State) (k : Nat) (f : SieveChan → SieveChan) :
    (s.modSv k f).ev = s.ev := rfl
@[simp] theorem State.modSv_loam (s : State) (k : Nat) (f : SieveChan → SieveChan) :
    (s.modSv k f).loam = s.loam := rfl
@[simp] theorem State.modSv_sew (s : State) (k : Nat) (f : SieveChan → SieveChan) :
    (s.modSv k f).sew = s.sew := rfl
@[simp] theorem State.modSv_sieve (s : State) (k : Nat) (f : SieveChan → SieveChan) :
    (s.modSv k f).sieve = s.sieve.modify k f := rfl
@[simp] theorem State.modSv_tk (s : State) (k : Nat) (f : SieveChan → SieveChan) :
    (s.modSv k f).tk = s.tk := rfl
@[simp] theorem State.modSv_iv (s : State) (k : Nat) (f : SieveChan → SieveChan) :
    (s.modSv k f).iv = s.iv := rfl
@[simp] theorem State.modSv_fa (s : State) (k : Nat) (f : SieveChan → SieveChan) :
    (s.modSv k f).fa = s.fa := rfl
@[simp] theorem State.modSv_trg (s : State) (k : Nat) (f : SieveChan → SieveChan) :
    (s.modSv k f).trg = s.trg := rfl
@[simp] theorem State.modSv_pat (s : State) (k : Nat) (f : SieveChan → SieveChan) :
    (s.modSv k f).pat = s.pat := rfl
@[simp] theorem State.modSv_dm (s : State) (k : Nat) (f : SieveChan → SieveChan) :
    (s.modSv k f).dm = s.dm := rfl
@[simp] theorem State.modSv_sp (s : State) (k : Nat) (f : SieveChan → SieveChan) :
    (s.modSv k f).sp = s.sp := rfl
@[simp] theorem State.modSv_pc (s : State) (k : Nat) (f : SieveChan → SieveChan) :
    (s.modSv k f).pc = s.pc := rfl
@[simp] theorem State.modSv_ce (s : State) (k : Nat) (f : SieveChan → SieveChan) :
    (s.modSv k f).ce = s.ce := rfl
@[simp] theorem State.modSv_light (s : State) (k : Nat) (f : SieveChan → SieveChan) :
    (s.modSv k f).light = s.light := rfl
@[simp] theorem State.modSv_gx (s : State) (k : Nat) (f : SieveChan → SieveChan) :
    (s.modSv k f).gx = s.gx := rfl
@[simp] theorem State.modSv_atq (s : State) (k : Nat) (f : SieveChan → SieveChan) :
    (s.modSv k f).atq = s.atq := rfl
@[simp] theorem State.modSv_cus (s : State) (k : Nat) (f : SieveChan → SieveChan) :
    (s.modSv k f).cus = s.cus := rfl
@[simp] theorem State.modSv_pwr (s : State) (k : Nat) (f : SieveChan → SieveChan) :
    (s.modSv k f).pwr = s.pwr := rfl
@[simp] theorem State.modSv_pins (s : State) (k : Nat) (f : SieveChan → SieveChan) :
    (s.modSv k f).pins = s.pins := rfl

/-! ### modGx -/

@[simp] theorem State.modGx_pending (s : State) (k : Nat) (f : GxPort → GxPort) :
    (s.modGx k f).pending = s.pending := rfl
@[simp] theorem State.modGx_regs (s : State) (k : Nat) (f : GxPort → GxPort) :
    (s.modGx k f).regs = s.regs := rfl
@[simp] theorem State.modGx_mem (s : State) (k : Nat) (f : GxPort → GxPort) :
    (s.modGx k f).mem = s.mem := rfl
@[simp] theorem State.modGx_tb (s : State) (k : Nat) (f : GxPort → GxPort) :
    (s.modGx k f).tb = s.tb := rfl
@[simp] theorem State.modGx_ev (s : State) (k : Nat) (f : GxPort → GxPort) :
    (s.modGx k f).ev = s.ev := rfl
@[simp] theorem State.modGx_loam (s : State) (k : Nat) (f : GxPort → GxPort) :
    (s.modGx k f).loam = s.loam := rfl
@[simp] theorem State.modGx_sew (s : State) (k : Nat) (f : GxPort → GxPort) :
    (s.modGx k f).sew = s.sew := rfl
@[simp] theorem State.modGx_sieve (s : State) (k : Nat) (f : GxPort → GxPort) :
    (s.modGx k f).sieve = s.sieve := rfl
@[simp] theorem State.modGx_tk (s : State) (k : Nat) (f : GxPort → GxPort) :
    (s.modGx k f).tk = s.tk := rfl
@[simp] theorem State.modGx_iv (s : State) (k : Nat) (f : GxPort → GxPort) :
    (s.modGx k f).iv = s.iv := rfl
@[simp] theorem State.modGx_fa (s : State) (k : Nat) (f : GxPort → GxPort) :
    (s.modGx k f).fa = s.fa := rfl
@[simp] theorem State.modGx_trg (s : State) (k : Nat) (f : GxPort → GxPort) :
    (s.modGx k f).trg = s.trg := rfl
@[simp] theorem State.modGx_pat (s : State) (k : Nat) (f : GxPort → GxPort) :
    (s.modGx k f).pat = s.pat := rfl
@[simp] theorem State.modGx_dm (s : State) (k : Nat) (f : GxPort → GxPort) :
    (s.modGx k f).dm = s.dm := rfl
@[simp] theorem State.modGx_sp (s : State) (k : Nat) (f : GxPort → GxPort) :
    (s.modGx k f).sp = s.sp := rfl
@[simp] theorem State.modGx_pc (s : State) (k : Nat) (f : GxPort → GxPort) :
    (s.modGx k f).pc = s.pc := rfl
@[simp] theorem State.modGx_ce (s : State) (k : Nat) (f : GxPort → GxPort) :
    (s.modGx k f).ce = s.ce := rfl
@[simp] theorem State.modGx_light (s : State) (k : Nat) (f : GxPort → GxPort) :
    (s.modGx k f).light = s.light := rfl
@[simp] theorem State.modGx_gx (s : State) (k : Nat) (f : GxPort → GxPort) :
    (s.modGx k f).gx = s.gx.modify k f := rfl
@[simp] theorem State.modGx_atq (s : State) (k : Nat) (f : GxPort → GxPort) :
    (s.modGx k f).atq = s.atq := rfl
@[simp] theorem State.modGx_cus (s : State) (k : Nat) (f : GxPort → GxPort) :
    (s.modGx k f).cus = s.cus := rfl
@[simp] theorem State.modGx_pwr (s : State) (k : Nat) (f : GxPort → GxPort) :
    (s.modGx k f).pwr = s.pwr := rfl
@[simp] theorem State.modGx_pins (s : State) (k : Nat) (f : GxPort → GxPort) :
    (s.modGx k f).pins = s.pins := rfl

/-! ### wr -/

@[simp] theorem State.wr_pending (s : State) (a : Nat) (v : W32) :
    (s.wr a v).pending = s.pending := rfl
@[simp] theorem State.wr_regs (s : State) (a : Nat) (v : W32) :
    (s.wr a v).regs = sparsePut s.regs a v (resetWord a) := rfl
@[simp] theorem State.wr_mem (s : State) (a : Nat) (v : W32) :
    (s.wr a v).mem = s.mem := rfl
@[simp] theorem State.wr_tb (s : State) (a : Nat) (v : W32) :
    (s.wr a v).tb = s.tb := rfl
@[simp] theorem State.wr_ev (s : State) (a : Nat) (v : W32) :
    (s.wr a v).ev = s.ev := rfl
@[simp] theorem State.wr_loam (s : State) (a : Nat) (v : W32) :
    (s.wr a v).loam = s.loam := rfl
@[simp] theorem State.wr_sew (s : State) (a : Nat) (v : W32) :
    (s.wr a v).sew = s.sew := rfl
@[simp] theorem State.wr_sieve (s : State) (a : Nat) (v : W32) :
    (s.wr a v).sieve = s.sieve := rfl
@[simp] theorem State.wr_tk (s : State) (a : Nat) (v : W32) :
    (s.wr a v).tk = s.tk := rfl
@[simp] theorem State.wr_iv (s : State) (a : Nat) (v : W32) :
    (s.wr a v).iv = s.iv := rfl
@[simp] theorem State.wr_fa (s : State) (a : Nat) (v : W32) :
    (s.wr a v).fa = s.fa := rfl
@[simp] theorem State.wr_trg (s : State) (a : Nat) (v : W32) :
    (s.wr a v).trg = s.trg := rfl
@[simp] theorem State.wr_pat (s : State) (a : Nat) (v : W32) :
    (s.wr a v).pat = s.pat := rfl
@[simp] theorem State.wr_dm (s : State) (a : Nat) (v : W32) :
    (s.wr a v).dm = s.dm := rfl
@[simp] theorem State.wr_sp (s : State) (a : Nat) (v : W32) :
    (s.wr a v).sp = s.sp := rfl
@[simp] theorem State.wr_pc (s : State) (a : Nat) (v : W32) :
    (s.wr a v).pc = s.pc := rfl
@[simp] theorem State.wr_ce (s : State) (a : Nat) (v : W32) :
    (s.wr a v).ce = s.ce := rfl
@[simp] theorem State.wr_light (s : State) (a : Nat) (v : W32) :
    (s.wr a v).light = s.light := rfl
@[simp] theorem State.wr_gx (s : State) (a : Nat) (v : W32) :
    (s.wr a v).gx = s.gx := rfl
@[simp] theorem State.wr_atq (s : State) (a : Nat) (v : W32) :
    (s.wr a v).atq = s.atq := rfl
@[simp] theorem State.wr_cus (s : State) (a : Nat) (v : W32) :
    (s.wr a v).cus = s.cus := rfl
@[simp] theorem State.wr_pwr (s : State) (a : Nat) (v : W32) :
    (s.wr a v).pwr = s.pwr := rfl
@[simp] theorem State.wr_pins (s : State) (a : Nat) (v : W32) :
    (s.wr a v).pins = s.pins := rfl

/-! ### put -/

@[simp] theorem State.put_pending (s : State) (f : RF) (v : Nat) :
    (s.put f v).pending = s.pending := rfl
@[simp] theorem State.put_regs (s : State) (f : RF) (v : Nat) :
    (s.put f v).regs = sparsePut s.regs f.addr (f.write v (s.rd f.addr)) (resetWord f.addr) := rfl
@[simp] theorem State.put_mem (s : State) (f : RF) (v : Nat) :
    (s.put f v).mem = s.mem := rfl
@[simp] theorem State.put_tb (s : State) (f : RF) (v : Nat) :
    (s.put f v).tb = s.tb := rfl
@[simp] theorem State.put_ev (s : State) (f : RF) (v : Nat) :
    (s.put f v).ev = s.ev := rfl
@[simp] theorem State.put_loam (s : State) (f : RF) (v : Nat) :
    (s.put f v).loam = s.loam := rfl
@[simp] theorem State.put_sew (s : State) (f : RF) (v : Nat) :
    (s.put f v).sew = s.sew := rfl
@[simp] theorem State.put_sieve (s : State) (f : RF) (v : Nat) :
    (s.put f v).sieve = s.sieve := rfl
@[simp] theorem State.put_tk (s : State) (f : RF) (v : Nat) :
    (s.put f v).tk = s.tk := rfl
@[simp] theorem State.put_iv (s : State) (f : RF) (v : Nat) :
    (s.put f v).iv = s.iv := rfl
@[simp] theorem State.put_fa (s : State) (f : RF) (v : Nat) :
    (s.put f v).fa = s.fa := rfl
@[simp] theorem State.put_trg (s : State) (f : RF) (v : Nat) :
    (s.put f v).trg = s.trg := rfl
@[simp] theorem State.put_pat (s : State) (f : RF) (v : Nat) :
    (s.put f v).pat = s.pat := rfl
@[simp] theorem State.put_dm (s : State) (f : RF) (v : Nat) :
    (s.put f v).dm = s.dm := rfl
@[simp] theorem State.put_sp (s : State) (f : RF) (v : Nat) :
    (s.put f v).sp = s.sp := rfl
@[simp] theorem State.put_pc (s : State) (f : RF) (v : Nat) :
    (s.put f v).pc = s.pc := rfl
@[simp] theorem State.put_ce (s : State) (f : RF) (v : Nat) :
    (s.put f v).ce = s.ce := rfl
@[simp] theorem State.put_light (s : State) (f : RF) (v : Nat) :
    (s.put f v).light = s.light := rfl
@[simp] theorem State.put_gx (s : State) (f : RF) (v : Nat) :
    (s.put f v).gx = s.gx := rfl
@[simp] theorem State.put_atq (s : State) (f : RF) (v : Nat) :
    (s.put f v).atq = s.atq := rfl
@[simp] theorem State.put_cus (s : State) (f : RF) (v : Nat) :
    (s.put f v).cus = s.cus := rfl
@[simp] theorem State.put_pwr (s : State) (f : RF) (v : Nat) :
    (s.put f v).pwr = s.pwr := rfl
@[simp] theorem State.put_pins (s : State) (f : RF) (v : Nat) :
    (s.put f v).pins = s.pins := rfl

/-! ### putB -/

@[simp] theorem State.putB_pending (s : State) (f : RF) (b : Bool) :
    (s.putB f b).pending = s.pending := rfl
@[simp] theorem State.putB_regs (s : State) (f : RF) (b : Bool) :
    (s.putB f b).regs = (s.put f (b2n b)).regs := rfl
@[simp] theorem State.putB_mem (s : State) (f : RF) (b : Bool) :
    (s.putB f b).mem = s.mem := rfl
@[simp] theorem State.putB_tb (s : State) (f : RF) (b : Bool) :
    (s.putB f b).tb = s.tb := rfl
@[simp] theorem State.putB_ev (s : State) (f : RF) (b : Bool) :
    (s.putB f b).ev = s.ev := rfl
@[simp] theorem State.putB_loam (s : State) (f : RF) (b : Bool) :
    (s.putB f b).loam = s.loam := rfl
@[simp] theorem State.putB_sew (s : State) (f : RF) (b : Bool) :
    (s.putB f b).sew = s.sew := rfl
@[simp] theorem State.putB_sieve (s : State) (f : RF) (b : Bool) :
    (s.putB f b).sieve = s.sieve := rfl
@[simp] theorem State.putB_tk (s : State) (f : RF) (b : Bool) :
    (s.putB f b).tk = s.tk := rfl
@[simp] theorem State.putB_iv (s : State) (f : RF) (b : Bool) :
    (s.putB f b).iv = s.iv := rfl
@[simp] theorem State.putB_fa (s : State) (f : RF) (b : Bool) :
    (s.putB f b).fa = s.fa := rfl
@[simp] theorem State.putB_trg (s : State) (f : RF) (b : Bool) :
    (s.putB f b).trg = s.trg := rfl
@[simp] theorem State.putB_pat (s : State) (f : RF) (b : Bool) :
    (s.putB f b).pat = s.pat := rfl
@[simp] theorem State.putB_dm (s : State) (f : RF) (b : Bool) :
    (s.putB f b).dm = s.dm := rfl
@[simp] theorem State.putB_sp (s : State) (f : RF) (b : Bool) :
    (s.putB f b).sp = s.sp := rfl
@[simp] theorem State.putB_pc (s : State) (f : RF) (b : Bool) :
    (s.putB f b).pc = s.pc := rfl
@[simp] theorem State.putB_ce (s : State) (f : RF) (b : Bool) :
    (s.putB f b).ce = s.ce := rfl
@[simp] theorem State.putB_light (s : State) (f : RF) (b : Bool) :
    (s.putB f b).light = s.light := rfl
@[simp] theorem State.putB_gx (s : State) (f : RF) (b : Bool) :
    (s.putB f b).gx = s.gx := rfl
@[simp] theorem State.putB_atq (s : State) (f : RF) (b : Bool) :
    (s.putB f b).atq = s.atq := rfl
@[simp] theorem State.putB_cus (s : State) (f : RF) (b : Bool) :
    (s.putB f b).cus = s.cus := rfl
@[simp] theorem State.putB_pwr (s : State) (f : RF) (b : Bool) :
    (s.putB f b).pwr = s.pwr := rfl
@[simp] theorem State.putB_pins (s : State) (f : RF) (b : Bool) :
    (s.putB f b).pins = s.pins := rfl

/-! ### resetRegs -/

@[simp] theorem State.resetRegs_pending (s : State) (lo hi : Nat) :
    (s.resetRegs lo hi).pending = s.pending := rfl
@[simp] theorem State.resetRegs_regs (s : State) (lo hi : Nat) :
    (s.resetRegs lo hi).regs = s.regs.filter (fun c => !(lo ≤ c.1 && c.1 < hi)) := rfl
@[simp] theorem State.resetRegs_mem (s : State) (lo hi : Nat) :
    (s.resetRegs lo hi).mem = s.mem := rfl
@[simp] theorem State.resetRegs_tb (s : State) (lo hi : Nat) :
    (s.resetRegs lo hi).tb = s.tb := rfl
@[simp] theorem State.resetRegs_ev (s : State) (lo hi : Nat) :
    (s.resetRegs lo hi).ev = s.ev := rfl
@[simp] theorem State.resetRegs_loam (s : State) (lo hi : Nat) :
    (s.resetRegs lo hi).loam = s.loam := rfl
@[simp] theorem State.resetRegs_sew (s : State) (lo hi : Nat) :
    (s.resetRegs lo hi).sew = s.sew := rfl
@[simp] theorem State.resetRegs_sieve (s : State) (lo hi : Nat) :
    (s.resetRegs lo hi).sieve = s.sieve := rfl
@[simp] theorem State.resetRegs_tk (s : State) (lo hi : Nat) :
    (s.resetRegs lo hi).tk = s.tk := rfl
@[simp] theorem State.resetRegs_iv (s : State) (lo hi : Nat) :
    (s.resetRegs lo hi).iv = s.iv := rfl
@[simp] theorem State.resetRegs_fa (s : State) (lo hi : Nat) :
    (s.resetRegs lo hi).fa = s.fa := rfl
@[simp] theorem State.resetRegs_trg (s : State) (lo hi : Nat) :
    (s.resetRegs lo hi).trg = s.trg := rfl
@[simp] theorem State.resetRegs_pat (s : State) (lo hi : Nat) :
    (s.resetRegs lo hi).pat = s.pat := rfl
@[simp] theorem State.resetRegs_dm (s : State) (lo hi : Nat) :
    (s.resetRegs lo hi).dm = s.dm := rfl
@[simp] theorem State.resetRegs_sp (s : State) (lo hi : Nat) :
    (s.resetRegs lo hi).sp = s.sp := rfl
@[simp] theorem State.resetRegs_pc (s : State) (lo hi : Nat) :
    (s.resetRegs lo hi).pc = s.pc := rfl
@[simp] theorem State.resetRegs_ce (s : State) (lo hi : Nat) :
    (s.resetRegs lo hi).ce = s.ce := rfl
@[simp] theorem State.resetRegs_light (s : State) (lo hi : Nat) :
    (s.resetRegs lo hi).light = s.light := rfl
@[simp] theorem State.resetRegs_gx (s : State) (lo hi : Nat) :
    (s.resetRegs lo hi).gx = s.gx := rfl
@[simp] theorem State.resetRegs_atq (s : State) (lo hi : Nat) :
    (s.resetRegs lo hi).atq = s.atq := rfl
@[simp] theorem State.resetRegs_cus (s : State) (lo hi : Nat) :
    (s.resetRegs lo hi).cus = s.cus := rfl
@[simp] theorem State.resetRegs_pwr (s : State) (lo hi : Nat) :
    (s.resetRegs lo hi).pwr = s.pwr := rfl
@[simp] theorem State.resetRegs_pins (s : State) (lo hi : Nat) :
    (s.resetRegs lo hi).pins = s.pins := rfl

/-! ### setMemByte -/

@[simp] theorem State.setMemByte_pending (s : State) (a : Nat) (b : BitVec 8) :
    (s.setMemByte a b).pending = s.pending := rfl
@[simp] theorem State.setMemByte_regs (s : State) (a : Nat) (b : BitVec 8) :
    (s.setMemByte a b).regs = s.regs := rfl
@[simp] theorem State.setMemByte_mem (s : State) (a : Nat) (b : BitVec 8) :
    (s.setMemByte a b).mem = sparsePut s.mem a b (memReset a) := rfl
@[simp] theorem State.setMemByte_tb (s : State) (a : Nat) (b : BitVec 8) :
    (s.setMemByte a b).tb = s.tb := rfl
@[simp] theorem State.setMemByte_ev (s : State) (a : Nat) (b : BitVec 8) :
    (s.setMemByte a b).ev = s.ev := rfl
@[simp] theorem State.setMemByte_loam (s : State) (a : Nat) (b : BitVec 8) :
    (s.setMemByte a b).loam = s.loam := rfl
@[simp] theorem State.setMemByte_sew (s : State) (a : Nat) (b : BitVec 8) :
    (s.setMemByte a b).sew = s.sew := rfl
@[simp] theorem State.setMemByte_sieve (s : State) (a : Nat) (b : BitVec 8) :
    (s.setMemByte a b).sieve = s.sieve := rfl
@[simp] theorem State.setMemByte_tk (s : State) (a : Nat) (b : BitVec 8) :
    (s.setMemByte a b).tk = s.tk := rfl
@[simp] theorem State.setMemByte_iv (s : State) (a : Nat) (b : BitVec 8) :
    (s.setMemByte a b).iv = s.iv := rfl
@[simp] theorem State.setMemByte_fa (s : State) (a : Nat) (b : BitVec 8) :
    (s.setMemByte a b).fa = s.fa := rfl
@[simp] theorem State.setMemByte_trg (s : State) (a : Nat) (b : BitVec 8) :
    (s.setMemByte a b).trg = s.trg := rfl
@[simp] theorem State.setMemByte_pat (s : State) (a : Nat) (b : BitVec 8) :
    (s.setMemByte a b).pat = s.pat := rfl
@[simp] theorem State.setMemByte_dm (s : State) (a : Nat) (b : BitVec 8) :
    (s.setMemByte a b).dm = s.dm := rfl
@[simp] theorem State.setMemByte_sp (s : State) (a : Nat) (b : BitVec 8) :
    (s.setMemByte a b).sp = s.sp := rfl
@[simp] theorem State.setMemByte_pc (s : State) (a : Nat) (b : BitVec 8) :
    (s.setMemByte a b).pc = s.pc := rfl
@[simp] theorem State.setMemByte_ce (s : State) (a : Nat) (b : BitVec 8) :
    (s.setMemByte a b).ce = s.ce := rfl
@[simp] theorem State.setMemByte_light (s : State) (a : Nat) (b : BitVec 8) :
    (s.setMemByte a b).light = s.light := rfl
@[simp] theorem State.setMemByte_gx (s : State) (a : Nat) (b : BitVec 8) :
    (s.setMemByte a b).gx = s.gx := rfl
@[simp] theorem State.setMemByte_atq (s : State) (a : Nat) (b : BitVec 8) :
    (s.setMemByte a b).atq = s.atq := rfl
@[simp] theorem State.setMemByte_cus (s : State) (a : Nat) (b : BitVec 8) :
    (s.setMemByte a b).cus = s.cus := rfl
@[simp] theorem State.setMemByte_pwr (s : State) (a : Nat) (b : BitVec 8) :
    (s.setMemByte a b).pwr = s.pwr := rfl
@[simp] theorem State.setMemByte_pins (s : State) (a : Nat) (b : BitVec 8) :
    (s.setMemByte a b).pins = s.pins := rfl

/-! ### modStr -/

@[simp] theorem State.modStr_pending (s : State) (k : Nat) (f : LString → LString) :
    (s.modStr k f).pending = s.pending := rfl
@[simp] theorem State.modStr_regs (s : State) (k : Nat) (f : LString → LString) :
    (s.modStr k f).regs = s.regs := rfl
@[simp] theorem State.modStr_mem (s : State) (k : Nat) (f : LString → LString) :
    (s.modStr k f).mem = s.mem := rfl
@[simp] theorem State.modStr_tb (s : State) (k : Nat) (f : LString → LString) :
    (s.modStr k f).tb = s.tb := rfl
@[simp] theorem State.modStr_ev (s : State) (k : Nat) (f : LString → LString) :
    (s.modStr k f).ev = s.ev := rfl
@[simp] theorem State.modStr_loam (s : State) (k : Nat) (f : LString → LString) :
    (s.modStr k f).loam = s.loam := rfl
@[simp] theorem State.modStr_sew (s : State) (k : Nat) (f : LString → LString) :
    (s.modStr k f).sew = s.sew := rfl
@[simp] theorem State.modStr_sieve (s : State) (k : Nat) (f : LString → LString) :
    (s.modStr k f).sieve = s.sieve := rfl
@[simp] theorem State.modStr_tk (s : State) (k : Nat) (f : LString → LString) :
    (s.modStr k f).tk = s.tk := rfl
@[simp] theorem State.modStr_iv (s : State) (k : Nat) (f : LString → LString) :
    (s.modStr k f).iv = s.iv := rfl
@[simp] theorem State.modStr_fa (s : State) (k : Nat) (f : LString → LString) :
    (s.modStr k f).fa = s.fa := rfl
@[simp] theorem State.modStr_trg (s : State) (k : Nat) (f : LString → LString) :
    (s.modStr k f).trg = s.trg := rfl
@[simp] theorem State.modStr_pat (s : State) (k : Nat) (f : LString → LString) :
    (s.modStr k f).pat = s.pat := rfl
@[simp] theorem State.modStr_dm (s : State) (k : Nat) (f : LString → LString) :
    (s.modStr k f).dm = s.dm := rfl
@[simp] theorem State.modStr_sp (s : State) (k : Nat) (f : LString → LString) :
    (s.modStr k f).sp = s.sp := rfl
@[simp] theorem State.modStr_pc (s : State) (k : Nat) (f : LString → LString) :
    (s.modStr k f).pc = s.pc := rfl
@[simp] theorem State.modStr_ce (s : State) (k : Nat) (f : LString → LString) :
    (s.modStr k f).ce = s.ce := rfl
@[simp] theorem State.modStr_light (s : State) (k : Nat) (f : LString → LString) :
    (s.modStr k f).light = { s.light with strings := s.light.strings.modify k f } := rfl
@[simp] theorem State.modStr_gx (s : State) (k : Nat) (f : LString → LString) :
    (s.modStr k f).gx = s.gx := rfl
@[simp] theorem State.modStr_atq (s : State) (k : Nat) (f : LString → LString) :
    (s.modStr k f).atq = s.atq := rfl
@[simp] theorem State.modStr_cus (s : State) (k : Nat) (f : LString → LString) :
    (s.modStr k f).cus = s.cus := rfl
@[simp] theorem State.modStr_pwr (s : State) (k : Nat) (f : LString → LString) :
    (s.modStr k f).pwr = s.pwr := rfl
@[simp] theorem State.modStr_pins (s : State) (k : Nat) (f : LString → LString) :
    (s.modStr k f).pins = s.pins := rfl

/-! ### modMk -/

@[simp] theorem State.modMk_pending (s : State) (k : Nat) (f : MChain → MChain) :
    (s.modMk k f).pending = s.pending := rfl
@[simp] theorem State.modMk_regs (s : State) (k : Nat) (f : MChain → MChain) :
    (s.modMk k f).regs = s.regs := rfl
@[simp] theorem State.modMk_mem (s : State) (k : Nat) (f : MChain → MChain) :
    (s.modMk k f).mem = s.mem := rfl
@[simp] theorem State.modMk_tb (s : State) (k : Nat) (f : MChain → MChain) :
    (s.modMk k f).tb = s.tb := rfl
@[simp] theorem State.modMk_ev (s : State) (k : Nat) (f : MChain → MChain) :
    (s.modMk k f).ev = s.ev := rfl
@[simp] theorem State.modMk_loam (s : State) (k : Nat) (f : MChain → MChain) :
    (s.modMk k f).loam = s.loam := rfl
@[simp] theorem State.modMk_sew (s : State) (k : Nat) (f : MChain → MChain) :
    (s.modMk k f).sew = s.sew := rfl
@[simp] theorem State.modMk_sieve (s : State) (k : Nat) (f : MChain → MChain) :
    (s.modMk k f).sieve = s.sieve := rfl
@[simp] theorem State.modMk_tk (s : State) (k : Nat) (f : MChain → MChain) :
    (s.modMk k f).tk = s.tk := rfl
@[simp] theorem State.modMk_iv (s : State) (k : Nat) (f : MChain → MChain) :
    (s.modMk k f).iv = s.iv := rfl
@[simp] theorem State.modMk_fa (s : State) (k : Nat) (f : MChain → MChain) :
    (s.modMk k f).fa = s.fa := rfl
@[simp] theorem State.modMk_trg (s : State) (k : Nat) (f : MChain → MChain) :
    (s.modMk k f).trg = s.trg := rfl
@[simp] theorem State.modMk_pat (s : State) (k : Nat) (f : MChain → MChain) :
    (s.modMk k f).pat = s.pat := rfl
@[simp] theorem State.modMk_dm (s : State) (k : Nat) (f : MChain → MChain) :
    (s.modMk k f).dm = s.dm := rfl
@[simp] theorem State.modMk_sp (s : State) (k : Nat) (f : MChain → MChain) :
    (s.modMk k f).sp = s.sp := rfl
@[simp] theorem State.modMk_pc (s : State) (k : Nat) (f : MChain → MChain) :
    (s.modMk k f).pc = s.pc := rfl
@[simp] theorem State.modMk_ce (s : State) (k : Nat) (f : MChain → MChain) :
    (s.modMk k f).ce = s.ce := rfl
@[simp] theorem State.modMk_light (s : State) (k : Nat) (f : MChain → MChain) :
    (s.modMk k f).light = { s.light with chains := s.light.chains.modify k f } := rfl
@[simp] theorem State.modMk_gx (s : State) (k : Nat) (f : MChain → MChain) :
    (s.modMk k f).gx = s.gx := rfl
@[simp] theorem State.modMk_atq (s : State) (k : Nat) (f : MChain → MChain) :
    (s.modMk k f).atq = s.atq := rfl
@[simp] theorem State.modMk_cus (s : State) (k : Nat) (f : MChain → MChain) :
    (s.modMk k f).cus = s.cus := rfl
@[simp] theorem State.modMk_pwr (s : State) (k : Nat) (f : MChain → MChain) :
    (s.modMk k f).pwr = s.pwr := rfl
@[simp] theorem State.modMk_pins (s : State) (k : Nat) (f : MChain → MChain) :
    (s.modMk k f).pins = s.pins := rfl

/-! ### modTbPort -/

@[simp] theorem State.modTbPort_pending (s : State) (k : Nat) (f : TbPort → TbPort) :
    (s.modTbPort k f).pending = s.pending := rfl
@[simp] theorem State.modTbPort_regs (s : State) (k : Nat) (f : TbPort → TbPort) :
    (s.modTbPort k f).regs = s.regs := rfl
@[simp] theorem State.modTbPort_mem (s : State) (k : Nat) (f : TbPort → TbPort) :
    (s.modTbPort k f).mem = s.mem := rfl
@[simp] theorem State.modTbPort_tb (s : State) (k : Nat) (f : TbPort → TbPort) :
    (s.modTbPort k f).tb = { s.tb with ports := s.tb.ports.modify k f } := rfl
@[simp] theorem State.modTbPort_ev (s : State) (k : Nat) (f : TbPort → TbPort) :
    (s.modTbPort k f).ev = s.ev := rfl
@[simp] theorem State.modTbPort_loam (s : State) (k : Nat) (f : TbPort → TbPort) :
    (s.modTbPort k f).loam = s.loam := rfl
@[simp] theorem State.modTbPort_sew (s : State) (k : Nat) (f : TbPort → TbPort) :
    (s.modTbPort k f).sew = s.sew := rfl
@[simp] theorem State.modTbPort_sieve (s : State) (k : Nat) (f : TbPort → TbPort) :
    (s.modTbPort k f).sieve = s.sieve := rfl
@[simp] theorem State.modTbPort_tk (s : State) (k : Nat) (f : TbPort → TbPort) :
    (s.modTbPort k f).tk = s.tk := rfl
@[simp] theorem State.modTbPort_iv (s : State) (k : Nat) (f : TbPort → TbPort) :
    (s.modTbPort k f).iv = s.iv := rfl
@[simp] theorem State.modTbPort_fa (s : State) (k : Nat) (f : TbPort → TbPort) :
    (s.modTbPort k f).fa = s.fa := rfl
@[simp] theorem State.modTbPort_trg (s : State) (k : Nat) (f : TbPort → TbPort) :
    (s.modTbPort k f).trg = s.trg := rfl
@[simp] theorem State.modTbPort_pat (s : State) (k : Nat) (f : TbPort → TbPort) :
    (s.modTbPort k f).pat = s.pat := rfl
@[simp] theorem State.modTbPort_dm (s : State) (k : Nat) (f : TbPort → TbPort) :
    (s.modTbPort k f).dm = s.dm := rfl
@[simp] theorem State.modTbPort_sp (s : State) (k : Nat) (f : TbPort → TbPort) :
    (s.modTbPort k f).sp = s.sp := rfl
@[simp] theorem State.modTbPort_pc (s : State) (k : Nat) (f : TbPort → TbPort) :
    (s.modTbPort k f).pc = s.pc := rfl
@[simp] theorem State.modTbPort_ce (s : State) (k : Nat) (f : TbPort → TbPort) :
    (s.modTbPort k f).ce = s.ce := rfl
@[simp] theorem State.modTbPort_light (s : State) (k : Nat) (f : TbPort → TbPort) :
    (s.modTbPort k f).light = s.light := rfl
@[simp] theorem State.modTbPort_gx (s : State) (k : Nat) (f : TbPort → TbPort) :
    (s.modTbPort k f).gx = s.gx := rfl
@[simp] theorem State.modTbPort_atq (s : State) (k : Nat) (f : TbPort → TbPort) :
    (s.modTbPort k f).atq = s.atq := rfl
@[simp] theorem State.modTbPort_cus (s : State) (k : Nat) (f : TbPort → TbPort) :
    (s.modTbPort k f).cus = s.cus := rfl
@[simp] theorem State.modTbPort_pwr (s : State) (k : Nat) (f : TbPort → TbPort) :
    (s.modTbPort k f).pwr = s.pwr := rfl
@[simp] theorem State.modTbPort_pins (s : State) (k : Nat) (f : TbPort → TbPort) :
    (s.modTbPort k f).pins = s.pins := rfl

end Sys2Proof.Machine
end

