-- ==== Sys2Proof/Laws/Registers.lean ====
section
/-! SUPPORT. Reads of registers, fields and memory bytes after the operations that write them, and the
canonical form of the register file and the memories. -/
namespace Sys2Proof.Machine

/-! ### Whole registers -/

@[simp] theorem State.rd_wr_same (s : State) (a : Nat) (v : W32) : (s.wr a v).rd a = v :=
  sparseGet_put_same _ _ _ _

theorem State.rd_wr_other (s : State) {a b : Nat} (v : W32) (h : a ≠ b) :
    (s.wr a v).rd b = s.rd b := sparseGet_put_other _ _ _ _ h

@[simp] theorem State.rd_put_same (s : State) (f : RF) (v : Nat) :
    (s.put f v).rd f.addr = f.write v (s.rd f.addr) := State.rd_wr_same _ _ _

theorem State.rd_put_other (s : State) (f : RF) (v : Nat) {b : Nat} (h : f.addr ≠ b) :
    (s.put f v).rd b = s.rd b := State.rd_wr_other _ _ h

theorem State.rd_putB_other (s : State) (f : RF) (v : Bool) {b : Nat} (h : f.addr ≠ b) :
    (s.putB f v).rd b = s.rd b := State.rd_put_other _ _ _ h

theorem State.rd_bump_other (s : State) (f : RF) (n : Nat) {b : Nat} (h : f.addr ≠ b) :
    (s.bump f n).rd b = s.rd b := State.rd_put_other _ _ _ h

theorem State.rd_count_other (s : State) (f : RF) (n : Nat) {b : Nat} (h : f.addr ≠ b) :
    (s.count f n).rd b = s.rd b := State.rd_put_other _ _ _ h

theorem State.rd_mark_other (s : State) (f : RF) (k : Nat) {b : Nat} (h : f.addr ≠ b) :
    (s.mark f k).rd b = s.rd b := State.rd_put_other _ _ _ h

theorem State.rd_unmark_other (s : State) (f : RF) (k : Nat) {b : Nat} (h : f.addr ≠ b) :
    (s.unmark f k).rd b = s.rd b := by
  unfold State.unmark
  split
  · exact State.rd_put_other _ _ _ h
  · rfl

/-- A register's word depends on the register file alone. -/
theorem State.rd_congr {s t : State} (h : t.regs = s.regs) (a : Nat) : t.rd a = s.rd a := by
  unfold State.rd; rw [h]

theorem State.rd_resetRegs (s : State) (lo hi a : Nat) :
    (s.resetRegs lo hi).rd a = if lo ≤ a ∧ a < hi then resetWord a else s.rd a := by
  unfold State.rd
  rw [State.resetRegs_regs]
  induction s.regs with
  | nil => simp [sparseGet]
  | cons c m ih =>
    obtain ⟨k, v⟩ := c
    by_cases hk : lo ≤ k ∧ k < hi
    · rw [List.filter_cons_of_neg (by simpa using hk)]
      rw [ih]
      split
      · rfl
      · next h =>
        have : k ≠ a := by rintro rfl; exact h hk
        simp [sparseGet, this]
    · rw [List.filter_cons_of_pos (by simp; omega)]
      by_cases ha : k = a
      · subst ha; rw [if_neg hk]; simp [sparseGet]
      · simp only [sparseGet, ha, if_false]; exact ih

/-! ### Fields -/

/-- Bit `i` of a field's mask. -/
theorem RF.mask_bit (f : RF) (i : Nat) (h : i < 32) :
    f.mask.getLsbD i = (decide (f.lo ≤ i) && decide (i - f.lo < f.hi + 1 - f.lo)) := by
  unfold RF.mask RF.width
  rw [BitVec.getLsbD_ofNat, Nat.testBit_shiftLeft, Nat.testBit_two_pow_sub_one]
  simp [h]

/-- Bit `i` of a word after a write of a field. -/
theorem RF.write_bit (f : RF) (v : Nat) (w : W32) (i : Nat) (h : i < 32) :
    (f.write v w).getLsbD i =
      if f.lo ≤ i ∧ i - f.lo < f.hi + 1 - f.lo then v.testBit (i - f.lo) else w.getLsbD i := by
  unfold RF.write
  rw [BitVec.getLsbD_or, BitVec.getLsbD_and, BitVec.getLsbD_and, BitVec.getLsbD_not, RF.mask_bit f i h,
    BitVec.getLsbD_ofNat, Nat.testBit_shiftLeft]
  by_cases h1 : f.lo ≤ i <;> by_cases h2 : i - f.lo < f.hi + 1 - f.lo <;> simp [h, h1, h2]

theorem RF.read_bit (f : RF) (w : W32) (i : Nat) :
    (f.read w).testBit i = (decide (i < f.hi + 1 - f.lo) && w.getLsbD (f.lo + i)) := by
  unfold RF.read RF.width
  rw [Nat.testBit_mod_two_pow, Nat.testBit_shiftRight]; rfl

/-- The bits of a field after a write of it. -/
theorem RF.read_write (f : RF) (v : Nat) (w : W32) (h : f.hi < 32) :
    f.read (f.write v w) = v % 2 ^ f.width := by
  apply Nat.eq_of_testBit_eq
  intro i
  rw [RF.read_bit, Nat.testBit_mod_two_pow, RF.width]
  by_cases hi : i < f.hi + 1 - f.lo
  · have hb : f.lo + i < 32 := by omega
    rw [RF.write_bit _ _ _ _ hb]
    simp [hi]
  · simp [hi]

theorem State.get_put_same (s : State) (f : RF) (v : Nat) (h : f.hi < 32) :
    (s.put f v).get f = v % 2 ^ f.width := by
  unfold State.get
  rw [State.rd_put_same, RF.read_write f v _ h]

/-- A count within the field's range. -/
theorem State.get_count_same (s : State) (f : RF) (n : Nat) (h : f.hi < 32)
    (hn : s.get f + n < 2 ^ f.width) : (s.count f n).get f = s.get f + n := by
  unfold State.count
  rw [State.get_put_same _ _ _ h, if_pos hn, Nat.mod_eq_of_lt hn]

theorem State.get_congr {s t : State} {f : RF} (h : t.rd f.addr = s.rd f.addr) :
    t.get f = s.get f := by
  unfold State.get; rw [h]

theorem State.get_put_addr (s : State) (f g : RF) (v : Nat) (h : f.addr ≠ g.addr) :
    (s.put f v).get g = s.get g := State.get_congr (State.rd_put_other _ _ _ h)

/-- A write of a field leaves every other field of its register alone. -/
theorem RF.read_write_other (f g : RF) (v : Nat) (w : W32) (hg : g.hi < 32)
    (h : f.hi < g.lo ∨ g.hi < f.lo) : g.read (f.write v w) = g.read w := by
  apply Nat.eq_of_testBit_eq
  intro i
  rw [RF.read_bit, RF.read_bit]
  by_cases hi : i < g.hi + 1 - g.lo
  · have hb : g.lo + i < 32 := by omega
    rw [RF.write_bit _ _ _ _ hb, if_neg (by omega)]
  · simp [hi]

/-- A write of a field leaves every other field alone. -/
theorem State.get_put_other (s : State) (f g : RF) (v : Nat) (hg : g.hi < 32)
    (h : f.addr ≠ g.addr ∨ f.hi < g.lo ∨ g.hi < f.lo) : (s.put f v).get g = s.get g := by
  by_cases ha : f.addr = g.addr
  · unfold State.get
    rw [← ha, State.rd_put_same, RF.read_write_other f g v _ hg (by omega)]
  · exact State.get_put_addr s f g v ha

theorem State.bit_putB_same (s : State) (f : RF) (b : Bool) (h : f.hi < 32) (hl : f.lo = f.hi) :
    (s.putB f b).bit f = b := by
  unfold State.bit State.putB
  rw [State.get_put_same _ _ _ h, RF.width, hl]
  cases b <;> simp [b2n]

/-! ### Memory bytes -/

@[simp] theorem State.memByte_set_same (s : State) (a : Nat) (b : BitVec 8) :
    (s.setMemByte a b).memByte a = b := sparseGet_put_same _ _ _ _

theorem State.memByte_set_other (s : State) {a c : Nat} (b : BitVec 8) (h : a ≠ c) :
    (s.setMemByte a b).memByte c = s.memByte c := sparseGet_put_other _ _ _ _ h

theorem State.memByte_congr {s t : State} (h : t.mem = s.mem) (a : Nat) :
    t.memByte a = s.memByte a := by
  unfold State.memByte; rw [h]

end Sys2Proof.Machine

namespace Sys2Proof

open Sys2Proof.Machine

/-! ### The canonical form -/

/-- The form depends on the register file and the memories alone. -/
theorem Canonical.congr {s t : State} (h : Canonical s) (hr : t.regs = s.regs)
    (hm : t.mem = s.mem) : Canonical t := by
  unfold Canonical; rw [hr, hm]; exact h

theorem Canonical.wr {s : State} (h : Canonical s) (a : Nat) (v : W32) : Canonical (s.wr a v) :=
  ⟨sparseOk_put resetWord a v h.1, h.2⟩

theorem Canonical.put {s : State} (h : Canonical s) (f : RF) (v : Nat) : Canonical (s.put f v) :=
  h.wr _ _

theorem Canonical.putB {s : State} (h : Canonical s) (f : RF) (v : Bool) :
    Canonical (s.putB f v) := h.put _ _

theorem Canonical.bump {s : State} (h : Canonical s) (f : RF) (n : Nat) :
    Canonical (s.bump f n) := h.put _ _

theorem Canonical.count {s : State} (h : Canonical s) (f : RF) (n : Nat) :
    Canonical (s.count f n) := Canonical.put (Canonical.congr h rfl rfl) f _

theorem Canonical.mark {s : State} (h : Canonical s) (f : RF) (k : Nat) :
    Canonical (s.mark f k) := h.put _ _

theorem Canonical.unmark {s : State} (h : Canonical s) (f : RF) (k : Nat) :
    Canonical (s.unmark f k) := by
  unfold State.unmark
  split
  · exact h.put _ _
  · exact h

theorem Canonical.resetRegs {s : State} (h : Canonical s) (lo hi : Nat) :
    Canonical (s.resetRegs lo hi) := ⟨sparseOk_filter resetWord _ h.1, h.2⟩

/-- Every write of memory keeps its canonical form. -/
theorem Canonical.setMemByte {s : State} (h : Canonical s) (a : Nat) (b : BitVec 8) :
    Canonical (s.setMemByte a b) := ⟨h.1, sparseOk_put memReset a b h.2⟩

theorem Canonical.setMemHalf {s : State} (h : Canonical s) (a : Nat) (w : BitVec 16) :
    Canonical (s.setMemHalf a w) := (h.setMemByte _ _).setMemByte _ _

theorem Canonical.setMemWord {s : State} (h : Canonical s) (a : Nat) (w : W32) :
    Canonical (s.setMemWord a w) :=
  (((h.setMemByte _ _).setMemByte _ _).setMemByte _ _).setMemByte _ _

theorem Canonical.when {s : State} (h : Canonical s) (c : Bool) {f : State → State}
    (hf : ∀ t, Canonical t → Canonical (f t)) : Canonical (s.when c f) := by
  unfold State.when
  split
  · exact hf s h
  · exact h

end Sys2Proof
end

