-- ==== Sys2Proof/Laws/Quiet.lean ====
section
/-! SUPPORT. What raising sources, making records, storing them and replying leave alone (R456, R459,
R373 to R380, R425): each of these operations is `Quiet`. -/
namespace Sys2Proof

open Sys2Proof.Machine

namespace Quiet

theorem refl (s : State) : Quiet s s := by
  constructor <;> first | rfl | intros; first | rfl | assumption

theorem trans {s t u : State} (h : Quiet s t) (k : Quiet t u) : Quiet s u where
  pending := k.pending.trans h.pending
  rd a ha := (k.rd a ha).trans (h.rd a ha)
  latch n hn hs := k.latch n hn (h.latch n hn hs)
  mem := k.mem.trans h.mem
  tb := k.tb.trans h.tb
  sew := k.sew.trans h.sew
  sieve := k.sieve.trans h.sieve
  tk := k.tk.trans h.tk
  iv := k.iv.trans h.iv
  fa := k.fa.trans h.fa
  trg := by rw [← h.trg, ← k.trg]
  pat := by rw [← h.pat, ← k.pat]
  dm := k.dm.trans h.dm
  sp := k.sp.trans h.sp
  pc := k.pc.trans h.pc
  ce := k.ce.trans h.ce
  light := k.light.trans h.light
  gx := k.gx.trans h.gx
  atq := by rw [← h.atq, ← k.atq]
  tags := k.tags.trans h.tags
  cus := by rw [← h.cus, ← k.cus]
  pwr := k.pwr.trans h.pwr
  pins := k.pins.trans h.pins

/-- An update of the events and the pool alone. -/
theorem parts (s : State) (e : Events) (l : Loam) : Quiet s { s with ev := e, loam := l } := by
  constructor <;> first | rfl | intros; first | rfl | assumption

theorem modEv (s : State) (f : Events → Events) : Quiet s (s.modEv f) := parts s _ _

theorem modLoam (s : State) (f : Loam → Loam) : Quiet s (s.modLoam f) := parts s _ _

/-- The state of a pair that an operation answers. -/
theorem ofPair {α : Type} {s t : State} {p : α × State} {l : α} (h : Quiet s p.2)
    (e : p = (l, t)) : Quiet s t := by
  subst e; exact h

theorem ofTriple {α γ : Type} {s t : State} {p : α × γ × State} {a : α} {l : γ}
    (h : Quiet s p.2.2) (e : p = (a, l, t)) : Quiet s t := by
  subst e; exact h

theorem has_congr {s t : State} {f : RF} (h : t.rd f.addr = s.rd f.addr) (k : Nat) :
    t.has f k = s.has f k := by
  unfold State.has; rw [State.get_congr h]

/-- A write of a field of an event register other than a latch. -/
theorem put (s : State) (f : RF) (v : Nat) (h : eventAddr f.addr = true)
    (hn : f.addr < 0x40100 ∨ 0x40158 ≤ f.addr) : Quiet s (s.put f v) := by
  constructor <;> first | rfl | skip
  · intro a ha
    exact State.rd_put_other _ _ _ (by rintro rfl; simp [h] at ha)
  · intro src hs hl
    unfold Latched at *
    rw [has_congr (State.rd_put_other _ _ _ ?_)]
    · exact hl
    · simp only [EV_LATCH_SRC]; omega

theorem putB (s : State) (f : RF) (b : Bool) (h : eventAddr f.addr = true)
    (hn : f.addr < 0x40100 ∨ 0x40158 ≤ f.addr) : Quiet s (s.putB f b) := put s f _ h hn

theorem bump (s : State) (f : RF) (n : Nat) (h : eventAddr f.addr = true)
    (hn : f.addr < 0x40100 ∨ 0x40158 ≤ f.addr) : Quiet s (s.bump f n) := put s f _ h hn

theorem when {s : State} {c : Bool} {f : State → State} (h : c = true → Quiet s (f s)) :
    Quiet s (s.when c f) := by
  unfold State.when
  split
  · next hc => exact h hc
  · exact refl s

/-- Addresses of the latches. -/
theorem latchAddr (w : Nat) (h : w < 22) : eventAddr (0x40100 + 4 * w) = true := by
  simp [eventAddr]; omega

/-- Setting latch bits. -/
theorem latchMark (s : State) (src : Nat) (h : src < 704) :
    Quiet s (s.mark (EV_LATCH_SRC (src / 32)) (src % 32)) := by
  constructor <;> first | rfl | skip
  · intro a ha
    refine State.rd_mark_other _ _ _ ?_
    rintro rfl
    have : eventAddr (EV_LATCH_SRC (src / 32)).addr = true := latchAddr _ (by omega)
    rw [this] at ha
    cases ha
  · intro n hn hl
    unfold Latched State.has State.mark at *
    by_cases hw : (EV_LATCH_SRC (src / 32)).addr = (EV_LATCH_SRC (n / 32)).addr
    · have hw' : src / 32 = n / 32 := by simp only [EV_LATCH_SRC] at hw; omega
      rw [← hw'] at hl ⊢
      rw [State.get_put_same _ _ _ (show 31 < 32 by omega), Nat.testBit_mod_two_pow, Nat.testBit_or, hl]
      have : n % 32 < RF.width (EV_LATCH_SRC (src / 32)) := by
        simp only [RF.width, EV_LATCH_SRC]; omega
      simp [this]
    · rw [State.get_put_addr _ _ _ _ hw]; exact hl

/-- A raise of a source that is on sets its latch bit. -/
theorem latchMark_self (s : State) (src : Nat) :
    Latched (s.mark (EV_LATCH_SRC (src / 32)) (src % 32)) src := by
  unfold Latched State.has State.mark
  rw [State.get_put_same _ _ _ (show 31 < 32 by omega), Nat.testBit_mod_two_pow, Nat.testBit_or]
  have : src % 32 < RF.width (EV_LATCH_SRC (src / 32)) := by
    simp only [RF.width, EV_LATCH_SRC]; omega
  simp [this]

theorem fresh (s : State) : Quiet s s.fresh.2 := parts s _ _

theorem lagged (s : State) (t : Tick) : Quiet s (s.lagged t).2 := parts s _ _

theorem setSeq (s : State) (key : Nat) (v : W32) : Quiet s (s.setSeq key v) := parts s _ _

theorem markOvf (s : State) (key : Nat) : Quiet s (s.markOvf key) := parts s _ _

theorem setQueue (s : State) (q : Nat) (v : Queue) : Quiet s (s.setQueue q v) := parts s _ _

theorem makeRec (s : State) (type source : Nat) (st : Stamp) (p : List W64) (a b c : Bool) :
    Quiet s (s.makeRec type source st p a b c).2 := parts s _ _

/-- The command of a tag becomes ready to be answered. -/
theorem answer (s : State) (tag : BitVec 16) (status detail : Nat) (body : List W64) (hi lo : Nat) :
    Quiet s (s.answer tag status detail body hi lo) := by
  constructor <;> first | rfl | intros; first | rfl | assumption | skip
  simp only [State.answer, State.modAtq_atq, List.map_map]
  apply List.map_congr_left
  intro p _
  simp only [Function.comp]
  split <;> rfl

theorem limited (s : State) (src : Nat) : Quiet s (s.limited src).2 := by
  unfold State.limited
  split
  · split <;> exact parts s _ _
  · exact parts s _ _

theorem limited_list (s : State) (src : Nat) : ∀ x ∈ (s.limited src).1, x = src := by
  unfold State.limited
  split
  · split <;> simp
  · simp

theorem quarantine (s : State) (n : Nat) : Quiet s (s.quarantine n).2 := by
  unfold State.quarantine
  extract_lets t
  have ht : Quiet s t := parts s _ _
  split
  · exact ht.trans (parts t _ _)
  · exact ht

theorem quarantine_list (s : State) (n : Nat) : ∀ x ∈ (s.quarantine n).1, x < 704 := by
  unfold State.quarantine
  extract_lets t
  split <;> simp

/-- Addresses of a queue's FLAG, CNT and ECC. -/
theorem queueAddr (q o : Nat) (h : q < 256) (ho : 0x14 ≤ o) (h2 : o < 0x20) :
    eventAddr (0xC1000 + o + 0x20 * q) = true := by
  simp [eventAddr]; omega

/-- A write of a field of a queue's FLAG, CNT or ECC. -/
theorem queuePut (s : State) (f : RF) (v q o : Nat) (hq : q < 256) (hf : f.addr = 0xC1000 + o + 0x20 * q)
    (ho : 0x14 ≤ o) (h2 : o < 0x20) : Quiet s (s.put f v) :=
  put s f v (by rw [hf]; exact queueAddr q o hq ho h2) (by omega)

theorem readOut (s : State) (q : Nat) (it : Item) (hq : q < 256) :
    Quiet s (s.readOut q it).2 := by
  unfold State.readOut
  extract_lets c u s1
  have h1 : Quiet s s1 := when fun _ =>
    (queuePut _ (Q_ECC_CORR q) _ q 0x1C hq rfl (by decide) (by decide)).trans
      (bump _ LP_ECC_CORR c rfl (by decide))
  clear_value s1
  split
  next l1 s2 e2 =>
  have h2 : Quiet s s2 := by
    split at e2
    · exact h1.trans (ofPair (limited _ _) e2)
    · cases e2; exact h1
  extract_lets s3
  have h3 : Quiet s s3 := h2.trans (when fun _ =>
    ((queuePut _ (Q_ECC_UNCORR q) _ q 0x1C hq rfl (by decide) (by decide)).trans
      (bump _ LP_ECC_UNCORR u rfl (by decide))).trans
      (queuePut _ (Q_FLAG_UE q) _ q 0x14 hq rfl (by decide) (by decide)))
  clear_value s3
  split
  next l2 s4 e4 => exact h3.trans (ofPair (quarantine _ _) e4)

theorem readOut_list (s : State) (q : Nat) (it : Item) : ∀ x ∈ (s.readOut q it).1, x < 704 := by
  unfold State.readOut
  extract_lets c u s1
  split
  next l1 s2 e2 =>
  extract_lets s3
  split
  next l2 s4 e4 =>
  have h1 : ∀ x ∈ l1, x < 704 := by
    split at e2
    · intro x hx
      have := limited_list s1 612 x (by rw [e2]; exact hx)
      omega
    · cases e2; simp
  have h2 : ∀ x ∈ l2, x < 704 := by
    have := quarantine_list s3 it.badGrains
    rw [e4] at this; exact this
  intro x hx
  simp only [List.mem_append, List.mem_replicate] at hx
  rcases hx with (hx | hx) | hx
  · exact h1 x hx
  · omega
  · exact h2 x hx

theorem rearmWatermark (s : State) (q : Nat) : Quiet s (s.rearmWatermark q) := by
  unfold State.rearmWatermark
  split
  · exact setQueue _ _ _
  · exact refl s

theorem popItem (s : State) (q : Nat) : Quiet s (s.popItem q) :=
  (setQueue _ _ _).trans (rearmWatermark _ _)

theorem wakeRead (s : State) (q : Nat) (hq : q < 256) : Quiet s (s.wakeRead q).2 := by
  unfold State.wakeRead
  split
  · next st it _ _ _ =>
    extract_lets s1
    have h1 : Quiet s s1 := popItem s q
    clear_value s1
    split
    next l s2 e2 =>
    have h2 : Quiet s s2 := h1.trans (ofPair (readOut _ q _ hq) e2)
    extract_lets v s3
    have h3 : Quiet s s3 := h2.trans ((setQueue _ _ _).trans
      (queuePut _ (Q_FLAG_STALLED q) _ q 0x14 hq rfl (by decide) (by decide)))
    exact h3.trans (answer _ _ _ _ _ _ _)
  · exact refl s

theorem wakeRead_list (s : State) (q : Nat) : ∀ x ∈ (s.wakeRead q).1, x < 704 := by
  unfold State.wakeRead
  split
  · next st it _ _ _ =>
    extract_lets s1
    split
    next l s2 e2 =>
    have := readOut_list s1 q it
    rw [e2] at this
    exact this
  · simp

theorem afterAppend (s : State) (q : Nat) (hq : q < 256) : Quiet s (s.afterAppend q).2 := by
  unfold State.afterAppend
  extract_lets s1 wm
  have h1 : Quiet s s1 := queuePut _ (Q_FLAG_PEAK q) _ q 0x14 hq rfl (by decide) (by decide)
  split
  · exact h1.trans ((queuePut _ (Q_FLAG_WMK q) _ q 0x14 hq rfl (by decide) (by decide)).trans
      (setQueue _ _ _))
  · exact h1

theorem afterAppend_list (s : State) (q : Nat) : ∀ x ∈ (s.afterAppend q).1, x < 704 := by
  unfold State.afterAppend
  extract_lets s1 wm
  split <;> simp

theorem storeAdmitted (s : State) (q : Nat) (it : Item) (hq : q < 256) :
    Quiet s (s.storeAdmitted q it).2 := by
  unfold State.storeAdmitted
  extract_lets hit it s1 v s2
  have h1 : Quiet s s1 := when fun _ =>
    ((parts s _ _).trans (putB _ TR_STAT_ECC_PEND _ rfl (by decide))).trans
      (bump _ TR_STAT_ACTIONS _ rfl (by decide))
  have h2 : Quiet s s2 := h1.trans (setQueue _ _ _)
  clear_value s2
  split
  next l1 s3 e3 =>
  have h3 : Quiet s s3 := h2.trans (ofPair (afterAppend _ q hq) e3)
  split
  next l2 s4 e4 => exact h3.trans (ofPair (wakeRead _ q hq) e4)

theorem storeAdmitted_list (s : State) (q : Nat) (it : Item) :
    ∀ x ∈ (s.storeAdmitted q it).1, x < 704 := by
  unfold State.storeAdmitted
  extract_lets hit it s1 v s2
  split
  next l1 s3 e3 =>
  split
  next l2 s4 e4 =>
  have h1 := afterAppend_list s2 q
  rw [e3] at h1
  have h2 := wakeRead_list s3 q
  rw [e4] at h2
  intro x hx
  simp only [List.mem_append] at hx
  rcases hx with (hx | hx) | hx
  · split at hx <;> simp at hx
    omega
  · exact h1 x hx
  · exact h2 x hx

theorem storeItem (s : State) (q : Nat) (it : Item) (hq : q < 256) :
    Quiet s (s.storeItem q it).2.2 := by
  unfold State.storeItem
  split
  · exact refl s
  · split
    · exact (queuePut _ (Q_FLAG_REFUSED q) _ q 0x14 hq rfl (by decide) (by decide)).trans
        (queuePut _ (Q_CNT_REFCNT q) _ q 0x18 hq rfl (by decide) (by decide))
    · exact storeAdmitted s q it hq

theorem admission_src (s : State) (q n src : Nat) (h : s.admission q n = some src) : src < 704 := by
  unfold State.admission at h
  split at h
  · cases h; decide
  · split at h <;> cases h; decide

theorem storeItem_list (s : State) (q : Nat) (it : Item) :
    ∀ x ∈ (s.storeItem q it).2.1, x < 704 := by
  unfold State.storeItem
  split
  · simp
  · split
    · next src h => simpa using admission_src _ _ _ _ h
    · exact storeAdmitted_list s q it

theorem latchSource (s : State) (src : Nat) (h : src < 704) : Quiet s (s.latchSource src) := by
  unfold State.latchSource
  split
  · exact refl s
  · extract_lets s1 s2 n s3
    have h1 : Quiet s s1 := latchMark s src h
    have h2 : Quiet s s2 := h1.trans (when fun _ => by
      constructor <;> first | rfl | intros; first | rfl | assumption)
    have h3 : Quiet s s3 := h2.trans (when fun _ => by
      constructor <;> first | rfl | intros; first | rfl | assumption)
    exact h3.trans (when fun _ => by
      constructor <;> first | rfl | intros; first | rfl | assumption)

theorem eventRecord (s : State) (src : Nat) : Quiet s (s.eventRecord src).2 := by
  unfold State.eventRecord
  split
  next t s1 e1 =>
  have h1 : Quiet s s1 := ofPair (lagged _ _) e1
  extract_lets keep s2
  have h2 : Quiet s s2 := h1.trans (modEv _ _)
  clear_value s2
  split
  next r s3 e3 =>
  have h3 : Quiet s s3 := h2.trans (ofPair (makeRec _ _ _ _ _ _ _ _) e3)
  extract_lets s4
  have h4 : Quiet s s4 := h3.trans (modEv _ _)
  clear_value s4
  split
  next ok l s5 e5 =>
  have h5 : Quiet s s5 := h4.trans (ofTriple (storeItem _ _ _ (by decide)) e5)
  split
  · exact h5
  · exact h5.trans (markOvf _ _)

theorem eventRecord_list (s : State) (src : Nat) : ∀ x ∈ (s.eventRecord src).1, x < 704 := by
  unfold State.eventRecord
  split
  next t s1 e1 =>
  extract_lets keep s2
  split
  next r s3 e3 =>
  extract_lets s4
  split
  next ok l s5 e5 =>
  have := storeItem_list s4 0xF1 { words := recWords r, gen := s4.tb.gen }
  rw [e5] at this
  exact this

/-- A fold of operations that are each quiet. -/
theorem foldl {α : Type} (f : State → α → State) (l : List α) (s : State)
    (h : ∀ t, ∀ x ∈ l, Quiet t (f t x)) : Quiet s (l.foldl f s) := by
  induction l generalizing s with
  | nil => exact refl s
  | cons a l ih =>
    exact (h s a (by simp)).trans (ih _ (fun t x hx => h t x (by simp [hx])))

/-- Sorting changes no member. -/
theorem mem_insertSource (n x : Nat) (l : List Nat) : x ∈ insertSource n l ↔ x = n ∨ x ∈ l := by
  induction l with
  | nil => simp [insertSource]
  | cons m l ih =>
    unfold insertSource
    split
    · simp
    · simp only [List.mem_cons, ih]
      constructor <;> rintro (h | h | h) <;> simp [h]

theorem mem_sorted (x : Nat) (l : List Nat) : x ∈ l.foldr insertSource [] ↔ x ∈ l := by
  induction l with
  | nil => simp
  | cons m l ih => simp [mem_insertSource, ih]

theorem raiseAt (n : Nat) : ∀ (s : State) (src : Nat), src < 704 → Quiet s (State.raiseAt n s src) := by
  induction n with
  | zero => intro s src h; exact latchSource s src h
  | succ n ih =>
    intro s src h
    unfold State.raiseAt
    extract_lets s1
    have h1 : Quiet s s1 := latchSource s src h
    clear_value s1
    split
    · split
      next l s2 e2 =>
      have hl := eventRecord_list s1 src
      rw [e2] at hl
      exact (h1.trans (ofPair (eventRecord _ _) e2)).trans (foldl _ _ _ (fun t x hx => ih t x (hl x ((mem_sorted x l).1 hx))))
    · exact h1

/-- Raising a source leaves alone what `Quiet` names. -/
theorem raise (s : State) (src : Nat) (h : src < 704) : Quiet s (s.raise src) := by
  unfold State.raise
  split
  · exact refl s
  · exact raiseAt 3 s src h

theorem raiseAll (s : State) (l : List Nat) (h : ∀ x ∈ l, x < 704) : Quiet s (s.raiseAll l) :=
  foldl _ _ _ (fun t x hx => raise t x (h x ((mem_sorted x l).1 hx)))

theorem raiseLimited (s : State) (src : Nat) (h : src < 704) : Quiet s (s.raiseLimited src) := by
  unfold State.raiseLimited
  split
  next l s1 e1 =>
  refine (ofPair (limited _ _) e1).trans (raiseAll _ _ (fun x hx => ?_))
  have := limited_list s src x (by rw [e1]; exact hx)
  omega

theorem offer (s : State) (q : Nat) (it : Item) (hq : q < 256) : Quiet s (s.offer q it).2 := by
  unfold State.offer
  split
  next ok l s1 e1 =>
  have hl := storeItem_list s q it
  rw [e1] at hl
  exact (ofTriple (storeItem _ _ _ hq) e1).trans (raiseAll _ _ hl)

theorem publish (s : State) (q : Nat) (r : Rec) (hq : q < 256) : Quiet s (s.publish q r).2 := by
  unfold State.publish
  split
  next ok s1 e1 =>
  have h1 : Quiet s s1 := ofPair (offer _ _ _ hq) e1
  split
  · exact h1
  · exact h1.trans (markOvf _ _)

theorem publishWait (s : State) (q : Nat) (r : Rec) (hq : q < 256) : Quiet s (s.publishWait q r) := by
  unfold State.publishWait
  extract_lets it wait
  split
  · exact parts s _ _
  · split
    next ok s1 e1 =>
    have h1 : Quiet s s1 := ofPair (offer _ _ _ hq) e1
    split
    · exact h1
    · exact h1.trans (parts s1 _ _)

theorem replyRecords (s : State) (p0 : W64) (l : List (List W64)) : Quiet s (s.replyRecords p0 l) := by
  induction l generalizing s with
  | nil => exact refl s
  | cons b l ih =>
    unfold State.replyRecords
    split
    next t s1 e1 =>
    have h1 : Quiet s s1 := ofPair (lagged _ _) e1
    split
    next r s2 e2 =>
    have h2 : Quiet s s2 := h1.trans (ofPair (makeRec _ _ _ _ _ _ _ _) e2)
    exact (h2.trans (publishWait _ _ _ (by decide))).trans (ih _)

/-- Replying to a command leaves alone what `Quiet` names. -/
theorem reply (s : State) (tag : BitVec 16) (nr : Bool) (status detail : Nat) (body : List W64)
    (hi lo : Nat) : Quiet s (s.reply tag nr status detail body hi lo) := by
  unfold State.reply
  extract_lets s1
  have h1 : Quiet s s1 := when fun _ => raise _ _ (by decide)
  split
  · exact h1
  · exact h1.trans (replyRecords _ _ _)

theorem epochMarker (s : State) (reason : Nat) (t : Tick) (old : Option (BitVec 16 × Tick)) :
    Quiet s (s.epochMarker reason t old) := by
  unfold State.epochMarker
  extract_lets p0 p1
  split
  next r s1 e1 =>
  exact (ofPair (makeRec _ _ _ _ _ _ _ _) e1).trans (publishWait _ _ _ (by decide))

theorem roundOpen (s : State) (num : Int) (den : Nat) : Quiet s (s.roundOpen num den).2 := by
  unfold State.roundOpen
  split
  · exact refl s
  · exact fresh s

theorem roundNear (s : State) (num : Int) (den : Nat) : Quiet s (s.roundNear num den).2 := by
  unfold State.roundNear
  split
  · exact fresh s
  · exact refl s

/-! ### What a raise does -/

theorem latchSource_latched (s : State) (src : Nat) (h : src < 704) (hc : s.domOn dCORE = true)
    (he : s.bit (EV_SRC_EN src) = true) : Latched (s.latchSource src) src := by
  unfold State.latchSource
  rw [if_neg (by simp [hc, he])]
  extract_lets s1 s2 n s3
  have h1 : Latched s1 src := latchMark_self s src
  have h2 : Quiet s1 s2 := when fun _ => by
    constructor <;> first | rfl | intros; first | rfl | assumption
  have h3 : Quiet s2 s3 := when fun _ => by
    constructor <;> first | rfl | intros; first | rfl | assumption
  refine latch (when fun _ => ?_) src h (h3.latch src h (h2.latch src h h1))
  constructor <;> first | rfl | intros; first | rfl | assumption

theorem raiseAt_latched (n : Nat) (s : State) (src : Nat) (h : src < 704) (hc : s.domOn dCORE = true)
    (he : s.bit (EV_SRC_EN src) = true) : Latched (State.raiseAt n s src) src := by
  have h0 := latchSource_latched s src h hc he
  cases n with
  | zero => exact h0
  | succ n =>
    unfold State.raiseAt
    extract_lets s1
    split
    · split
      next l s2 e2 =>
      have hl := eventRecord_list s1 src
      rw [e2] at hl
      exact ((ofPair (eventRecord _ _) e2).trans
        (foldl _ _ _ (fun t x hx => raiseAt n t x (hl x ((mem_sorted x l).1 hx))))).latch src h h0
    · exact h0

/-- A raise of a source that is on, with CORE on, sets its latch bit (R456). -/
theorem raise_latched (s : State) (src : Nat) (h : src < 704) (hr : sourceReserved src = false)
    (hc : s.domOn dCORE = true) (he : s.bit (EV_SRC_EN src) = true) : Latched (s.raise src) src := by
  unfold State.raise
  rw [if_neg (by simp [hr])]
  exact raiseAt_latched 3 s src h hc he

end Quiet

end Sys2Proof
end

