-- ==== Sys2Proof/Tests/Slice0.lean ====
section
/-! SUPPORT. The model's own tests: ill-formed commands that the well-formedness check refuses, a
few values that the spec works out, and for every statement with hypotheses a state and operands
that meet them. -/
namespace Sys2Proof.Tests
open Sys2Proof Sys2Proof.Machine
set_option linter.unusedVariables false
set_option Elab.async false

/-- Sets fields of a state. -/
def wset (s : State) (l : List (RF × Nat)) : State := l.foldl (fun s e => s.put e.1 e.2) s

/-- A READY unit with an ID, every domain on. -/
def w : State := wset State.reset [(DOM_STAT_ON, 2 ^ 26 - 1), (MODE_STATUS_STATE, usReady),
  (ENUM_STAT_VALID, 1), (ENUM_STAT_ID, 5), (TB_STATUS_HEAD, 0), (STRAP_HEAD, 0)]

/-- The same with its counter running, at tick 1000. -/
def wt : State := (w.putB TB_STATUS_PLL_LOCK true).modTb (fun x => { x with started := true, tick := 1000, up := 1000 })

/-- A mode mask. -/
def wm (mask : Nat) (s : State) : State := wset s [(MODE_STATUS_MASK, mask), (MODE_STATUS_STATE, usActive)]

/-- What an answer carries when it is one. -/
def okOf {ε α : Type} : Except ε α → Option α
  | .ok v => some v
  | .error _ => none

/-- What a refusal carries when it is one. -/
def errOf {ε α : Type} : Except ε α → Option ε
  | .ok _ => none
  | .error e => some e

theorem eq_ok {ε α : Type} {x : Except ε α} {v : α} (h : okOf x = some v) : x = .ok v := by
  cases x with
  | ok => exact congrArg Except.ok (Option.some.inj h)
  | error => cases h

theorem eq_error {ε α : Type} {x : Except ε α} {e : ε} (h : errOf x = some e) : x = .error e := by
  cases x with
  | ok => cases h
  | error => exact congrArg Except.error (Option.some.inj h)

/-- `Heard` as a check. -/
def hears (s : State) (op : Nat) (c : Cmd) : Bool :=
  s.listens && decide (c.unit.toNat = s.unitId) && s.atq.waiting.isEmpty &&
    (!c.order || !s.anyOpen) && c.cver == 4 && !c.group &&
    (opRow op).all (fun r => (s.stateCheck r).isNone) && !s.tagOpen c.tag &&
    decide (s.pendCount < 16) && !s.enumerating && lenOk op c.p.length

theorem heard_of {s : State} {op : Nat} {c : Cmd} (h : hears s op c = true) : Heard s op c := by
  simp only [hears, Bool.and_eq_true, Bool.or_eq_true, Bool.not_eq_true', List.isEmpty_iff,
    beq_iff_eq, decide_eq_true_eq] at h
  obtain ⟨⟨⟨⟨⟨⟨⟨⟨⟨⟨h1, ht⟩, h2⟩, h3⟩, h4⟩, h5⟩, h6⟩, h7⟩, h8⟩, hn⟩, h9⟩ := h
  refine ⟨h1, ht, h2, fun h => ?_, h4, h5, fun r hr => ?_, h7, h8, hn, h9⟩
  · cases h3 with
    | inl h' => rw [h] at h'; cases h'
    | inr h' => exact h'
  · rw [hr] at h6; simpa using h6

theorem of_none {α : Type} {x : Option α} {P : α → Prop} (h : x.isNone = true) :
    ∀ e, x = some e → P e := by
  intro e he; rw [he] at h; cases h

theorem of_eq {α : Type} {a : α} {P : α → Prop} (h : P a) : ∀ n, n = a → P n := by
  intro n hn; rw [hn]; exact h

theorem of_all {α : Type} {l : List α} {P : α → Prop} [DecidablePred P]
    (h : l.all (fun a => decide (P a)) = true) : ∀ a, a ∈ l → P a := by
  intro a ha; exact of_decide_eq_true (List.all_eq_true.mp h a ha)

def st1 : State := {w with pending := [.slewComplete, .mirrorBoundary]}

def st2 : State := wt.modTb fun x => {x with tick := BitVec.allOnes 48}

def st3 : State := wt.modTb fun x => {x with steps := [{k := -7, tick := 2000}]}

def st4 : State := wset wt [(TB_STATUS_ALIGN, alLOCKED)]

def st5 : State := wset wt [(TB_STATUS_ALIGN, alHOLDOVER)]

def st6 : State := wset wt [(TB_CFG_REFOUT_EN,1)]

def st7 : State := (wset wt [(TB_CFG_REFOUT_EN,1)]).modTb fun x => {x with tick := 1001}

def st8 : State := wset wt [(TB_CFG_REFOUT_EN,0)]

def st9 : State := wset wt [(TB_STATUS_ALIGN, alUNALIGNED)]

def st10 : State := wset wt [(TB_STATUS_ALIGN, alHOLDOVER), (TB_STATUS_HEAD,1)]

def st11 : State := (wset wt [(TB_STATUS_ALIGN, alHOLDOVER), (TB_STATUS_HEAD,1)]).modTb fun x =>
  {x with traced := true}

def st12 : State := wset wt [(TB_STATUS_ALIGN, alHOLDOVER), (GX_PSTAT_STATE 0, gxUP),
  (PORT_STAT_VER 0, 3)]

def st13 : State := wset wt [(TB_CFG_PERIOD, 24)]

def st14 : State := (wset wt [(TB_CFG_PERIOD, 47)]).modTb fun x => {x with tick := 0x800000000001}

def st15 : State := wset wt [(TB_STATUS_ALIGN,alACQUIRE)]

def st16 : State := (wset wt [(TB_STATUS_ALIGN, alDEGRADED)]).modTb fun x => {x with handshake := some (2,false), slew := 5, traced := true}

def st17 : State := (wset wt [(TB_STATUS_ALIGN, alDEGRADED),(TB_STATUS_TRACE,1)]).modTb fun x =>
  {x with handshake := some (2,false)}

def st18 : State := wset wt [(TB_STATUS_HEAD,1)]

def st19 : State := wset wt [(TB_STATUS_HEAD,1), (TB_CFG_SPINE_REF,1), (GX_PSTAT_STATE 0, gxUP)]

def st20 : State := wset wt [(TSYNC_CFG_MODE,1)]

def st21 : State := (wset wt [(TSYNC_CFG_MODE,2), (TB_STATUS_HEAD,1),
  (TSYNC_LOAD_HI_EPOCH,3),(TSYNC_LOAD_LO_TICK_L, 900)]).modTb fun x => {x with tsArmed := true}

def st22 : State := (wset wt [(PORT_STAT_VER 1,3)]).modTbPort 1 fun p => {p with deps := [(4,{tick:=900,fine:=3},0), (3,{tick:=800,fine:=3},0)], arr := some (7,{tick := 950, fine := 9})}

def st23 : State := wset (wm 2 wt) [(CH_CFG_EN 40, 1)]

def h0 : Hit := { stamp := { tick := 980, fine := 5 }, moment := 980 * 1024 + 5, came := 980, falling := false }

def h1 : Hit := { h0 with width := some 77 }

def wHit : State := wset (wm 2 wt) [(CH_CFG_EN 40, 1)]

def wFa : State := wset (wm 2 wt) [(FA_CFG_EN 3, 1), (FA_CFG_FE 3, 1), (FA_RST_POLICY 3, 3),
  (FA_RST_PERIOD 3, 0), (FA_RST_DEFER 3, 0)]

def wPat : State := wset (wm 4 wt) [(PAT_STAT_STATE, paRUN)]

def st24 : State := wHit.modTk 40 fun k => {k with run := [h0], active := true}

def st25 : State := wHit.modTk 40 fun k => {k with run := [h1, h0]}

def st26 : State := wHit.modTk 40 fun k => {k with run := [h1, h0], buf := List.replicate 64 h1}

def st27 : State := wHit.modTk 40 fun k => {k with buf := [h1, h0]}

def st28 : State := (wset wHit [(HB_CFG_AGE, 0)]).modTk 40 fun k => {k with block := [{h1 with stamp := {tick := 900, fine := 5}, moment := 900 * 1024 + 5, came := 900}, h1]}

def st29 : State := wset wHit [(TK_CFG_GRADE_EN,1)]

def st30 : State := wHit.modTk 40 fun k => {k with inj := [(968, 5, true), (999, 4, false)], hist := [(5,1),(9,2)]}

def st31 : State := wHit.modTk 40 fun k => {k with inj := [(968, 5, false), (999, 4, false)], hist := [(5,1),(9,2)]}

def st32 : State := (wset wHit [(TK_CFG_SWAP_EVT,1)]).modTk 40 fun k => {k with newTab := some ((List.range 128).map (· * 8))}

def st33 : State := wset wHit [(TK_CFG_MAXAGE,1)]

def st34 : State := wFa.modFa 3 fun f => {f with near := 2}

def st35 : State := wFa.modFa 3 fun f => {f with lastEnd := 1000 - 4096}

def st36 : State := (wset wFa [(FA_RST_DEFER 3,1), (FA_STAT_DEFERRED 3, 1)]).modFa 3 fun f => {f with deferred := some (1000 - 4096)}

def st37 : State := wFa.modFa 3 fun f => {f with due := some (true, 1000)}

def st38 : State := wFa.modFa 3 fun f => {f with resetEnd := some 1000}

def st39 : State := ((wFa.modFa 3 fun f => {f with clipped := true}).modEv fun x => {x with lastRaise := [(199, 0)]}).modTb
  fun x => {x with up := 12500}

def st40 : State := (wset wFa [(FA_GCFG_ILV, 2), (FA_CFG_EN 2, 1), (FA_CFG_FE 2, 1)]).modFa 2 fun
  f => {f with learnt := true, pairs := 2^20}

def st41 : State := wt.modDm 2 fun d => {d with shot := some ({tick := 900, fine := 0}, 7), gates := [{g := 0, lo := 905, hi := 1001, spoil := true, best := some (3, 5, 6)}, {g := 1, lo := 2000, hi := 3000}]}

def st42 : State := (wset wPat [(PAT_STAT_STATE, paIDLE)]).modPat fun x => {x with start := some (0, 1000, 7), seg := 0, cur := some {gap := true, till := some (1000,0,0,1000)}}

def st43 : State := (wset (wm 0 wPat) [(PAT_STAT_STATE, paSTOPPING), (PAT_CFG_EXIT_T, 4)]).modPat
  fun x => {x with idleSince := some 996}

def st44 : State := (wset wFa [(FA_GCFG_ILV, 2), (FA_CFG_EN 2, 1), (FA_CFG_FE 2, 1),
  (FA_STAT_MATCH_OK 2, 1)]).modFa 2 fun f => {f with learnt := true, pairs := 2^20}

def ga : Gathering := { t0 := 990, origin := 5, id := 3, loc := true, cuts := [3], lo := 960, hi := 1040, wide := 990}

def wPat_c3 : State := wset (wm 4 wt) [(PAT_STAT_STATE, paRUN), (PAT_CFG_EXIT_T, 3)]

def o0 : VecOut := {vec := 0x4321000000000000000000000000000021, serial := 3, rate := 1}

def wTc : State := wset (wm 2 wt) [(TC_CFG_EN 7, 1), (TC_CFG_TYPE 7, 4)]

def wGa : State := (wset wTc [(TRG_CFG_QUEUE, 0xF0)]).modTrg fun x => {x with gaths := [{ga with hi := 1000}]}

def m0 : TrigMark := {kind := 2, origin := 2, root := 2, tick := 1000, members := 0xff, once := true, hold := 40, settle := 30, trigId := 6}

def jA : ArmJob := {tag := 9, set := 3, root := 5, tick := 1000, members := 0x60, acks := [(5, .onTime), (6, .onTime)]}

def wMa : State := (wset wTc [(TRG_STAT_ARMST, armPENDING), (TRG_ARMT_LO_TICK_L, 1000),
  (TRG_STAT_ROOT, 5), (TRG_MEM_LO_MEM_L, 0x60)]).modTrg fun x => {x with setNo := 3, arms := [jA]}

def wAr : State := wset wTc [(TRG_STAT_ARMST, armARMED), (TRG_STAT_ROOT, 2), (TRG_SET_HOLD, 40),
  (TRG_SET_SETTLE, 0)]

def st45 : State := wHit.modTk 40 fun k => {k with run := [h0], active := true}

def st46 : State := wHit.modTk 40 fun k => {k with run := [h1, h0]}

def st47 : State := wHit.modTk 40 fun k => {k with run := [h1, h0], buf := List.replicate 64 h1}

def st48 : State := ((wset wFa [(FA_RST_DEFER 3,1)]).modFa 3 fun f => {f with lastEnd := 1000 - 4096}).modTrg
  fun x => {x with gaths := [ga]}

def st49 : State := (wset wPat_c3 [(PAT_STAT_STATE, paSTARVED), (PAT_STREAM_QUEUE, 9)]).modPat fun
  x => {x with seg := 0, cur := some {o0 with gap := true, till := none}}

def st50 : State := (wset wPat_c3 [(PAT_STAT_STATE, paSTOPPING), (MODE_STATUS_MASK, 0)]).modPat
  fun x => {x with idleSince := some 990}

def st51 : State := wPat_c3.modPat fun x => {x with cur := some {o0 with gap := true, till := some (1000,3,0,1000)}}

def st52 : State := wPat_c3.modPat fun x => {x with cur := some {o0 with gap := true, till := some (990,3,0,990)}, issued := [o0], pastPoint := false}

def st53 : State := {wPat_c3 with pat := {wPat_c3.pat with cur := some o0, pulses := 6}, pins := {wPat_c3.pins with pvDrive := 0xff, pvOut := 0x1e}}

def st54 : State := wPat_c3.modPat fun x => {x with cur := some o0, strobed := false, states := List.replicate 32 4}

def st55 : State := (wset wPat_c3 [(SEG_C_COND 0, 1), (SEG_C_CSEL 0, 5), (SEG_C_TARGET 0,
  9)]).modPat fun x => {x with inputs := [(.line 5, 995)]}

def st56 : State := (wset wPat_c3 [(SEG_C_COND 0, 1), (SEG_C_CSEL 0, 4), (SEG_C_TARGET 0,
  9)]).modPat fun x => {x with inputs := [(.line 5, 995)]}

def st57 : State := (wset wPat_c3 [(SEG_C_COND 0, 1), (SEG_C_CSEL 0, 5), (SEG_C_TARGET 0, 9),
  (PAT_BR_PEND, 1), (PAT_BR_TARGET, 4)]).modPat fun x => {x with inputs := [(.line 5, 995)]}

def st58 : State := wPat_c3.modPat fun x => {x with cal := some (0x22, true)}

def st59 : State := wset wTc [(TRG_STAT_ARMST, armPENDING), (TRG_ARMT_LO_TICK_L, 1000)]

def st60 : State := wMa.modTrg fun x => {x with arms := x.arms.map fun j => {j with acks := [(5, .onTime)]}}

def st61 : State := wMa.modTrg fun x => {x with arms := x.arms.map fun j => {j with root := 9}}

def st62 : State := wAr.modTrg fun x => {x with fires := [{mark := m0, own := false, loc := false, hold := 40, wide := 1000}]}

def st63 : State := wAr.modTrg fun x => {x with fires := [{mark := m0, own := false, loc := false, hold := 40, wide := 1000}], gaths := [{ga with loc := false}]}

def st64 : State := wAr.modTrg fun x => {x with disarms := [(1000, 0)], fires := [{mark := m0, own := false, loc := false, hold := 40, wide := 1000}]}

def st65 : State := (wset wt [(TRG_IO_TO_EN,1)]).modTrg fun x => {x with pulses := [1000]}

def st66 : State := (wset wt [(TRG_IO_TO_EN,1)]).modTrg fun x => {x with pulseEnd := some 1000}

def st67 : State := {(wset wt [(AO_CFG_CLR 4, 77)]) with pins := {wt.pins with aoBusy := 0x10}}

def st68 : State := wset wt [(AO_GSTAT_CLRN,1)]

def st69 : State := wset wt [(AO_GSTAT_CLRN,0)]

def st70 : State := wset wt [(AO_GSTAT_HIRNG,1)]

def st71 : State := wset wt [(AO_GSTAT_HIRNG,0)]

def wPc : State := wset (wm 9 wt) [(PS_CFG_EN 4, 1), (PS_STAT_STATE 4, psWAIT), (PS_CFG_MODE 4,
  6)]

def wCv : State := ((wset wPc [(PC_CSTAT_PORT 2, 4), (PC_CSTAT_STATE 2, cCONVERT), (PS_STAT_STATE
  4, psCONVERT)]).modTb fun x => {x with tick := 100000000, up := 100000000})

def wPf : State := wset wPc [(PS_FLT_FEN 4, 1), (PS_FLT_PINS 4, 0x3f)]

def wLo : State := wset (wm 8 wt) [(LOOP_CFG_EN 6, 1), (LOOP_STAT_STATE 6, loOFF)]

def cs : LoopSample := {vals := {out := 0x12345678}, olim := true, rlim := false, ilim := true, sats := 0}

def wLt : State := wset (wm 16 wt) [(LT_DER_HI, 500)]

def wLs : State := wLt.modLight fun l => {l with nextF := some 128, strings := l.strings.set 3 {(l.strings.getD 3 {}) with cfg := 0x80008000, acc := 77}}

def fr : MFrame := {nbits := 24, words := [5], tag := some 9}

def st72 : State := wset wPc [(PS_CFG_SETTLE 4, 3)]

def st73 : State := (wset wPc [(PS_CFG_SETTLE 4, 1),(PC_CSTAT_PORT 2, 4), (PC_CSTAT_STATE 2,
  cSETTLE), (PS_STAT_STATE 4, psSETTLE)]).modPc 2 fun x => {x with convStart := 1000-5000}

def st74 : State := wset wPc [(PS_IMP_PERIOD 4, 10)]

def st75 : State := wset wCv [(PC_CSTAT_PORT 2, 4), (PC_CSTAT_STATE 2, cSLOT), (PS_STAT_STATE 4,
  psWAIT)]

def st76 : State := wset wCv [(PC_CSTAT_PORT 2, 4), (PC_CSTAT_STATE 2, cSLOT), (PS_STAT_STATE 4,
  psWAIT), (PS_IMP_LOOP_MAX 4, 400), (PS_CFG_MODE 4, 2)]

def st77 : State := (wset wPc [(PWF_CFG_EN 3, 1), (PWF_CFG_PORT 3, 4), (PWF_CFG_FSTATE 3, 2),
  (MODE_STATUS_MASK, 1), (MODE_STATUS_STATE, usActive)]).modSp 4 fun x => {x with last := some {value := 5, cal := 5, tick := 900, done := 900, fault := true}}

def st78 : State := wset wPf [(PS_STAT_STATE 4, psCONVERT), (PC_CSTAT_STATE 2, cCONVERT),
  (PC_CSTAT_PORT 2, 4)]

def st79 : State := wPf.modSp 4 fun x => {x with cal := some {full := false, tag := 7, n := 4, fs := 0, sum := -80, count := 4}}

def st80 : State := (wPf.modSp 4 fun x => {x with cal := some {full := false, tag := 7, n := 400, fs := 0, sum := -80, count := 4}}).modTb
  fun x => {x with up := 10^12}

def st81 : State := wset wLo [(LOOP_STAT_STATE 6, loWAIT)]

def st82 : State := (wset wLo [(LOOP_STAT_STATE 6, loRUN)]).modCe 6 fun x => {x with comp := some cs}

def st83 : State := {(wset wLo [(LOOP_STAT_STATE 6, loRUN), (LOOP_CFG_BIND 6, 1), (LOOP_CFG_AO 6, 17)]).modCe 6 fun x => {x with comp := some cs} with pwr := {wLo.pwr with aoReady := 3}}

def st84 : State := wset ((wLt.modTb fun x => {x with up := 10^10}).modLight fun l => {l with chains := [{}, {frame := some fr}]})
  [(MK_STAT_BUSY 1, 1)]

def st85 : State := wset ((wLt.modTb fun x => {x with up := 10^10}).modLight fun l => {l with chains := [{}, {last := some fr}]})
  [(MK_CFG_EN 1, 1), (MK_CFG_REFRESH 1, 4)]

def wPr : State := (wset wLt [(LS_CFG_FACT 3, 1)]).modStr 3 fun x => {x with probe := some 50, ton := 9, openNow := true, cfg := 0xC0648000}

def wBa : State := (wset wLt [(BST_STAT_STATE, bsREGULATE), (BST_STAT_VTGT, 100), (BST_CFG_VMIN,
  50), (BST_CFG_VMAX, 200), (BST_CFG_HEAD, 20)]).modStr 3 fun x => {x with cfg := 0xC0648000, shone := true}

def wSv : State := ((((wset (wm 2 wt) [(SV_CFG_EN 3, 1), (FA_CFG_EN 3, 1), (SV_THR_THR 3, 50),
  (SV_CFG_BSH 3, 4)]).modSv 3 fun x => {x with base := some 6553700, next := some 980}).setMemHalf
  (State.ringSlot (wm 2 wt) 3 980) 800).modTb fun x => {x with tick := 30000, up := 30000})

def r1 : Rec := {type := 2, unit := 7, source := 3, seq := 5, tick := 990, payload := [1,2,3]}

def r2 : Rec := {r1 with tick := 985, unit := 9}

def wSe : State := (wset wt [(SEW_CFG_W, 12), (SEW_LIM_GRAINS, 100), (GX_PSTAT_STATE 0, gxUP),
  (GX_CRED_CR0 0, 60)]).modSew fun x => {x with held := [{gen := 0, r := r1}, {gen := 0, r := r2, port := 2}]}

def wGx : State := wset wt [(TB_STATUS_HEAD, 1), (GX_PSTAT_STATE 0, gxDETECT), (GX_PSTAT_STATE 2,
  gxDETECT), (GX_PCFG_VMIN 2, 1), (GX_PCFG_VMAX 2, 3)]

def ro : Round := {vmax := 2, vmin := 1, lanes := 3, init := false, resume := true, next := 5, trstat := 1, round := 4, depTick := 900, depFine := 3, hereTick := 950, hereFine := 4, arrTick := 940, arrFine := 5}

def wNe : State := (wset wGx [(GX_PSTAT_STATE 2, gxNEGOTIATE)]).modGx 2 fun g => {g with rounds := 6}

def wRe : State := (wset wGx [(GX_PSTAT_STATE 2, gxRECOVER)]).modGx 2 fun g => {g with ver := 3, fsn := 6, canResume := true, kept := [{fsn := 4, ack := 1}, {fsn := 5, ack := 1}]}

def wUp : State := (wset wGx [(GX_PSTAT_STATE 2, gxUP), (GX_PCFG_IDLE_EN 2, 1), (GX_PSTAT_VER 2,
  3)]).modGx 2 fun g => {g with ver := 3, got := 7, fsn := 6, kept := [{fsn := 4, ack := 1}, {fsn := 5, ack := 1}]}

def ma : TrigMark := {kind := 1, origin := 2, root := 2, tick := 2000, members := 0xff, once := true, hold := 40, settle := 30, trigId := 6}

def st86 : State := wset wPr [(LS_STAT_OPEN 3, 1)]

def st87 : State := (wset wLt [(BST_STAT_STATE, bsSOFTSTART), (BST_STAT_VTGT, 100), (BST_CFG_VMIN,
  98)]).modTb fun x => {x with up := 10^10}

def st88 : State := wset wLt [(BST_STAT_STATE, bsREGULATE), (BST_STAT_VTGT, 100)]

def st89 : State := (wset wLt [(BST_STAT_STATE, bsREGULATE), (BST_STAT_VTGT, 100)]).modLight fun l
  => {l with overs := [990, 900]}

def st90 : State := wset wSv [(SV_THR_THR 3, 500)]

def st91 : State := (wset wSv [(SV_STAT_ACTIVE 3, 1)]).modSv 3 fun x => {x with run := true, start := 900, exc := some 900, nexc := 1, words := [5,6]}

def st92 : State := (wset wSe [(SEW_CFG_BYPASS, 4)]).modSew fun x => {x with inbox := [{gen := 0, r := r1}]}

def st93 : State := wSe.modSew fun x => {x with inbox := [{gen := 0, r := {r1 with tick := 900}}]}

def st94 : State := wSe.modSew fun x => {x with inbox := [{gen := 0, r := r1}]}

def st95 : State := wset wSe [(SEW_CFG_BYPASS, 4), (GX_CRED_CR0 0, 0)]

def st96 : State := (wset wSe [(SEW_CFG_BYPASS, 4), (GX_CRED_CR0 0, 0)]).modSew fun x => {x with inbox := [{gen := 0, r := r1}]}

def st97 : State := wset wSe [(SEW_CFG_BYPASS, 4)]

def st98 : State := (wset wt [(Q_CFG_CONS 0x12, 0)]).modLoam fun x => {x with queues := [(0x12, {items := [{words := recWords r1}, {words := [1]}]})]}

def st99 : State := (wt.modLoam fun x => {x with queues := [(0x12, {stall := some {tag := 7, timed := true}})]}).modAtq
  fun x => {x with pend := [{tag := 7, noReply := false, opcode := 0x30, waits := .qRead 0x12}]}

def st100 : State := wset wt [(PAT_STAT_STATE, paSTARVED), (PAT_STREAM_QUEUE, 9), (Q_FLAG_STALLED
  9, 1), (Q_STALL_LIMIT 9, 5)]

def st101 : State := (wset wt [(LP_QUAR_BUSY, 1)]).modLoam fun x => {x with quar := 8}

def st102 : State := wset wGx [(GX_PSTAT_STATE 2, gxTRAIN), (GX_PCFG_NARROW 2, 1)]

def st103 : State := wset wGx [(GX_PSTAT_STATE 0, gxTRAIN)]

def st104 : State := wset (wGx.modTb fun x => {x with up := 10^10}) [(GX_PSTAT_STATE 2, gxTRAIN)]

def st105 : State := wset (wGx.modTb fun x => {x with up := 10^10}) [(GX_PSTAT_STATE 2,
  gxRECOVER)]

def st106 : State := wGx.modTb fun x => {x with up := 10^10}

def st107 : State := wNe.modGx 2 fun g => {g with rounds := 7, vmax := 3}

def st108 : State := (wset wNe [(GX_PCFG_VMIN 2, 3)]).modGx 2 fun g => {g with rounds := 7, vmax := 3}

def st109 : State := wRe.modGx 2 fun g => {g with canResume := false}

def st110 : State := wUp.modGx 2 fun g => {g with naks := 7}

def st111 : State := wUp.modGx 2 fun g => {g with replay := g.kept}

def st112 : State := wUp.modGx 2 fun g => {g with kept := List.replicate 64 {fsn := 4, ack := 1}}

def st113 : State := wUp.modTb fun x => {x with up := 10^10}

def st114 : State := wset wUp [(GX_PSTAT_STATE 2, gxIDLE), (GX_PSTAT_IDLE 2, 1)]

def st115 : State := wset wUp [(MODE_STATUS_MASK, 2)]

def wQ : State := wset wt [(Q_CFG_EN 0x12, 1), (Q_LIM_WM 0x12, 0)]

def st116 : State := wQ.modLoam fun x => {x with waiting := [(0x12, {words := [7,8,9]}), (0x13, {words := [1]})]}

def st117 : State := wset wGx [(GX_PSTAT_STATE 2, gxTRAIN), (GX_PCFG_NARROW 2, 0)]

def wMt : State := {wset wt [(STRAP_BOOTSRC, 0)] with pwr := {wt.pwr with resetn := true, supply := true}}

def wPat_c6 : State := wset (wm 4 wt) [(PAT_STAT_STATE, paIDLE), (PAT_CAL_PINS, 6), (CH_CFG_EN 33,
  1), (CH_CFG_EN 34, 1), (CH_CFG_SRC 33, 2), (CH_CFG_SRC 34, 2)]

def wPatch : State := State.setMemWord {wt with regs := sparseInsert wt.regs FW_VER_ROM.addr 0}
  0x8000 0x1234

def st118 : State := wset wt [(STRAP_BOOTSRC, 1)]

def st119 : State := wset wMt [(MFL_CMD_BUSY, 1)]

def st120 : State := wset wt [(MFL_CMD_BUSY, 1), (MFL_CMD_NBYTES, 6)]

def st121 : State := (wset wt [(MFL_CMD_BUSY, 1), (MFL_CMD_NBYTES, 6)]).modAtq fun x => {x with flashRead := true}

def st122 : State := wset wFa [(MODE_STATUS_MASK, 0)]

def st123 : State := wset wPat_c6 [(CUS_STAT_CSTATE, csSTANDBY)]

def st124 : State := wset wPc [(PS_CFG_MODE 4, 5), (PS_STAT_STATE 5, psSLAVE)]

def st125 : State := wset wPc [(PS_STAT_STATE 4, psFAULT), (PS_STAT_FAULT 4, 1), (PS_FLT_AUTOCLR
  4, 0)]

def st126 : State := wset wPc [(PC_ILV_ACTIVE 2, 1), (PC_ILV_EN 2, 1)]

def st127 : State := wset wPc [(MODE_STATUS_MASK, 1)]

def st128 : State := wset wPc [(MODE_STATUS_MASK, 1), (PC_ILV_EN 3, 1)]

def st129 : State := wset wt [(AO_GSTAT_HIRNG, 1)]

def st130 : State := {wt with pins := {wt.pins with aoBusy := 0xff}}

def st131 : State := wset wt [(LS_STAT_OPEN 3, 1), (LS_STAT_OFFD 3, 1), (LS_STAT_NBR 3, 1)]

def st132 : State := wset wt [(LS_STAT_OPEN 3, 1), (LS_STAT_OFFD 3, 1)]

def st133 : State := wset wt [(BST_STAT_STATE, bsLATCHED)]

def st134 : State := wset wt [(BST_STAT_STATE, bsRETRY)]

def st135 : State := wset wt [(TB_STATUS_HEAD, 1), (GX_PSTAT_STATE 0, gxUP)]

def st136 : State := wset wt [(GX_PSTAT_STATE 2, gxUP)]

def st137 : State := wset wPatch [(PATCH_CRC_CRC, 0x41afc7f4)]

def wMt_c6b : State := {wset wt [(STRAP_BOOTSRC, 0), (MODE_STATUS_MASK, 4)] with pwr := {wt.pwr with resetn := true, supply := true}}

def st138 : State := wm 4 wt

def st139 : State := wset wt [(AO_GSTAT_HIRNG, 1)]

def cc (l : List W64) : Cmd := {tag := 7, unit := 5, p := l, noReply := true}

def cr (l : List W64) : Cmd := {tag := 7, unit := 5, p := l}

def pe : Pend := {tag := 7, noReply := false, opcode := 0x30, waits := .qRead 0x12}

def vr (s : State) (c : Cmd) (a : Nat) : State := match (counted s).readReg a true with | .ok (_, v) => v | .error _ => s

def wr_ (s : State) (c : Cmd) (a : Nat) : W32 := match (counted s).readReg a true with | .ok (v, _) => v | .error _ => 0

def vw (s : State) (a : Nat) (x : W32) : State := match s.writeReg a x with | .ok v => v | .error _ => s

def wQ_c7 : State := (wset wt [(Q_CFG_EN 0x12, 1), (Q_CFG_CONS 0x12, 1), (Q_CFG_HOSTW 0x12, 1),
  (Q_LIM_WM 0x12, 0)])

def wQ2 : State := wQ_c7.modLoam fun x => {x with queues := [(0x12, {items := [{words := recWords r1}, {words := [1]}]})]}

def st140 : State := wset w [(MODE_STATUS_STATE, usBoot)]

def st141 : State := wset w [(MODE_STATUS_STATE, usFault)]

def st142 : State := wset w [(CUS_STAT_CSTATE, csSTANDBY)]

def st143 : State := w.modAtq fun x => {x with pend := [pe]}

def st144 : State := w.modAtq fun x => {x with pend := (List.range 16).map fun k => {pe with tag := BitVec.ofNat 16 (100 + k)}}

def st145 : State := wset w [(MODE_STATUS_STATE, usOff)]

def st146 : State := w.modAtq fun x => {x with pend := [{pe with tag := 9, waits := .enumerating 0 0 []}]}

def st147 : State := wset w [(ENUM_F_VALID 1, 1), (ENUM_F_LO 1, 6), (ENUM_F_HI 1, 9)]

def st148 : State := wset w [(ENUM_F_VALID 1, 1), (ENUM_F_LO 1, 6), (ENUM_F_HI 1, 9),
  (GX_PSTAT_STATE 2, gxUP)]

def st149 : State := wset wQ_c7 [(Q_LIM_DEPTH 0x12, 0)]

def wTc_c8 : State := wset (wm 2 wt) [(TC_CFG_EN 7, 1), (TC_CFG_TYPE 7, 7), (GX_PSTAT_STATE 2,
  gxUP)]

def wG : State := (wset wTc_c8 [(CH_CFG_EN 3, 1), (CH_CFG_EN 33, 1), (TK_CFG_GRADE_EN, 1)]).modTk
  3 fun k => {k with hist := [(1,2)]}

def wPat_c8 : State := wset (wm 4 wt) [(PAT_STAT_STATE, paIDLE)]

def wLt_c8 : State := wset (wm 16 wt) [(MK_CFG_EN 1, 1)]

def wCu : State := wset wt [(STRAP_ROLE, 1), (CUS_STAT_ROLE, 1), (CUS_STAT_CSTATE, csSEEK),
  (CUS_STAT_DIAG_OK, 1), (GX_PSTAT_STATE 4, gxUP)]

def st150 : State := wset wTc_c8 [(TRG_STAT_ARMST, armARMED), (TRG_STAT_ROOT, 5)]

def st151 : State := (wset wt [(TB_STATUS_ALIGN, alLOCKED)]).modGx 0 fun g => {g with ver := 3}

def st152 : State := wset (wm 8 wt) [(LOOP_STAT_STATE 6, loRUN)]

def st153 : State := wset (wm 8 wt) [(LOOP_STAT_STATE 6, loFROZEN)]

def st154 : State := wset wPat_c8 [(PAT_STAT_STATE, paRUN), (PAT_BR_PEND, 1)]

def st155 : State := wset wPat_c8 [(PAT_STAT_STATE, paRUN)]

def st156 : State := wset wLt_c8 [(CUS_STAT_CSTATE, csSTANDBY)]

def st157 : State := wLt_c8.modMk 1 fun x => {x with frame := some {nbits := 9, words := [5]}}

def st158 : State := wset wt [(DOM_STAT_ON, 0xfff)]

def st159 : State := (wset wCu [(CUS_STAT_CSTATE, csACTIVE)]).modCus fun x => {x with partnerStat := CUS_STAT_DIAG_OK.write 1 (CUS_STAT_CSTATE.write csSTANDBY 0)}

def st160 : State := wset wCu [(CUS_STAT_CSTATE, csSTANDBY)]

def wTr : State := wset wt [(TR_CFG_EN, 1), (DOM_CMD_CMDON, 0), (CUS_STAT_CSTATE, csSOLO)]

def wEn : State := (wset wt [(ENUM_F_VALID 1, 1), (ENUM_F_LO 1, 6), (ENUM_F_HI 1, 9),
  (GX_PSTAT_STATE 2, gxUP)])

def g0 : Group := {tag := 7, noReply := false, lo := 5, hi := 9}

def r8 : Rec := {type := 8, unit := 6, source := 3, seq := 5, tick := 990, payload := [0x00000000000070000, 2, 3]}

def tu (d : BitVec 6) (o : Bool) : TreeUnit := {depth := d, port := 1, role := 0, ver := 3, state := 2, rev := 1, prev := none, own := o}

def tuB : TreeUnit := {(tu 1 false) with port := 2}

def st161 : State := wset wTr [(Q_CFG_EN 0x12, 1)]

def st162 : State := wset wTr [(CUS_STAT_CSTATE, csACTIVE)]

def st163 : State := wset (wTr.modAtq fun x => {x with trialCause := some .pace}) [(GX_INJ_EN 2,
  1), (TR_STAT_CAUSE_ACT, 1), (TR_STAT_CAUSE, 1)]

def st164 : State := (wEn.modAtq fun x => {x with frag := some {c0 := c0Of 4 {(cr [99]) with unit := 5}, p := [99]}}).modTb
  fun x => {x with up := 10^10}

def st165 : State := (wEn.modAtq fun x => {x with skip := some 5}).modTb fun x => {x with up := 10^10}

def st166 : State := wEn.modAtq fun x => {x with pend := [{tag := 7, opcode := 0x30, noReply := false, order := false, waits := .ready 0 0 3 4 [9]}]}

def st167 : State := wEn.modAtq fun x => {x with pend := [{tag := 7, opcode := 3, noReply := false, order := false, waits := .enumerating 0 4 [9]}]}

def st168 : State := wEn.modAtq fun x => {x with pend := [{tag := 7, opcode := 0x50, noReply := false, order := true, waits := .grade 0 6 true 4}]}

def st169 : State := (wEn.modAtq fun x => {x with pend := [{tag := 7, opcode := 0x50, noReply := false, order := true, waits := .grade 5 6 true 4}]}).modTb
  fun x => {x with up := 10^10}

def st170 : State := wEn.modAtq fun x => {x with groups := [g0]}

def st171 : State := wEn.modAtq fun x => {x with discards := [(7,5,9,3)]}

def st172 : State := (wEn.modAtq fun x => {x with groups := [{g0 with ownAt := some 5}]}).modTb
  fun x => {x with up := 10^12}

def st173 : State := (wEn.modAtq fun x => {x with discards := [(7,5,9,3), (8,5,9,6)]}).modTb fun x
  => {x with up := 10^12}

def st174 : State := wEn.modAtq fun x => {x with discards := [(7,5,9,3), (8,5,9,6)]}

def st175 : State := wset wt [(TB_STATUS_HEAD, 1), (GX_PSTAT_STATE 1, gxUP)]

def st176 : State := wset wt [(GX_PSTAT_STATE 1, gxUP), (GX_PSTAT_STATE 2, gxUP), (TB_STATUS_HEAD,
  1)]

def wMo : State := (wset (wm 2 wt) [(MODE_STATUS_PENDING, 6)]).modAtq fun x => {x with pend := [{tag := 7, opcode := 0x20, noReply := false, waits := .modeSet (some 1200) 6 4 false}]}

def wEv : State := wset wt [(EV_SRC_EN 32, 1), (EV_SRC_REC 32, 1), (EV_SRC_CUS 32, 1), (Q_CFG_EN
  0xF1, 1), (Q_LIM_WM 0xF1, 0)]

def wCu_c10 : State := wset wt [(STRAP_ROLE, 1), (CUS_STAT_CSTATE, csSYNC), (GX_PSTAT_STATE 4,
  gxUP), (FAULT_CAUSE_RAIL, 0)]

def mc : MirrorCopy := {boundary := 900, stat := 77}

def wHo : State := (wset wCu_c10 [(CUS_STAT_CSTATE, csACTIVE)]).modCus fun x => {x with hb := some 1000, outgoing := some 3, planned := true}

def wRa : State := {wset wt [(RAIL_STAT_INW, 127)] with pwr := {wt.pwr with resetn := true, supply := true}}

def wDo : State := {wset wt [(DOM_STAT_ON, 0xfff), (DOM_CMD_CMDON, 0xfff)] with pwr := {wRa.pwr with rising := [20], falling := [12]}}

def wBo : State := {wset wt [(MODE_STATUS_STATE, usBoot)] with pwr := {wRa.pwr with romOk := false}}

def st177 : State := wset wMo [(CUS_STAT_CSTATE, csSTANDBY)]

def st178 : State := (wset (w) [(MODE_STATUS_PENDING, 6)]).modAtq fun x => {x with pend := [{tag := 7, opcode := 0x20, noReply := false, waits := .modeSet (some 1200) 6 0 false}]}

def st179 : State := wset (wm 4 wt) [(MODE_STATUS_DRAINING, 2)]

def st180 : State := wset (wm 0 wt) [(MODE_STATUS_DRAINING, 3)]

def st181 : State := wset wt [(PACE_CTRL_RUN, 1), (PACE_CTRL_MARGIN, 3)]

def st182 : State := wset wt [(PACE_CTRL_RUN, 1), (PACE_FLOOR 2, 0x200)]

def st183 : State := (wset wCu_c10 [(CUS_STAT_CSTATE, csACTIVE)]).modCus fun x => {x with copyAt := some 100, sending := some mc}

def st184 : State := (wset wCu_c10 [(CUS_STAT_CSTATE, csACTIVE)]).modCus fun x => {x with sending := some mc}

def st185 : State := wset wCu_c10 [(CUS_STAT_CSTATE, csACTIVE)]

def st186 : State := wHo.modCus fun x => {x with planned := false}

def st187 : State := (wset wCu_c10 [(CUS_STAT_CSTATE, csSTANDBY)]).modCus fun x => {x with hb := some 1000}

def st188 : State := (wset wCu_c10 [(CUS_STAT_CSTATE, csSTANDBY), (FAULT_CAUSE_RAIL, 1)]).modCus
  fun x => {x with hb := some 1000}

def st189 : State := wset wCu_c10 [(STRAP_ROLE, 2), (CUS_STAT_CSTATE, csACTIVE)]

def st190 : State := wset wCu_c10 [(CUS_STAT_CSTATE, csSEEK)]

def st191 : State := (wset wCu_c10 [(CUS_STAT_CSTATE, csSEEK)]).modTb fun x => {x with up := 10^12}

def st192 : State := ((wset wCu_c10 [(CUS_STAT_CSTATE, csYIELDED)]).modCus fun x => {x with orphan := some 4}).modTb
  fun x => {x with up := 10^12}

def st193 : State := {wRa with pwr := {wRa.pwr with railOut := [5, 1]}}

def st194 : State := {wset wRa [(CUS_STAT_CSTATE, csACTIVE)] with pwr := {wRa.pwr with railOut := [5, 1]}}

def st195 : State := {w with pwr := {w.pwr with resetn := false, supply := true}}

def st196 : State := {w with pwr := {w.pwr with resetn := true, supply := false}}

def st197 : State := (wRa.setMemWord 0x8000 77).modAtq fun x => {x with resetDue := true, pend := [{tag := 7, opcode := 0x20, noReply := false, waits := .modeSet (some 1200) 6 4 false}]}

def st198 : State := {wBo with pwr := {wBo.pwr with romOk := true}}

def st199 : State := {wset wBo [(STRAP_BOOTSRC,1)] with pwr := {wBo.pwr with romOk := true}}

def st200 : State := {wset wBo [(STRAP_BOOTSRC,1)] with pwr := {wBo.pwr with romOk := true, memOk := true}}

/-! ### Ill-formed commands are refused by the check -/

theorem illformed_too_many_words :
    (Instr.ident { p := List.replicate 131072 0 }).wf = false := by
  simp only [Instr.wf, Cmd.wf, List.length_replicate]
  decide

theorem illformed_record_too_long :
    (Instr.sewingArrival (.child 1 { type := 1, unit := 3, source := 0, seq := 0, tick := 0
                                     payload := List.replicate 1024 0 })).wf = false := by
  simp only [Instr.wf, Rec.wf, List.length_replicate]
  decide

/-- The first unit found lies below the head, not two levels down (R23). -/
theorem illformed_tree : (Instr.enumerate {} [{ depth := 2, port := 1, role := 0, ver := 3
                                                state := 2, rev := 1, prev := none }]).wf = false := by
  decide

theorem illformed_addresses :
    (Instr.faFrontEndWrite 0x20 0).wf = false ∧ (Instr.claimWrite 0x10 0).wf = false ∧
      (Instr.portSettingsWrite 0xF100C 0).wf = false := by
  decide

theorem illformed_packets :
    (Instr.commandPacket [] []).wf = false ∧ (Instr.commandPacket [1] []).wf = false ∧
      (Instr.frameReceived 1 { fsn := 0, ack := 0, cmds := [[]] }).wf = false := by
  decide

theorem illformed_group_reply :
    (Instr.groupReplyArrival { type := 3, unit := 3, source := 0, seq := 0, tick := 0 }).wf =
      false := by
  decide

theorem illformed_lengths :
    (Instr.samplingInstant 0 []).wf = false ∧
      (Instr.calibrationEnd [(3, List.replicate 257 [])]).wf = false ∧
      (Instr.boostTargetAdapt (List.replicate 9 (0, 0)) 0).wf = false ∧
      (Instr.flashCommandDone (List.replicate 257 0)).wf = false := by
  decide +kernel

theorem illformed_values :
    (Instr.memoryTestDone 32769).wf = false ∧ (Instr.resetnLow 500).wf = false ∧
      (Instr.copyComplete { boundary := 0, loops := [(2, {
        state := 0, cgen := 0, integ := 0, e1 := 0, out := 0, sections := [],
        slots := [((76, 0, 0), 0)] })] }).wf = false := by
  decide

/-! ### Values that the spec works out -/

/-- The check value of R447. -/
theorem test_crc_check_value :
    ~~~(([0x31, 0x32, 0x33, 0x34, 0x35, 0x36, 0x37, 0x38, 0x39] : List (BitVec 8)).foldl crcByte
      0xFFFFFFFF) = 0xCBF43926 := by
  decide +kernel

/-- The 3 MHz example of R173: the first wrap falls in tick 416, at step 85. -/
theorem test_nco_example : (ncoWrap 0 0 0x9D4952).1 = (416, 85) := by decide +kernel

/-- The hit word of the example after R101: channel 34, 1,250 ticks, FINE 21, width 2,560. -/
theorem test_hit_word :
    hitWord 34 3000000000 { stamp := { tick := 3000001250, fine := 21 }, moment := 0, came := 0
                            falling := false, width := some 2560 } = 0x880004E205400A00 := by
  decide +kernel

/-- What the answered state holds, if there is one. -/
def after {α : Type} (o : Host.Outcome State Fault Refusal) (f : State → α) : Option α :=
  match o with
  | .next t => some (f t)
  | _ => none

/-- The payload of the newest reply. -/
def lastReply (s : State) : Option (List W64) :=
  ((s.queue 0xF0).items.getLast?.bind (fun i => recOfWords i.words)).map (fun r => r.payload)

/-- R22: region 2 with COUNT 8,400 is below its floor with MARGIN 20h, and not with MARGIN 0. -/
theorem test_pace_example :
    after (Machine.exec (.paceWindowEnd 65535 65535 8400 65535)
        (wset wt [(PACE_CTRL_RUN, 1), (PACE_CTRL_MARGIN, 0x20)])) (fun t => t.get PACE_LOW) =
      some 4 ∧
    after (Machine.exec (.paceWindowEnd 65535 65535 8400 65535)
        (wset wt [(PACE_CTRL_RUN, 1), (PACE_CTRL_MARGIN, 0)])) (fun t => t.get PACE_LOW) =
      some 0 := by
  decide +kernel

/-- The event example of R461: source 547 enabled for PIN pulls EVTN and shows in bank 17. -/
theorem test_event_example :
    after (Machine.exec (.sourceRaise 547) (wt.wr 0x4488C 0xE0000000)) (fun t =>
      (t.rd 0x40144, okOf ((t.readReg EV_SUM.addr true).map (fun v => v.1)), t.evtnLow)) =
      some (8, some 0x20000, true) := by
  decide +kernel

/-- R424: a CVER that is not accepted is answered VERSION with DETAIL 43h, with the TAG. -/
theorem test_version_reply :
    after (Machine.exec (.ident { cver := 5, unit := 5, tag := 7 }) wt) lastReply =
      some (some [0x0543000000070000]) := by
  decide +kernel

/-- The TSYNC example of R76: a step by 999,999,750 ticks is pending and the rest is slewed. -/
theorem test_tsync_example :
    after (Machine.exec (.tsyncEdge 5000000250 100 true)
        ((wset wt [(TB_STATUS_HEAD, 1), (STRAP_HEAD, 1), (TB_STATUS_ALIGN, alHEAD),
            (TSYNC_CFG_MODE, 2), (TSYNC_LOAD_HI_EPOCH, 3), (TSYNC_LOAD_HI_TICK_H, 1),
            (TSYNC_LOAD_LO_TICK_L, 6000000000 - 2 ^ 32)]).modTb
          (fun x => { x with tick := 5000000250, tsArmed := true }))) (fun t =>
        (t.tb.steps.map (fun n => n.k), t.tb.slew)) = some ([999999750], -100) := by
  decide +kernel


/-! ### Witnesses that a closed computation cannot give -/

/-- Channel 40 with a hold-off of `h`. -/
def stHold (h : Nat) : State := wset (wm 2 wt) [(CH_CFG_EN 40, 1), (CH_LEVEL_HOLDOFF 40, h)]

/-- The moment of the stamp that raw bin 7 gives now. -/
def edgeMoment (h : Nat) : Int := (stHold h).elapsed ((stHold h).stampOf 40 (stHold h).now 7)

/-- The same, its last edge stamped at the very stamp that raw bin 7 gives now. -/
def stEdge (h : Nat) : State :=
  (stHold h).modTk 40 (fun k => { k with last := some (edgeMoment h) })

theorem tkOf_modTk (s : State) (c : Nat) (f : TkChan → TkChan) (h : c < s.tk.length) :
    (s.modTk c f).tkOf c = f (s.tkOf c) := by
  simp [State.modTk, State.tkOf, List.getD_eq_getElem?_getD, h]

theorem elapsed_stampOf_modTk (s : State) (c : Nat) (f : TkChan → TkChan) (d b : Nat) :
    (s.modTk c f).elapsed ((s.modTk c f).stampOf d (s.modTk c f).now b) =
      s.elapsed (s.stampOf d s.now b) := rfl

theorem stEdge_last (h : Nat) (hs : 40 < (stHold h).tk.length) :
    ((stEdge h).tkOf 40).last = some (edgeMoment h) := by
  unfold stEdge; rw [tkOf_modTk _ _ _ hs]

theorem stEdge_diff (h : Nat) :
    (stEdge h).elapsed ((stEdge h).stampOf 40 (stEdge h).now 7) - edgeMoment h = 0 := by
  unfold stEdge; rw [elapsed_stampOf_modTk]; exact Int.sub_self _

/-- The channel takes edges: it is on, past its start, released, and no injection is open. -/
def takesEdges (s : State) : Bool :=
  s.seesEdges 40 && s.leads 40 false && !(s.tkOf 40).active && (s.tkOf 40).inj.isEmpty &&
    decide ((s.tkOf 40).since < s.tb.up)

/-- An edge within the hold-off (R86). -/
theorem witness_held_off_edge :
    Sized (stEdge 100) ∧ takesEdges (stEdge 100) = true ∧
      ∃ l, ((stEdge 100).tkOf 40).last = some l ∧
        (stEdge 100).elapsed ((stEdge 100).stampOf 40 (stEdge 100).now 7) - l <
          ((stEdge 100).get (CH_LEVEL_HOLDOFF 40) * 1024 : Nat) := by
  refine ⟨by constructor <;> decide +kernel, by decide +kernel, _,
    stEdge_last 100 (by decide +kernel), ?_⟩
  rw [stEdge_diff]
  decide +kernel

/-- A pile-up edge: past a hold-off of 0 and within 12,800 fine units (R87). -/
theorem witness_pile_up_edge :
    Sized (stEdge 0) ∧ takesEdges (stEdge 0) = true ∧
      ∃ l, ((stEdge 0).tkOf 40).last = some l ∧
        ((stEdge 0).get (CH_LEVEL_HOLDOFF 40) * 1024 : Nat) ≤
          (stEdge 0).elapsed ((stEdge 0).stampOf 40 (stEdge 0).now 7) - l ∧
        (stEdge 0).elapsed ((stEdge 0).stampOf 40 (stEdge 0).now 7) - l < 12800 := by
  refine ⟨by constructor <;> decide +kernel, by decide +kernel, _,
    stEdge_last 0 (by decide +kernel), ?_⟩
  rw [stEdge_diff]
  decide +kernel

/-- A condition met at this tick, in an unarmed and in an armed unit (R140, R142). -/
theorem witness_conditions :
    (wTc.modeOn mLISTEN = true ∧ wTc.bit (TC_CFG_EN 7) = true ∧
      wTc.meets 7 (.trigin 1000 true) = some wTc.now ∧
      (∀ u, CondInput.trigin 1000 true ≠ .command u) ∧ wTc.armState ≠ armARMED) ∧
    (let s := wset wTc [(TRG_STAT_ARMST, armARMED), (TRG_STAT_ROOT, 5)]
     s.modeOn mLISTEN = true ∧ s.bit (TC_CFG_EN 7) = true ∧
      s.meets 7 (.trigin 1000 true) = some s.now ∧ s.armState = armARMED ∧ s.standby = false ∧
      s.trg.armWide ≤ s.wide s.now ∧ s.trg.slots = [] ∧ s.trg.fires = []) := by
  refine ⟨⟨?_, ?_, ?_, ?_, ?_⟩, ?_, ?_, ?_, ?_, ?_, ?_, ?_, ?_⟩
  case refine_4 => intro u h; cases h
  all_goals decide +kernel

/-- The state after reset has the form that every step keeps, and a step from it answers. -/
theorem witness_StepKeepsForm :
    Canonical State.reset ∧ Sized State.reset ∧
      after (Machine.step State.reset) (fun t => t.pending.isEmpty) = some true := by
  refine ⟨⟨by decide +kernel, by decide +kernel⟩, by constructor <;> decide +kernel,
    by decide +kernel⟩

/-- A short pulse of RESETN is the front command (R493). -/
theorem witness_StepStopsOnlyOnShortPulse :
    ∃ (s : State) (ns : BitVec 16), s.pending = [Instr.resetnLow ns] ∧ 100 < ns.toNat ∧
      ns.toNat < 1000 :=
  ⟨{ w with pending := [.resetnLow 500] }, 500, rfl, by decide, by decide⟩

/-- Two channels that sample, one with a ring word whose lag is over (R124, R125). -/
def stSample : State :=
  (wset (wm 2 wt) [(FA_CFG_EN 3, 1), (FA_CFG_EN 31, 1)]).modFa 3 (fun f =>
    { f with late := [(0x40000, 0x1234, 900)] })

theorem witness_SamplesFillRings :
    Sized stSample ∧ stSample.now.toNat % 4 = 0 ∧ stSample.domOn dCAPMEM = true ∧
      stSample.faRuns 3 = true ∧ stSample.paired 3 = false ∧
      (stSample.faOf 3).late = [(0x40000, 0x1234, 900)] ∧ (900 : Int) ≤ stSample.tb.up ∧
      ∀ c, c < 32 → c ≠ 3 → (stSample.faOf c).late = [] := by
  refine ⟨by constructor <;> decide +kernel, ?_⟩
  repeat' apply And.intro
  all_goals decide +kernel

/-! ### Witnesses of the statements -/

theorem witness_StepRunsFrontCommand :
    (w.pending = []) ∧ (st1.pending = [Instr.slewComplete, Instr.mirrorBoundary]) := by
  repeat' apply And.intro
  all_goals decide +kernel

theorem witness_IdleStepCountsOneTick :
    (w.pending = [] ∧ w.tb.started = false) ∧ (wt.pending = [] ∧ wt.tb.started = true ∧ wt.now ≠
    BitVec.allOnes 48) ∧ (st2.pending = [] ∧ st2.tb.started = true ∧ st2.now = BitVec.allOnes 48) := by
  repeat' apply And.intro
  all_goals decide +kernel

theorem witness_CounterStartsAndSteps :
    (w.domOn dPLL = true ∧ w.bit TB_STATUS_PLL_LOCK = false) ∧ ((wt.putB TB_STATUS_PLL_LOCK
    false).domOn dPLL = true ∧ (wt.putB TB_STATUS_PLL_LOCK false).bit TB_STATUS_PLL_LOCK = false)
    ∧ (st3.tb.started = true ∧ st3.tb.steps = [{ k := (-7 : Int), tick := (2000 : Tick) : StepNotice }]
    ∧ BitVec.toNat st3.now ≤ 2000 ∧ 2000 - BitVec.toNat st3.now < 2 ^ 47 ∧ (0 : Int) ≤ ↑(2000) +
    (-7 : Int) ∧ ↑(2000) + (-7 : Int) < (2 : Int) ^ 48) := by
  repeat' apply And.intro
  all_goals decide +kernel

theorem witness_HoldoverIsEnteredAndLeft :
    (st4.bit TB_STATUS_PLL_LOCK = true ∧ st4.alignState ≠ alHOLDOVER) ∧ (st5.bit TB_STATUS_PLL_LOCK =
    true ∧ st5.alignState = alHOLDOVER) ∧ (st4.alignState ≠ alHOLDOVER ∧ st4.alignState ≠
    alUNALIGNED) ∧ (st6.bit TB_CFG_REFOUT_EN = true ∧ st6.bit TB_STATUS_PLL_LOCK = true) ∧
    (st7.bit TB_CFG_REFOUT_EN = true ∧ st7.bit TB_STATUS_PLL_LOCK = true) ∧ (st8.bit
    TB_CFG_REFOUT_EN = false) ∧ ((st5.alignState = alHOLDOVER ∨ st5.alignState = alUNALIGNED)) ∧
    ((st9.alignState = alHOLDOVER ∨ st9.alignState = alUNALIGNED)) ∧ (st10.alignState = alHOLDOVER
    ∧ st10.bit TB_STATUS_TRACE = false ∧ st10.isHead = true) ∧ (st11.alignState = alHOLDOVER ∧
    st11.bit TB_STATUS_TRACE = false ∧ st11.isHead = true) ∧ (st12.alignState = alHOLDOVER ∧
    st12.bit TB_STATUS_TRACE = false ∧ st12.isHead = false ∧ st12.gxLive 0 = true ∧ st12.get
    (PORT_STAT_VER 0) = 3) ∧ (st5.alignState = alHOLDOVER ∧ st5.bit TB_STATUS_TRACE = false ∧
    st5.isHead = false ∧ st5.gxLive 0 = false) := by
  repeat' apply And.intro
  all_goals decide +kernel

theorem witness_WrapAndPeriodicMarkers :
    (st13.tb.started = true) ∧ (st13.tb.started = true ∧ 24 ≤ st13.get TB_CFG_PERIOD ∧ st13.get
    TB_CFG_PERIOD ≤ 47 ∧ 16777216 % 2 ^ st13.get TB_CFG_PERIOD = 0 ∧ BitVec.toNat ((16777216 :
    Tick) - st13.now) < 2 ^ st13.get TB_CFG_PERIOD) ∧ (st14.tb.started = true ∧ 24 ≤ st14.get
    TB_CFG_PERIOD ∧ st14.get TB_CFG_PERIOD ≤ 47 ∧ 0 % 2 ^ st14.get TB_CFG_PERIOD = 0 ∧
    BitVec.toNat ((0 : Tick) - st14.now) < 2 ^ st14.get TB_CFG_PERIOD) := by
  repeat' apply And.intro
  all_goals decide +kernel

theorem witness_TraceAndLinkReference :
    (st15.alignState ≠ alDEGRADED ∧ st15.bit TB_STATUS_TRACE = st15.traceNow) ∧ (st16.alignState =
    alDEGRADED ∧ st16.tb.steps = [] ∧ st16.bit TB_STATUS_PLL_LOCK = true ∧ st16.tb.handshake =
    some ((2 : BitVec 2), false) ∧ st16.bit TB_STATUS_TRACE = false) ∧ (st17.alignState =
    alDEGRADED ∧ st17.tb.handshake = some ((2 : BitVec 2), false) ∧ st17.bit TB_STATUS_TRACE =
    true) ∧ (st18.isHead = true) ∧ (st18.isHead = true ∧ st18.bit TB_CFG_SPINE_REF = false) ∧
    (st19.isHead = true ∧ st19.bit TB_CFG_SPINE_REF = true ∧ st19.gxState 0 ≠ gxDISABLED) := by
  repeat' apply And.intro
  all_goals decide +kernel

theorem witness_TsyncEdgesAndExchanges :
    (st20.domOn dPLL = true ∧ st20.get TSYNC_CFG_MODE ≠ 0 ∧ true = !st20.bit TSYNC_CFG_EDGE ∧
    (st20.tb.steps ≠ [] ∨ st20.isHead = false ∧ st20.tb.tsLoad = none)) ∧ (st21.domOn dPLL = true
    ∧ st21.get TSYNC_CFG_MODE ≠ 0 ∧ true = !st21.bit TSYNC_CFG_EDGE ∧ st21.isHead = true ∧ 2 ≤
    st21.get TSYNC_CFG_MODE ∧ st21.tb.tsArmed = true ∧ st21.tb.steps = [] ∧ 3 = st21.get
    TSYNC_LOAD_HI_EPOCH ∧ 900 = st21.get TSYNC_LOAD_HI_TICK_H * 2 ^ 32 + st21.get
    TSYNC_LOAD_LO_TICK_L) ∧ (Sized st22 ∧ st22.get (PORT_STAT_VER ↑(1 : Fin 5)) = 3 ∧ (↑(1 : Fin
    5) = 0 → st22.isHead = false)) ∧ (Sized st22 ∧ st22.get (PORT_STAT_VER ↑(1 : Fin 5)) = 3 ∧ ↑(1
    : Fin 5) ∈ [1, 2, 3] ∧ (List.find? (fun d => d.fst == { depTick := (960 : Tick), depFine := (7 : Fine), trace := true, step := false, align := (1 : BitVec 4), arrTick := (930 : Tick), arrFine := (8 : Fine), stepK := (0 : W32), stepHi := (0 : BitVec 25), seq := (8 : BitVec 8), arrSeq := (4 : BitVec 8) : TimeMark }.arrSeq)
    (st22.tbPort ↑(1 : Fin 5)).deps = some ((4 : BitVec 8), { tick := (900 : Tick), fine := (3 : Fine) : Stamp },
    st22.tb.gen)) ∧ st22.spansStep { depTick := (960 : Tick), depFine := (7 : Fine), trace := true, step := false, align := (1 : BitVec 4), arrTick := (930 : Tick), arrFine := (8 : Fine), stepK := (0 : W32), stepHi := (0 : BitVec 25), seq := (8 : BitVec 8), arrSeq := (4 : BitVec 8) : TimeMark }
    = false) ∧ (Sized st22 ∧ st22.get (PORT_STAT_VER ↑(1 : Fin 5)) = 3 ∧ ↑(1 : Fin 5) ∈ [1, 2, 3]
    ∧ (List.find? (fun d => d.fst == { depTick := (920 : Tick), depFine := (7 : Fine), trace := true, step := true, align := (1 : BitVec 4), arrTick := (930 : Tick), arrFine := (8 : Fine), stepK := (0 : W32), stepHi := (0 : BitVec 25), seq := (8 : BitVec 8), arrSeq := (4 : BitVec 8) : TimeMark }.arrSeq)
    (st22.tbPort ↑(1 : Fin 5)).deps = some ((4 : BitVec 8), { tick := (900 : Tick), fine := (3 : Fine) : Stamp },
    st22.tb.gen)) ∧ st22.spansStep { depTick := (920 : Tick), depFine := (7 : Fine), trace := true, step := true, align := (1 : BitVec 4), arrTick := (930 : Tick), arrFine := (8 : Fine), stepK := (0 : W32), stepHi := (0 : BitVec 25), seq := (8 : BitVec 8), arrSeq := (4 : BitVec 8) : TimeMark }
    = true) := by
  repeat' apply And.intro
  all_goals first
    | decide +kernel
    | (constructor <;> decide +kernel)

theorem witness_HitsAreStampedAndIntervalsOverflow :
    (Sized st23 ∧ st23.seesEdges (40) = true ∧ (40 < 32 → st23.inReset (40) = false) ∧ st23.leads (40)
    false = true ∧ (st23.slopeBoth (40) = true ∨ (st23.tkOf (40)).active = false) ∧ (st23.tkOf
    (40)).inj = [] ∧ (st23.tkOf (40)).since < ↑st23.tb.up ∧ (∀ (l : Int), (st23.tkOf (40)).last =
    some l → ↑(st23.get (CH_LEVEL_HOLDOFF (40))) * (1024 : Int) ≤ (fun l => st23.elapsed
    (st23.stampOf (40) st23.now (7)) - l) l ∧ (12800 : Int) ≤ (fun l => st23.elapsed (st23.stampOf
    (40) st23.now (7)) - l) l)) := by
  repeat' apply And.intro
  all_goals first
    | decide +kernel
    | (constructor <;> decide +kernel)

theorem witness_HitsAreQueuedInBlocks :
    (st24.seesEdges (40) = true ∧ st24.slopeBoth (40) = false ∧ (40 < 32 → st24.inReset (40) = false)
    ∧ (st24.tkOf (40)).run = [h0] ∧ h0.width = none ∧ (st24.tkOf (40)).inj = [] ∧ (st24.tkOf
    (40)).since < ↑st24.tb.up) ∧ (st45.seesEdges (40) = true ∧ st45.slopeBoth (40) = false ∧ (40 <
    32 → st45.inReset (40) = false) ∧ (st45.tkOf (40)).run = [h0] ∧ h0.width = none ∧ (st45.tkOf
    (40)).inj = [] ∧ (st45.tkOf (40)).since < ↑st45.tb.up) ∧ ((st25.tkOf (40)).run = [h1, h0] ∧
    h1.width = some (77 : BitVec 22) ∧ h1.came + (13 : Int) ≤ ↑st25.tb.up ∧ h1.cal = false ∧
    st25.publishesHits (40) = true ∧ (st25.tkOf (40)).buf.length < 64) ∧ ((st46.tkOf (40)).run =
    [h1, h0] ∧ h1.width = some (77 : BitVec 22) ∧ h1.came + (13 : Int) ≤ ↑st46.tb.up ∧ h1.cal =
    false ∧ st46.publishesHits (40) = true ∧ (st46.tkOf (40)).buf.length < 64) ∧ ((st26.tkOf
    (40)).run = [h1, h0] ∧ h1.width = some (77 : BitVec 22) ∧ h1.came + (13 : Int) ≤ ↑st26.tb.up ∧
    h1.cal = false ∧ st26.publishesHits (40) = true ∧ 64 ≤ (st26.tkOf (40)).buf.length) ∧
    ((st47.tkOf (40)).run = [h1, h0] ∧ h1.width = some (77 : BitVec 22) ∧ h1.came + (13 : Int) ≤
    ↑st47.tb.up ∧ h1.cal = false ∧ st47.publishesHits (40) = true ∧ 64 ≤ (st47.tkOf
    (40)).buf.length) ∧ ((st27.tkOf (40)).closed = none ∧ (st27.tkOf (40)).buf = [h1, h0] ∧
    (st27.tkOf (40)).block = [] ∧ 1 < st27.get HB_CFG_MAXLEN ∧ 40 < st27.tk.length) ∧ (40 <
    st28.tk.length ∧ (st28.tkOf (40)).closed = none ∧ ((st28.tkOf (40)).block = [let __src := h1;
    { stamp := { tick := (900 : Tick), fine := (5 : Fine) : Stamp }, moment := (900 : Int) * (1024 : Int) + (5 : Int), came := (900 : Int), falling := __src.falling, pile := __src.pile, width := __src.width, hold := __src.hold, gen := __src.gen, cal := __src.cal : Hit },
    h1]) ∧ ({ h1 with stamp := { tick := (900 : Tick), fine := (5 : Fine) : Stamp }, moment := (900 : Int) * (1024 : Int) + (5 : Int), came := (900 : Int) : Hit }).moment
    / (1024 : Int) + ↑(max 1 (st28.get HB_CFG_AGE) * 64) ≤ ↑st28.tb.up ∧ (∀ (n : Nat), n =
    grainsOf (3 + [h1].length) → Takes st28 (128 + 40) n)) := by
  repeat' apply And.intro
  all_goals first
    | decide +kernel
    | exact of_eq (P := fun _ => Takes _ _ _)
        ⟨by decide +kernel, by decide +kernel, by decide +kernel, by decide +kernel⟩

theorem witness_GradingKeepsTables :
    (Sized st29 ∧ st29.seesEdges (40) = true ∧ st29.bit TK_CFG_GRADE_EN = true ∧ (st29.tkOf
    (40)).active = false ∧ (st29.tkOf (40)).since < ↑st29.tb.up ∧ (∀ (e : Int), (st29.tkOf
    (40)).edge = some e → (32 : Int) < ↑st29.tb.up - e)) ∧ (Sized st30 ∧ (st30.tkOf (40)).inj =
    [((968 : Int), (5 : BitVec 7), true), ((999 : Int), (4 : BitVec 7), false)] ∧ (968 : Int) +
    (32 : Int) ≤ ↑st30.tb.up) ∧ (Sized st31 ∧ (st31.tkOf (40)).inj = [((968 : Int), (5 : BitVec
    7), false), ((999 : Int), (4 : BitVec 7), false)] ∧ st31.seesEdges (40) = true ∧ (968 : Int) +
    (32 : Int) ≤ ↑st31.tb.up ∧ [(5, 2), (9, 2)] = sparsePut (st31.tkOf (40)).hist (5) (sparseGet
    (st31.tkOf (40)).hist (5) 0 + 1) 0 ∧ histTotal [(5, 2), (9, 2)] < 65536) ∧ (Sized st32 ∧
    ((st32.tkOf (40)).newTab = some (List.map (fun x => x * 8) (List.range 128)))) ∧ (Sized st33 ∧
    st33.get TK_CFG_MAXAGE ≠ 0 ∧ st33.seesEdges (40) = true) := by
  repeat' apply And.intro
  all_goals first
    | decide +kernel
    | (constructor <;> decide +kernel)

theorem witness_SamplesFillRingsAndResetsRun :
    (Sized st34 ∧ (st34.faOf (3)).old = none ∧ st34.resets (3) = true ∧ st34.inReset (3) = false ∧
    bitOf (BitVec.ofNat 2 (st34.get (FA_RST_POLICY (3)))) 1 = true ∧ 2 ≤ (st34.faOf (3)).near ∧
    (st34.faOf (3)).due = none) ∧ (Sized st35 ∧ (st35.faOf (3)).old = none ∧ st35.resets (3) =
    true ∧ st35.inReset (3) = false ∧ bitOf (BitVec.ofNat 2 (st35.get (FA_RST_POLICY (3)))) 0 =
    true ∧ (st35.faOf (3)).deferred = none ∧ st35.periodicAt (3) = ↑st35.tb.up ∧ st35.bit
    (FA_RST_DEFER (3)) = false) ∧ (Sized st36 ∧ (st36.faOf (3)).old = none ∧ st36.resets (3) =
    true ∧ st36.inReset (3) = false ∧ (st36.faOf (3)).deferred = some ((1000 : Int) - (4096 :
    Int)) ∧ (st36.bit (FA_RST_DEFER (3)) = false ∨ st36.postOpen (3) = false ∧ st36.gateOpen (3) =
    false ∧ st36.openEnds (3) = [])) ∧ (Sized st36 ∧ (st36.faOf (3)).old = none ∧ st36.resets (3)
    = true ∧ st36.inReset (3) = false ∧ (st36.faOf (3)).deferred = some ((1000 : Int) - (4096 :
    Int)) ∧ (1000 : Int) - (4096 : Int) + ↑(st36.resetPeriod (3)) ≤ ↑st36.tb.up) ∧ (Sized st37 ∧
    (st37.faOf (3)).old = none ∧ (st37.faOf (3)).due = some (true, (1000 : Int)) ∧ (1000 : Int) ≤
    ↑st37.tb.up ∧ st37.resets (3) = true ∧ BitVec.toNat st37.now % 4 = 0) ∧ (Sized st38 ∧
    (st38.faOf (3)).old = none) ∧ (Sized st48 ∧ (st48.faOf (3)).old = none ∧ st48.resets (3) =
    true ∧ st48.inReset (3) = false ∧ bitOf (BitVec.ofNat 2 (st48.get (FA_RST_POLICY (3)))) 0 =
    true ∧ (st48.faOf (3)).deferred = none ∧ st48.periodicAt (3) = ↑st48.tb.up ∧ st48.bit
    (FA_RST_DEFER (3)) = true ∧ (st48.postOpen (3) || st48.gateOpen (3)) = true) := by
  repeat' apply And.intro
  all_goals first
    | decide +kernel
    | (constructor <;> decide +kernel)

theorem witness_FastChannelReportsAndGates :
    ((st39.faOf (3)).clipped = true ∧ (∀ (e : Nat × Nat), e ∈ st39.ev.lastRaise → e.fst = 193 + 2 * 3
    → e.snd + 12500 ≤ st39.tb.up)) ∧ ((wFa.faOf (3)).clipped = false) ∧ (st40.has FA_GCFG_ILV (1)
    = true ∧ st40.faRuns (2 * 1) = true ∧ (st40.faOf (2 * 1)).learnt = true ∧ (true = true → 2 ^
    20 ≤ (st40.faOf (2 * 1)).pairs) ∧ st40.bit (FA_STAT_MATCH_OK (2 * 1)) = !true) ∧ (Sized st41 ∧
    (st41.dmOf (2)).shot = some ({ tick := (900 : Tick) : Stamp }, (7 : W32)) ∧ { g := 0, lo := (905 : Tick), hi := (1001 : Tick), best := some (3, (5 : Int), (6 : Int)), spoil := true : Gate }
    ∈ (st41.dmOf (2)).gates ∧ { g := 0, lo := (905 : Tick), hi := (1001 : Tick), best := some (3, (5 : Int), (6 : Int)), spoil := true : Gate }.g
    = 0 ∧ { g := 0, lo := (905 : Tick), hi := (1001 : Tick), best := some (3, (5 : Int), (6 : Int)), spoil := true : Gate }.done
    = false ∧ (∀ (x : Gate), x ∈ (st41.dmOf (2)).gates → x.g = 0 → x = { g := 0, lo := (905 : Tick), hi := (1001 : Tick), best := some (3, (5 : Int), (6 : Int)), spoil := true : Gate })
    ∧ (∃ x, x ∈ (st41.dmOf (2)).gates ∧ x.g ≠ 0 ∧ x.done = false) ∧ Past st41 ({ g := 0, lo := (905 : Tick), hi := (1001 : Tick), best := some (3, (5 : Int), (6 : Int)), spoil := true : Gate }.hi
    - (1 : Tick))) ∧ (st44.has FA_GCFG_ILV (1) = true ∧ st44.faRuns (2 * 1) = true ∧ (st44.faOf (2
    * 1)).learnt = true ∧ (true = true → 2 ^ 20 ≤ (st44.faOf (2 * 1)).pairs) ∧ st44.bit
    (FA_STAT_MATCH_OK (2 * 1)) = true) := by
  repeat' apply And.intro
  all_goals first
    | decide +kernel
    | (constructor <;> decide +kernel)

theorem witness_SequencesReachPins :
    (st42.patState = paIDLE ∧ st42.pat.start = some ((0 : BitVec 10), (1000 : Tick), (7 : BitVec 16))
    ∧ Past st42 (1000 : Tick) ∧ st42.waitsForVector = false) ∧ (st43.patState = paSTOPPING ∧
    st43.pat.idleSince = some (996 : Tick) ∧ Past st43 ((996 : Tick) + BitVec.ofNat 48 (st43.get
    PAT_CFG_EXIT_T)) ∧ st43.modeOn mPROBE = false) ∧ (st50.patState = paSTOPPING ∧
    st50.pat.idleSince = some (990 : Tick) ∧ Past st50 ((990 : Tick) + BitVec.ofNat 48 (st50.get
    PAT_CFG_EXIT_T)) ∧ st50.modeOn mPROBE = false) ∧ (st49.patState = paSTARVED ∧
    st49.waitsForVector = true ∧ st49.bit PAT_CFG_STARVE_ACT = false ∧ st49.holdsPass = true) ∧
    (st51.patState = paRUN ∧ st51.pat.ended = false ∧ st51.waitsForVector = false ∧ st51.dueStart
    = some (((1000 : Tick), 3), (0 : W32), (1000 : Tick)) ∧ Past st51 (((1000 : Tick), 3).fst -
    (48 : Tick)) ∧ st51.fetchVec = some ((0 : BitVec 128), false, (0 : BitVec 16))) ∧
    (st52.patState = paRUN ∧ st52.pat.cur = some ({ o0 with gap := true, till := some ((990 : Tick), 3, (0 : W32), (990 : Tick)) : VecOut })
    ∧ ({ o0 with gap := true, till := some ((990 : Tick), 3, (0 : W32), (990 : Tick)) : VecOut }).last
    = false ∧ st52.pat.stops = [] ∧ st52.startAfter ({ o0 with gap := true, till := some ((990 : Tick), 3, (0 : W32), (990 : Tick)) : VecOut })
    st52.pat.acc st52.pat.ref = some (((990 : Tick), 3), (0 : W32), (990 : Tick)) ∧
    st52.pat.issued = [o0] ∧ o0.gap = false ∧ o0.spoilt = false ∧ Past st52 ((990 : Tick), 3).fst)
    ∧ (st53.pat.cur ≠ none ∧ st53.pat.pulses ≠ (0 : W32)) := by
  repeat' apply And.intro
  all_goals first
    | decide +kernel
    | (unfold Past; decide +kernel)

theorem witness_ComparesBranchesCalibration :
    (st54.pat.cur = some o0 ∧ st54.pat.strobed = false) ∧ ((List.find? (fun e => e.fst ==
    BranchInput.line (5 : BitVec 3)) st55.pat.inputs = some (BranchInput.line (5 : BitVec 3),
    995)) ∧ st55.patState = paRUN ∧ st55.branchMatches (st55.get PAT_STAT_SEG) (BranchInput.line
    (5 : BitVec 3)) = true ∧ st55.bit PAT_BR_PEND = false) ∧ ((List.find? (fun e => e.fst ==
    BranchInput.line (6 : BitVec 3)) st55.pat.inputs = none)) ∧ ((List.find? (fun e => e.fst ==
    BranchInput.line (5 : BitVec 3)) st56.pat.inputs = some (BranchInput.line (5 : BitVec 3),
    995)) ∧ (st56.patState ≠ paRUN ∨ st56.branchMatches (st56.get PAT_STAT_SEG) (BranchInput.line
    (5 : BitVec 3)) = false)) ∧ ((List.find? (fun e => e.fst == BranchInput.line (5 : BitVec 3))
    st57.pat.inputs = some (BranchInput.line (5 : BitVec 3), 995)) ∧ st57.patState = paRUN ∧
    st57.branchMatches (st57.get PAT_STAT_SEG) (BranchInput.line (5 : BitVec 3)) = true ∧ st57.bit
    PAT_BR_PEND = true) ∧ (st58.pat.cal = some ((34 : W32), true)) := by
  repeat' apply And.intro
  all_goals decide +kernel

theorem witness_TriggersAndCaptures :
    ((wGa.trg.gaths = [let __src := ga; { t0 := __src.t0, origin := __src.origin, id := __src.id, loc := __src.loc, cuts := __src.cuts, lo := __src.lo, hi := (1000 : Tick), cut := __src.cut, hold := __src.hold, set := __src.set, wide := __src.wide, gen := __src.gen : Gathering }])
    ∧ ({ ga with hi := (1000 : Tick) : Gathering }).cuts = [(3 : BitVec 5)] ∧ wGa.standby = false
    ∧ wGa.get TRG_CFG_QUEUE ≠ 241 ∧ wGa.elapsedAt ({ ga with hi := (1000 : Tick) : Gathering }).hi
    ({ ga with hi := (1000 : Tick) : Gathering }).gen ≤ ↑wGa.tb.up ∧ wGa.settleRings.slotLost (3)
    ({ ga with hi := (1000 : Tick) : Gathering }).lo ({ ga with hi := (1000 : Tick) : Gathering }).gen
    = false ∧ captureParts ({ ga with hi := (1000 : Tick) : Gathering }) (wGa.get TRG_AVG_NM1)
    (wGa.settleRings.outputs (3) ({ ga with hi := (1000 : Tick) : Gathering })) = [((960 : Tick),
    [(64885856 : W64), (1407383473487872 : W64), (844437815230467 : W64), (844437815230467 : W64),
    (196611 : W64)])] ∧ Takes wGa (wGa.get TRG_CFG_QUEUE) (grainsOf (2 + [(64885856 : W64),
    (1407383473487872 : W64), (844437815230467 : W64), (844437815230467 : W64), (196611 :
    W64)].length))) ∧ ((wGa.trg.gaths = [let __src := ga; { t0 := __src.t0, origin := __src.origin, id := __src.id, loc := __src.loc, cuts := __src.cuts, lo := __src.lo, hi := (1000 : Tick), cut := __src.cut, hold := __src.hold, set := __src.set, wide := __src.wide, gen := __src.gen : Gathering }])
    ∧ ({ ga with hi := (1000 : Tick) : Gathering }).cuts = [(3 : BitVec 5)] ∧ wGa.standby = false
    ∧ wGa.get TRG_CFG_QUEUE ≠ 241 ∧ Takes wGa (wGa.get TRG_CFG_QUEUE) 1) := by
  repeat' apply And.intro
  all_goals decide +kernel

theorem witness_ArmingAndFires :
    (wTc.standby = false ∧ wTc.isMember m0.members = true ∧ wTc.armState = armIDLE ∧ wTc.modeOn
    mLISTEN = true ∧ wTc.readyOrActive = true) ∧ (wTc.standby = false ∧ wTc.isMember ({ m0 with tick := (1001 : Tick) : TrigMark }).members
    = true ∧ wTc.armState = armIDLE ∧ wTc.modeOn mLISTEN = true ∧ wTc.readyOrActive = true) ∧
    (st59.armState = armPENDING ∧ Past st59 st59.armTick) ∧ ((st60.trg.arms = [let __src := jA; { tag := __src.tag, set := __src.set, root := __src.root, tick := __src.tick, members := __src.members, acks := [((5 : BitVec 6), ArmAck.onTime)] : ArmJob }])
    ∧ bitOf ({ jA with acks := [((5 : BitVec 6), ArmAck.onTime)] : ArmJob }).members (6) = true ∧
    (∀ (e : BitVec 6 × ArmAck), e ∈ ({ jA with acks := [((5 : BitVec 6), ArmAck.onTime)] : ArmJob }).acks
    → e.fst ≠ (6 : BitVec 6))) ∧ (wMa.trg.arms = [jA] ∧ wMa.rootBad jA.root.toNat = false ∧ Past
    wMa jA.tick ∧ (∀ (u : Nat), u ∈ setBits jA.members → ∃ a, a ∈ jA.acks ∧ a.fst.toNat = u ∧
    a.snd = ArmAck.onTime)) ∧ ((st61.trg.arms = [let __src := jA; { tag := __src.tag, set := __src.set, root := (9 : BitVec 6), tick := __src.tick, members := __src.members, acks := __src.acks : ArmJob }])
    ∧ st61.rootBad ({ jA with root := (9 : BitVec 6) : ArmJob }).root.toNat = true ∧ ({ jA with root := (9 : BitVec 6) : ArmJob }).set
    = st61.trg.setNo) ∧ (wAr.takesFire m0.tick = true ∧ m0.root = wAr.armRoot ∧ tickLt (m0.tick +
    wAr.settle) wAr.now = false) ∧ (st62.trg.fires = [{ mark := m0, own := false, loc := false, hold := 40, wide := (1000 : Int) : FireReq }]
    ∧ Past st62 ({ mark := m0, own := false, loc := false, hold := 40, wide := (1000 : Int) : FireReq }.mark.tick
    + { mark := m0, own := false, loc := false, hold := 40, wide := (1000 : Int) : FireReq }.settle)
    ∧ st62.judgedBy { mark := m0, own := false, loc := false, hold := 40, wide := (1000 : Int) : FireReq }
    = none ∧ (¬{ mark := m0, own := false, loc := false, hold := 40, wide := (1000 : Int) : FireReq }.set
    ∈ st62.trg.spent)) ∧ (st63.trg.fires = [{ mark := m0, own := false, loc := false, hold := 40, wide := (1000 : Int) : FireReq }]
    ∧ Past st63 ({ mark := m0, own := false, loc := false, hold := 40, wide := (1000 : Int) : FireReq }.mark.tick
    + { mark := m0, own := false, loc := false, hold := 40, wide := (1000 : Int) : FireReq }.settle)
    ∧ st63.judgedBy { mark := m0, own := false, loc := false, hold := 40, wide := (1000 : Int) : FireReq }
    = some ({ ga with loc := false : Gathering }) ∧ { mark := m0, own := false, loc := false, hold := 40, wide := (1000 : Int) : FireReq }.own
    = false ∧ { mark := m0, own := false, loc := false, hold := 40, wide := (1000 : Int) : FireReq }.tags
    = [] ∧ 8 < ({ mark := m0, own := false, loc := false, hold := 40, wide := (1000 : Int) : FireReq }.wide
    - ({ ga with loc := false : Gathering }).wide).toNat ∧ ({ mark := m0, own := false, loc := false, hold := 40, wide := (1000 : Int) : FireReq }.wide
    - ({ ga with loc := false : Gathering }).wide).toNat ≤ { mark := m0, own := false, loc := false, hold := 40, wide := (1000 : Int) : FireReq }.hold)
    ∧ (wAr.armState ≠ armIDLE ∧ ({ m0 with kind := (4 : BitVec 4), tick := (1001 : Tick) : TrigMark }).root
    = wAr.armRoot ∧ tickLe ({ m0 with kind := (4 : BitVec 4), tick := (1001 : Tick) : TrigMark }).tick
    wAr.now = false) ∧ (st64.trg.disarms = [((1000 : Tick), st64.trg.setNo)] ∧ Past st64 (1000 :
    Tick) ∧ st64.armState ≠ armIDLE) := by
  repeat' apply And.intro
  all_goals first
    | decide +kernel
    | (unfold Past; decide +kernel)

theorem witness_TriggerAndAnalogPins :
    (st65.trg.pulses = [st65.now] ∧ st65.bit TRG_IO_TO_EN = true ∧ st65.standby = false) ∧
    (st66.trg.pulseEnd = some st66.now) ∧ (BitVec.getLsbD st67.pins.aoBusy (4) = true) ∧ (st68.bit
    AO_GSTAT_CLRN = true) ∧ (st69.bit AO_GSTAT_CLRN = false) ∧ (st70.bit AO_GSTAT_HIRNG = true) ∧
    (st71.bit AO_GSTAT_HIRNG = false) := by
  repeat' apply And.intro
  all_goals decide +kernel

theorem witness_CoresConvertTheirPorts :
    (Sized wPc ∧ wPc.coreState (2) = cIDLE ∧ wPc.helping (2) = false ∧ wPc.domOn dPCV = true ∧
    (wPc.pcOf (2)).urgents = [] ∧ wPc.nextTurn (2) = some ((wPc.nextTurn 2).get!.fst, 4) ∧
    wPc.portState 4 = psWAIT ∧ (∀ (b : Bool), wPc.testDue (2 * 2 + b2n b) = false) ∧ (4 / 2 : Nat)
    = 2) ∧ (Sized st72 ∧ st72.coreState (2) = cIDLE ∧ st72.helping (2) = false ∧ st72.domOn dPCV =
    true ∧ (st72.pcOf (2)).urgents = [] ∧ st72.nextTurn (2) = some (((wset wPc [(PS_CFG_SETTLE 4,
    3)]).nextTurn 2).get!.fst, 4) ∧ st72.portState 4 = psWAIT ∧ (∀ (b : Bool), st72.testDue (2 * 2
    + b2n b) = false) ∧ (4 / 2 : Nat) = 2) ∧ (Sized st73 ∧ st73.coreState (2) = cSETTLE ∧
    (st73.pcOf (2)).recheck = false ∧ st73.corePort (2) / 2 = 2 ∧ Past st73 ((st73.pcOf
    (2)).convStart + BitVec.ofNat 48 (st73.get (PS_CFG_SETTLE (st73.corePort (2))) * 5000))) ∧
    (Sized st74 ∧ st74.coreState (2) = cIDLE ∧ st74.bit (PC_ILV_ACTIVE (2)) = false ∧ st74.helping
    (2) = false ∧ st74.standby = false ∧ st74.get (PS_IMP_PERIOD (2 * 2 + b2n false)) ≠ 0 ∧
    (st74.pcOf (2)).urgents = [] ∧ st74.portState (2 * 2 + b2n false) = psWAIT) ∧ (Sized wCv ∧
    wCv.coreState (2) = cCONVERT ∧ wCv.bit (PC_ILV_ACTIVE (2)) = false ∧ wCv.corePort (2) / 2 = 2
    ∧ phasesBy (wCv.corePort (2)) (wCv.convOf (2)).cfg = false ∧ Past wCv ((wCv.pcOf
    (2)).convStart + BitVec.ofNat 48 ((wCv.convOf (2)).d * 625))) ∧ (Sized st75 ∧ st75.coreState
    (2) = cSLOT ∧ st75.corePort (2) / 2 = 2 ∧ Past st75 ((st75.pcOf (2)).convStart + BitVec.ofNat
    48 tImp)) ∧ (Sized st76 ∧ st76.coreState (2) = cSLOT ∧ st76.corePort (2) / 2 = 2 ∧ Past st76
    ((st76.pcOf (2)).convStart + BitVec.ofNat 48 tImp)) ∧ (Sized wPc ∧ wPc.pwfOn (3) = false) ∧
    (Sized st77 ∧ st77.pwfOn (3) = true ∧ (st77.spOf (st77.get (PWF_CFG_PORT (3)))).last = some { value := (5 : BitVec 24), cal := (5 : BitVec 24), tick := (900 : Tick), done := (900 : Int), fault := true : PResult }
    ∧ { value := (5 : BitVec 24), cal := (5 : BitVec 24), tick := (900 : Tick), done := (900 : Int), fault := true : PResult }.fault
    = true ∧ st77.get (PWF_CFG_FSTATE (3)) = 2) := by
  repeat' apply And.intro
  all_goals first
    | decide +kernel
    | (unfold Past; decide +kernel)
    | (constructor <;> decide +kernel)

theorem witness_SensorFaultsAndCalibration :
    (Sized wPf ∧ (List.replicate 8 (List.replicate 6 (1000000000 : Int))).length = 8 ∧ (∀ (v : List
    Int), v ∈ List.replicate 8 (List.replicate 6 (1000000000 : Int)) → wPf.pinsOut (4) v ≠ 0) ∧
    wPf.portState (4) ∈ [psWAIT, psSETTLE, psCONVERT]) ∧ (Sized st78 ∧ (List.replicate 8
    (List.replicate 6 (-1000000000 : Int))).length = 8 ∧ (∀ (v : List Int), v ∈ List.replicate 8
    (List.replicate 6 (-1000000000 : Int)) → st78.pinsOut (4) v ≠ 0) ∧ st78.portState (4) ∈
    [psWAIT, psSETTLE, psCONVERT]) ∧ (Sized wPf ∧ List.replicate 7 (List.replicate 6 (1000000000 :
    Int)) ≠ [] ∧ (List.replicate 7 (List.replicate 6 (1000000000 : Int))).length < 8 ∧ (∀ (v :
    List Int), v ∈ List.replicate 7 (List.replicate 6 (1000000000 : Int)) → wPf.pinsOut (4) v ≠
    0)) ∧ (Sized wPf ∧ (∃ v, v ∈ [[(2500 : Int), (2500 : Int), (2500 : Int), (2500 : Int), (2500 :
    Int), (2500 : Int)]] ∧ wPf.pinsOut (4) v = 0)) ∧ (Sized st79 ∧ (st79.spOf (4)).cal = some { full := false, tag := (7 : BitVec 16), n := 4, fs := (0 : Int), sum := (-80 : Int), count := 4 : CalJob }
    ∧ { full := false, tag := (7 : BitVec 16), n := 4, fs := (0 : Int), sum := (-80 : Int), count := 4 : CalJob }.full
    = false ∧ { full := false, tag := (7 : BitVec 16), n := 4, fs := (0 : Int), sum := (-80 : Int), count := 4 : CalJob }.n
    ≤ { full := false, tag := (7 : BitVec 16), n := 4, fs := (0 : Int), sum := (-80 : Int), count := 4 : CalJob }.count
    ∧ 0 < { full := false, tag := (7 : BitVec 16), n := 4, fs := (0 : Int), sum := (-80 : Int), count := 4 : CalJob }.n
    ∧ { full := false, tag := (7 : BitVec 16), n := 4, fs := (0 : Int), sum := (-80 : Int), count := 4 : CalJob }.sum
    = (-20 : Int) * ↑{ full := false, tag := (7 : BitVec 16), n := 4, fs := (0 : Int), sum := (-80 : Int), count := 4 : CalJob }.n
    ∧ st79.bit (PC_ILV_ACTIVE (4 / 2)) = false) ∧ (Sized st80 ∧ (st80.spOf (4)).cal = some { full := false, tag := (7 : BitVec 16), n := 400, fs := (0 : Int), sum := (-80 : Int), count := 4 : CalJob }
    ∧ { full := false, tag := (7 : BitVec 16), n := 400, fs := (0 : Int), sum := (-80 : Int), count := 4 : CalJob }.count
    < { full := false, tag := (7 : BitVec 16), n := 400, fs := (0 : Int), sum := (-80 : Int), count := 4 : CalJob }.n
    ∧ { full := false, tag := (7 : BitVec 16), n := 400, fs := (0 : Int), sum := (-80 : Int), count := 4 : CalJob }.since
    + calLimit ≤ st80.tb.up) := by
  repeat' apply And.intro
  all_goals first
    | decide +kernel
    | (constructor <;> decide +kernel)

theorem witness_LoopsSampleAndLatch :
    (Sized wLo ∧ wLo.engineOn = true ∧ (wLo.ceOf (6)).notBefore = none ∧ (wLo.ceOf (6)).comp = none ∧
    wLo.loopState (6) = loOFF ∧ wLo.bit (LOOP_CFG_EN (6)) = true) ∧ (Sized st81 ∧ st81.engineOn =
    true ∧ (st81.ceOf (6)).notBefore = none ∧ (st81.ceOf (6)).comp = none ∧ st81.loopState (6) =
    loWAIT ∧ st81.bit (LOOP_CFG_EN (6)) = true ∧ st81.modeOn mREGULATE = true) ∧ (Sized st82 ∧
    st82.engineOn = true ∧ (st82.ceOf (6)).notBefore = none ∧ (st82.ceOf (6)).comp ≠ none) ∧
    (Sized st82 ∧ (st82.ceOf (6)).comp = some cs) ∧ (Sized st83 ∧ (st83.ceOf (6)).comp = some cs) := by
  repeat' apply And.intro
  all_goals first
    | decide +kernel
    | (constructor <;> decide +kernel)

theorem witness_DimmingDeratingAndMarkers :
    (Sized wLt ∧ wLt.domOn dLIGHT = true ∧ wLt.tb.started = true) ∧ (Sized wLs ∧ wLs.domOn dLIGHT =
    true ∧ wLs.tb.started = true) ∧ (Sized wLs) ∧ (Sized st84 ∧ (st84.mkOf (b2n true)).frame =
    some fr ∧ (st84.mkOf (b2n true)).next = none ∧ st84.frameEnd (b2n true) fr ≤ st84.tb.up) ∧
    (Sized st85 ∧ (st85.mkOf (b2n true)).frame = none ∧ (st85.mkOf (b2n true)).last = some fr ∧
    st85.get (MK_CFG_REFRESH (b2n true)) ≠ 0 ∧ st85.bit (MK_CFG_EN (b2n true)) = true ∧
    st85.modeOn mLIGHT = true ∧ st85.domOn dLIGHT = true ∧ st85.standby = false ∧ (st85.mkOf (b2n
    true)).ended + st85.get (MK_CFG_REFRESH (b2n true)) * 12500000 ≤ st85.tb.up) := by
  repeat' apply And.intro
  all_goals first
    | decide +kernel
    | (constructor <;> decide +kernel)

theorem witness_StringProbesAndBoost :
    (Sized wPr ∧ (wPr.strOf (3)).probe ≠ none) ∧ (Sized wPr ∧ (wPr.strOf (3)).probe ≠ none) ∧ (Sized
    st86 ∧ (st86.strOf (3)).probe ≠ none ∧ st86.bit (LS_STAT_SGND (3)) = false) ∧ (st87.boostState
    = bsSOFTSTART ∧ st87.get BST_CFG_VMIN ≤ 98 + 2 ∧ 98 ≤ st87.get BST_CFG_VMIN + 2 ∧
    st87.light.ramp.fst + st87.rampLength * rampStep ≤ st87.tb.up) ∧ (st88.bgateSwitches = true) ∧
    (st89.bgateSwitches = true) ∧ (wBa.boostState = bsREGULATE ∧ wBa.reportsHeadroom (3) = true ∧
    1 ≤ wBa.get BST_CFG_HEAD ∧ wBa.get BST_CFG_VMIN ≤ wBa.get BST_STAT_VTGT ∧ wBa.get
    BST_STAT_VTGT < wBa.get BST_CFG_VMAX ∧ wBa.get BST_CFG_VMAX ≤ 232) := by
  repeat' apply And.intro
  all_goals first
    | decide +kernel
    | (constructor <;> decide +kernel)

theorem witness_SieveRuns :
    (wSv.sieve.length = 32 ∧ wSv.sieveOn (3) = true ∧ (wSv.svOf (3)).next = some (980 : Tick) ∧
    (wSv.svOf (3)).gen = wSv.tb.gen ∧ wSv.elapsedAt (980 : Tick) + ↑wSv.svLag ≤ ↑wSv.tb.up ∧
    wSv.settleRings.slotLost (3) (980 : Tick) wSv.tb.gen = false ∧ (wSv.svOf (3)).run = false ∧
    (wSv.svOf (3)).base = some (6553700 : Int) ∧ (2 : Int) * (6553700 : Int) % (131072 : Int) ≠
    (65536 : Int) ∧ (100 : Int) = ((2 : Int) * (6553700 : Int) + (65536 : Int)) / (131072 : Int) ∧
    (200 : Int) = sampleOf (wSv.settleRings.ringWord (3) (980 : Tick)) ∧ wSv.inCapture (3)
    (wSv.elapsedAt (980 : Tick)) = false ∧ wSv.svThr (3) ≤ ((200 : Int) - (100 : Int)).natAbs ∧
    (wSv.svOf (3)).back.length < 1000) ∧ (st90.sieve.length = 32 ∧ st90.sieveOn (3) = true ∧
    (st90.svOf (3)).next = some (980 : Tick) ∧ (st90.svOf (3)).gen = st90.tb.gen ∧ st90.elapsedAt
    (980 : Tick) + ↑st90.svLag ≤ ↑st90.tb.up ∧ st90.settleRings.slotLost (3) (980 : Tick)
    st90.tb.gen = false ∧ (st90.svOf (3)).run = false ∧ (st90.svOf (3)).base = some (6553700 :
    Int) ∧ (2 : Int) * (6553700 : Int) % (131072 : Int) ≠ (65536 : Int) ∧ (100 : Int) = ((2 : Int)
    * (6553700 : Int) + (65536 : Int)) / (131072 : Int) ∧ (200 : Int) = sampleOf
    (st90.settleRings.ringWord (3) (980 : Tick)) ∧ st90.inCapture (3) (st90.elapsedAt (980 :
    Tick)) = false ∧ ((200 : Int) - (100 : Int)).natAbs < st90.svThr (3)) ∧ (st91.sieve.length =
    32 ∧ (st91.svOf (3)).run = true) ∧ (wSv.sieve.length = 32 ∧ (wSv.svOf (3)).run = false) := by
  repeat' apply And.intro
  all_goals decide +kernel

theorem witness_SewingOrders :
    (wSe.gx.length = 5 ∧ wSe.nextHeld = some { gen := 0, r := r2, port := 2 : HeldRec }) ∧
    (wSe.gx.length = 5 ∧ wSe.sew.urgent = [] ∧ heldGrains wSe.sew.held ≤ wSe.get SEW_LIM_GRAINS ∧
    wSe.nextHeld = some { gen := 0, r := r2, port := 2 : HeldRec }) ∧ (wSe.gx.length = 5 ∧
    wSe.sew.urgent = [] ∧ heldGrains wSe.sew.held ≤ wSe.get SEW_LIM_GRAINS ∧ wSe.nextHeld = some { gen := 0, r := r2, port := 2 : HeldRec }
    ∧ wSe.spineTakes { gen := 0, r := r2, port := 2 : HeldRec }.r = true ∧ tickDiff { gen := 0, r := r2, port := 2 : HeldRec }.r.tick
    wSe.now + ↑wSe.sewWindow ≤ (0 : Int)) ∧ (st92.gx.length = 5 ∧ st92.sew.inbox = [{ gen := 0, r := r1 : HeldRec }]
    ∧ { gen := 0, r := r1 : HeldRec }.r.type ≠ (8 : BitVec 4) ∧ st92.sew.urgent = [] ∧ (st92.has
    SEW_CFG_BYPASS { gen := 0, r := r1 : HeldRec }.r.type.toNat = true ∨ { gen := 0, r := r1 : HeldRec }.r.late
    = true)) ∧ (st92.gx.length = 5 ∧ st92.sew.inbox = [{ gen := 0, r := r1 : HeldRec }] ∧ { gen := 0, r := r1 : HeldRec }.r.type
    ≠ (8 : BitVec 4) ∧ st92.sew.urgent = [] ∧ (st92.has SEW_CFG_BYPASS { gen := 0, r := r1 : HeldRec }.r.type.toNat
    = true ∨ { gen := 0, r := r1 : HeldRec }.r.late = true) ∧ ({ pending := st92.pending, regs := st92.regs, mem := st92.mem, tb := st92.tb, ev := st92.ev, loam := st92.loam, sew := have __src := st92.sew; { held := __src.held, urgent := [{ gen := 0, r := r1 : HeldRec }], frontier := __src.frontier, stepsSeen := __src.stepsSeen, out := __src.out : Sewing }, sieve := st92.sieve, tk := st92.tk, iv := st92.iv, fa := st92.fa, trg := st92.trg, pat := st92.pat, dm := st92.dm, sp := st92.sp, pc := st92.pc, ce := st92.ce, light := st92.light, gx := st92.gx, atq := st92.atq, cus := st92.cus, pwr := st92.pwr, pins := st92.pins : State }.mayLeave
    { gen := 0, r := r1 : HeldRec } = true) ∧ st92.spineTakes { gen := 0, r := r1 : HeldRec }.r =
    true) ∧ (st93.gx.length = 5 ∧ (st93.sew.inbox = [{ gen := 0, r := let __src := r1; { type := __src.type, fver := __src.fver, unit := __src.unit, source := __src.source, seq := __src.seq, tick := (900 : Tick), fine := __src.fine, trial := __src.trial, holdover := __src.holdover, fault := __src.fault, ovf := __src.ovf, late := __src.late, cont := __src.cont, payload := __src.payload : Rec } : HeldRec }])
    ∧ ({ gen := 0, r := let __src := r1; { type := __src.type, fver := __src.fver, unit := __src.unit, source := __src.source, seq := __src.seq, tick := (900 : Tick), fine := __src.fine, trial := __src.trial, holdover := __src.holdover, fault := __src.fault, ovf := __src.ovf, late := __src.late, cont := __src.cont, payload := __src.payload : Rec } : HeldRec }.r.type
    ≠ (8 : BitVec 4)) ∧ st93.sew.urgent = [] ∧ (st93.has SEW_CFG_BYPASS { gen := 0, r := let __src := r1; { type := __src.type, fver := __src.fver, unit := __src.unit, source := __src.source, seq := __src.seq, tick := (900 : Tick), fine := __src.fine, trial := __src.trial, holdover := __src.holdover, fault := __src.fault, ovf := __src.ovf, late := __src.late, cont := __src.cont, payload := __src.payload : Rec } : HeldRec }.r.type.toNat
    = false) ∧ ({ gen := 0, r := let __src := r1; { type := __src.type, fver := __src.fver, unit := __src.unit, source := __src.source, seq := __src.seq, tick := (900 : Tick), fine := __src.fine, trial := __src.trial, holdover := __src.holdover, fault := __src.fault, ovf := __src.ovf, late := __src.late, cont := __src.cont, payload := __src.payload : Rec } : HeldRec }.r.late
    = false) ∧ (st93.comesLate { gen := 0, r := let __src := r1; { type := __src.type, fver := __src.fver, unit := __src.unit, source := __src.source, seq := __src.seq, tick := (900 : Tick), fine := __src.fine, trial := __src.trial, holdover := __src.holdover, fault := __src.fault, ovf := __src.ovf, late := __src.late, cont := __src.cont, payload := __src.payload : Rec } : HeldRec }.r
    = true) ∧ ({ pending := st93.pending, regs := st93.regs, mem := st93.mem, tb := st93.tb, ev := st93.ev, loam := st93.loam, sew := have __src := st93.sew; { held := __src.held, urgent := [{ gen := { gen := 0, r := let __src := r1; { type := __src.type, fver := __src.fver, unit := __src.unit, source := __src.source, seq := __src.seq, tick := (900 : Tick), fine := __src.fine, trial := __src.trial, holdover := __src.holdover, fault := __src.fault, ovf := __src.ovf, late := __src.late, cont := __src.cont, payload := __src.payload : Rec } : HeldRec }.gen, r := have __src := { gen := 0, r := let __src := r1; { type := __src.type, fver := __src.fver, unit := __src.unit, source := __src.source, seq := __src.seq, tick := (900 : Tick), fine := __src.fine, trial := __src.trial, holdover := __src.holdover, fault := __src.fault, ovf := __src.ovf, late := __src.late, cont := __src.cont, payload := __src.payload : Rec } : HeldRec }.r; { type := __src.type, fver := __src.fver, unit := __src.unit, source := __src.source, seq := __src.seq, tick := __src.tick, fine := __src.fine, trial := __src.trial, holdover := __src.holdover, fault := __src.fault, ovf := __src.ovf, late := true, cont := __src.cont, payload := __src.payload : Rec } : HeldRec }], frontier := __src.frontier, stepsSeen := __src.stepsSeen, out := __src.out : Sewing }, sieve := st93.sieve, tk := st93.tk, iv := st93.iv, fa := st93.fa, trg := st93.trg, pat := st93.pat, dm := st93.dm, sp := st93.sp, pc := st93.pc, ce := st93.ce, light := st93.light, gx := st93.gx, atq := st93.atq, cus := st93.cus, pwr := st93.pwr, pins := st93.pins : State }.mayLeave
    { gen := { gen := 0, r := let __src := r1; { type := __src.type, fver := __src.fver, unit := __src.unit, source := __src.source, seq := __src.seq, tick := (900 : Tick), fine := __src.fine, trial := __src.trial, holdover := __src.holdover, fault := __src.fault, ovf := __src.ovf, late := __src.late, cont := __src.cont, payload := __src.payload : Rec } : HeldRec }.gen, r := have __src := { gen := 0, r := let __src := r1; { type := __src.type, fver := __src.fver, unit := __src.unit, source := __src.source, seq := __src.seq, tick := (900 : Tick), fine := __src.fine, trial := __src.trial, holdover := __src.holdover, fault := __src.fault, ovf := __src.ovf, late := __src.late, cont := __src.cont, payload := __src.payload : Rec } : HeldRec }.r; { type := __src.type, fver := __src.fver, unit := __src.unit, source := __src.source, seq := __src.seq, tick := __src.tick, fine := __src.fine, trial := __src.trial, holdover := __src.holdover, fault := __src.fault, ovf := __src.ovf, late := true, cont := __src.cont, payload := __src.payload : Rec } : HeldRec }
    = true) ∧ (st93.spineTakes { gen := { gen := 0, r := let __src := r1; { type := __src.type, fver := __src.fver, unit := __src.unit, source := __src.source, seq := __src.seq, tick := (900 : Tick), fine := __src.fine, trial := __src.trial, holdover := __src.holdover, fault := __src.fault, ovf := __src.ovf, late := __src.late, cont := __src.cont, payload := __src.payload : Rec } : HeldRec }.gen, r := have __src := { gen := 0, r := let __src := r1; { type := __src.type, fver := __src.fver, unit := __src.unit, source := __src.source, seq := __src.seq, tick := (900 : Tick), fine := __src.fine, trial := __src.trial, holdover := __src.holdover, fault := __src.fault, ovf := __src.ovf, late := __src.late, cont := __src.cont, payload := __src.payload : Rec } : HeldRec }.r; { type := __src.type, fver := __src.fver, unit := __src.unit, source := __src.source, seq := __src.seq, tick := __src.tick, fine := __src.fine, trial := __src.trial, holdover := __src.holdover, fault := __src.fault, ovf := __src.ovf, late := true, cont := __src.cont, payload := __src.payload : Rec } : HeldRec }.r
    = true)) ∧ (st94.gx.length = 5 ∧ st94.sew.inbox = [{ gen := 0, r := r1 : HeldRec }] ∧ { gen := 0, r := r1 : HeldRec }.r.type
    ≠ (8 : BitVec 4) ∧ st94.sew.urgent = [] ∧ st94.has SEW_CFG_BYPASS { gen := 0, r := r1 : HeldRec }.r.type.toNat
    = false ∧ { gen := 0, r := r1 : HeldRec }.r.late = false ∧ st94.comesLate { gen := 0, r := r1 : HeldRec }.r
    = false ∧ heldGrains (st94.sew.held ++ [{ gen := 0, r := r1 : HeldRec }]) ≤ st94.get
    SEW_LIM_GRAINS) ∧ (st95.gx.length = 5 ∧ st95.sew.urgent = [] ∧ heldGrains st95.sew.held ≤
    st95.get SEW_LIM_GRAINS ∧ st95.nextHeld = some { gen := 0, r := r2, port := 2 : HeldRec } ∧
    st95.spineTakes { gen := 0, r := r2, port := 2 : HeldRec }.r = false) ∧ (st96.gx.length = 5 ∧
    st96.sew.inbox = [{ gen := 0, r := r1 : HeldRec }] ∧ { gen := 0, r := r1 : HeldRec }.r.type ≠
    (8 : BitVec 4) ∧ st96.sew.urgent = [] ∧ (st96.has SEW_CFG_BYPASS { gen := 0, r := r1 : HeldRec }.r.type.toNat
    = true ∨ { gen := 0, r := r1 : HeldRec }.r.late = true) ∧ st96.spineTakes { gen := 0, r := r1 : HeldRec }.r
    = false) ∧ (st97.gx.length = 5 ∧ r1.type ≠ (8 : BitVec 4) ∧ r1.type ≠ (0 : BitVec 4) ∧
    st97.sew.urgent = [] ∧ st97.has SEW_CFG_BYPASS r1.type.toNat = true ∧ st97.spineTakes r1 =
    true ∧ (∀ (x : HeldRec), x ∈ st97.sew.held → x.r.unit = r1.unit → (st97.stepsOf r1).fst ≤
    x.gen)) := by
  repeat' apply And.intro
  all_goals decide +kernel

theorem witness_QueuesItemsAndStalls :
    ((st98.queue (18)).items = [{ words := recWords r1 : Item }, { words := [(1 : W64)] : Item }] ∧
    (18 : BitVec 8) ≠ (255 : BitVec 8) ∧ { words := recWords r1 : Item }.bad = [] ∧ st98.get
    (Q_CFG_CONS (18)) = 0 ∧ st98.bit ENUM_STAT_VALID = true ∧ st98.sewingFull = false ∧
    st98.loam.quar ≤ st98.get LP_CFG_QLIM ∧ recOfWords { words := recWords r1 : Item }.words =
    some r1) ∧ ((st99.queue (18)).stall = some { tag := (7 : BitVec 16), timed := true : Stall }
    ∧ { tag := (7 : BitVec 16), timed := true : Stall }.timed = true ∧ (st99.queue (18)).items =
    [] ∧ (∃ p, p ∈ st99.atq.pend ∧ p.tag = { tag := (7 : BitVec 16), timed := true : Stall }.tag)
    ∧ (∀ (p : Pend), p ∈ st99.atq.pend → p.waits.isReady = false) ∧ (18 : BitVec 8) ≠ (241 :
    BitVec 8) ∧ (st99.queue 241).stall = none) ∧ (st100.patState = paSTARVED ∧ st100.bit
    (Q_FLAG_STALLED st100.streamQueue) = true ∧ st100.get (Q_STALL_LIMIT st100.streamQueue) ≠ 0 ∧
    st100.pat.timedOut = false) ∧ (wt.bit LP_QUAR_BUSY = false) ∧ (st101.bit LP_QUAR_BUSY = true ∧
    (st101.queue 241).stall = none) ∧ (Takes wQ (18) (grainsOf [(1 : W64), (2 : W64), (3 :
    W64)].length) ∧ wQ.get (Q_LIM_WM (18)) = 0) ∧ (wt.domOn dLOAM = true ∧ wt.admission (18)
    (grainsOf (recWords ({ r1 with type := (5 : BitVec 4) : Rec })).length) = some 609 ∧
    recOfWords (recWords ({ r1 with type := (5 : BitVec 4) : Rec })) = some ({ r1 with type := (5 : BitVec 4) : Rec })
    ∧ ({ r1 with type := (5 : BitVec 4) : Rec }).type.toNat ∈ [3, 4, 5, 6]) ∧ (wt.domOn dLOAM =
    true ∧ wt.admission (18) (grainsOf (recWords ({ r1 with type := (9 : BitVec 4) : Rec })).length)
    = some 609 ∧ recOfWords (recWords ({ r1 with type := (9 : BitVec 4) : Rec })) = some ({ r1 with type := (9 : BitVec 4) : Rec })
    ∧ ({ r1 with type := (9 : BitVec 4) : Rec }).type.toNat ∈ [0, 8, 9, 10]) ∧ (st116.loam.waiting
    = [((18 : BitVec 8), { words := [(7 : W64), (8 : W64), (9 : W64)] : Item }), ((19 : BitVec 8),
    { words := [(1 : W64)] : Item })] ∧ (18 < 128 ∨ 191 < 18) ∧ Takes st116 (18) (itemGrains { words := [(7 : W64), (8 : W64), (9 : W64)] : Item })
    ∧ st116.get (Q_LIM_WM (18)) = 0) := by
  repeat' apply And.intro
  all_goals decide +kernel

theorem witness_PortTraining :
    (wGx.gx.length = 5 ∧ wGx.gxState ↑(2 : Fin 5) = gxDETECT ∧ (¬((2 : Fin 5) = (0 : Fin 5) ∧
    wGx.spineHeld = true)) ∧ (false = true → wGx.gxInitiator ↑(2 : Fin 5) = true → wGx.gxVmin ↑(2
    : Fin 5) = 1)) ∧ (wGx.gx.length = 5 ∧ wGx.gxState ↑(2 : Fin 5) = gxDETECT ∧ (¬((2 : Fin 5) =
    (0 : Fin 5) ∧ wGx.spineHeld = true)) ∧ (true = true → wGx.gxInitiator ↑(2 : Fin 5) = true →
    wGx.gxVmin ↑(2 : Fin 5) = 1)) ∧ (st102.gx.length = 5 ∧ st102.gxState ↑(2 : Fin 5) = gxTRAIN ∧
    ((3 : BitVec 4) = (15 : BitVec 4) ∧ (2 : Fin 5) = (0 : Fin 5) ∧ 2 = 3 ∨ (3 : BitVec 4) = (3 :
    BitVec 4) ∧ (2 : Fin 5) ≠ (0 : Fin 5) ∧ 2 = 2 ∨ (3 : BitVec 4) = (3 : BitVec 4) ∧ (2 : Fin 5)
    = (0 : Fin 5) ∧ st102.bit (GX_PCFG_NARROW ↑(2 : Fin 5)) = true ∧ 2 = 2 ∨ (3 : BitVec 4) = (1 :
    BitVec 4) ∧ st102.bit (GX_PCFG_NARROW ↑(2 : Fin 5)) = true ∧ 2 = 1)) ∧ (st103.gx.length = 5 ∧
    st103.gxState ↑(0 : Fin 5) = gxTRAIN ∧ ((15 : BitVec 4) = (15 : BitVec 4) ∧ (0 : Fin 5) = (0 :
    Fin 5) ∧ 3 = 3 ∨ (15 : BitVec 4) = (3 : BitVec 4) ∧ (0 : Fin 5) ≠ (0 : Fin 5) ∧ 3 = 2 ∨ (15 :
    BitVec 4) = (3 : BitVec 4) ∧ (0 : Fin 5) = (0 : Fin 5) ∧ st103.bit (GX_PCFG_NARROW ↑(0 : Fin
    5)) = true ∧ 3 = 2 ∨ (15 : BitVec 4) = (1 : BitVec 4) ∧ st103.bit (GX_PCFG_NARROW ↑(0 : Fin
    5)) = true ∧ 3 = 1)) ∧ (st104.gx.length = 5 ∧ (Instr.trainTimeout (2 : Fin 5), gxTRAIN, 10 *
    msTicks) ∈ [(Instr.trainTimeout (2 : Fin 5), gxTRAIN, 10 * msTicks), (Instr.roundTimeout (2 :
    Fin 5), gxNEGOTIATE, msTicks / 10), (Instr.recoverTimeout (2 : Fin 5), gxRECOVER, msTicks)] ∧
    st104.gxState ↑(2 : Fin 5) = gxTRAIN ∧ (st104.gxOf ↑(2 : Fin 5)).since + 10 * msTicks ≤
    st104.tb.up) ∧ (st105.gx.length = 5 ∧ (Instr.recoverTimeout (2 : Fin 5), gxRECOVER, msTicks) ∈
    [(Instr.trainTimeout (2 : Fin 5), gxTRAIN, 10 * msTicks), (Instr.roundTimeout (2 : Fin 5),
    gxNEGOTIATE, msTicks / 10), (Instr.recoverTimeout (2 : Fin 5), gxRECOVER, msTicks)] ∧
    st105.gxState ↑(2 : Fin 5) = gxRECOVER ∧ (st105.gxOf ↑(2 : Fin 5)).since + msTicks ≤
    st105.tb.up) ∧ (wGx.gx.length = 5 ∧ (Instr.recoverTimeout (2 : Fin 5), gxRECOVER, msTicks) ∈
    [(Instr.trainTimeout (2 : Fin 5), gxTRAIN, 10 * msTicks), (Instr.roundTimeout (2 : Fin 5),
    gxNEGOTIATE, msTicks / 10), (Instr.recoverTimeout (2 : Fin 5), gxRECOVER, msTicks)] ∧
    wGx.gxState ↑(2 : Fin 5) ≠ gxRECOVER) ∧ (st106.gx.length = 5 ∧ st106.gxState ↑(2 : Fin 5) =
    gxDETECT ∧ st106.gxInitiator ↑(2 : Fin 5) = true ∧ (st106.gxOf ↑(2 : Fin 5)).since + 2 *
    msTicks ≤ st106.tb.up) ∧ (st117.gx.length = 5 ∧ st117.gxState ↑(2 : Fin 5) = gxTRAIN ∧
    st117.bit (GX_PCFG_NARROW ↑(2 : Fin 5)) = false) := by
  repeat' apply And.intro
  all_goals decide +kernel

theorem witness_PortNegotiation :
    (wNe.gx.length = 5 ∧ ((2 : Fin 5) ≠ (0 : Fin 5) ∨ wNe.isHead = true) ∧ wNe.gxState ↑(2 : Fin 5) =
    gxNEGOTIATE ∧ (wNe.gxOf ↑(2 : Fin 5)).rounds < 7) ∧ (st107.gx.length = 5 ∧ ((2 : Fin 5) ≠ (0 :
    Fin 5) ∨ st107.isHead = true) ∧ st107.gxState ↑(2 : Fin 5) = gxNEGOTIATE ∧ 7 ≤ (st107.gxOf ↑(2
    : Fin 5)).rounds ∧ (2 = if st107.bit (GX_PSTAT_HALF ↑(2 : Fin 5)) = true then 1 else min
    (st107.gxOf ↑(2 : Fin 5)).vmax (max 1 ro.vmax.toNat)) ∧ 1 ≤ (st107.gxOf ↑(2 : Fin 5)).vmax ∧
    (st107.gxOf ↑(2 : Fin 5)).vmax ≤ 3 ∧ st107.gxVmin ↑(2 : Fin 5) ≤ 2) ∧ (st108.gx.length = 5 ∧
    ((2 : Fin 5) ≠ (0 : Fin 5) ∨ st108.isHead = true) ∧ st108.gxState ↑(2 : Fin 5) = gxNEGOTIATE ∧
    7 ≤ (st108.gxOf ↑(2 : Fin 5)).rounds ∧ (2 = if st108.bit (GX_PSTAT_HALF ↑(2 : Fin 5)) = true
    then 1 else min (st108.gxOf ↑(2 : Fin 5)).vmax (max 1 ro.vmax.toNat)) ∧ 1 ≤ (st108.gxOf ↑(2 :
    Fin 5)).vmax ∧ (st108.gxOf ↑(2 : Fin 5)).vmax ≤ 3 ∧ 2 < st108.gxVmin ↑(2 : Fin 5)) ∧
    (wRe.gx.length = 5 ∧ ((2 : Fin 5) ≠ (0 : Fin 5) ∨ wRe.isHead = true) ∧ wRe.gxState ↑(2 : Fin
    5) = gxRECOVER ∧ (wRe.gxOf ↑(2 : Fin 5)).ver ≤ 3) ∧ (st109.gx.length = 5 ∧ ((2 : Fin 5) ≠ (0 :
    Fin 5) ∨ st109.isHead = true) ∧ st109.gxState ↑(2 : Fin 5) = gxRECOVER ∧ (st109.gxOf ↑(2 : Fin
    5)).ver ≤ 3) ∧ (wNe.gx.length = 5 ∧ ((2 : Fin 5) ≠ (0 : Fin 5) ∨ wNe.isHead = true) ∧
    wNe.gxState ↑(2 : Fin 5) ≠ gxRECOVER) := by
  repeat' apply And.intro
  all_goals decide +kernel

theorem witness_PortFrames :
    (wUp.gx.length = 5 ∧ wUp.gxLive ↑(2 : Fin 5) = true ∧ { fsn := (8 : BitVec 12), ack := (99 : BitVec 12), cred0 := (4 : BitVec 16), cred1 := (5 : BitVec 16) : Frame }.headerOk
    = true ∧ { fsn := (8 : BitVec 12), ack := (99 : BitVec 12), cred0 := (4 : BitVec 16), cred1 := (5 : BitVec 16) : Frame }.ok
    = true ∧ { fsn := (8 : BitVec 12), ack := (99 : BitVec 12), cred0 := (4 : BitVec 16), cred1 := (5 : BitVec 16) : Frame }.fsn
    = (wUp.gxOf ↑(2 : Fin 5)).got + (1 : BitVec 12) ∧ (∀ (k : Frame), k ∈ (wUp.gxOf ↑(2 : Fin
    5)).kept → k.fsn ≠ { fsn := (8 : BitVec 12), ack := (99 : BitVec 12), cred0 := (4 : BitVec 16), cred1 := (5 : BitVec 16) : Frame }.ack))
    ∧ (wUp.gx.length = 5 ∧ wUp.gxLive ↑(2 : Fin 5) = true ∧ { fsn := (7 : BitVec 12), ack := (99 : BitVec 12), cred0 := (4 : BitVec 16), cred1 := (5 : BitVec 16) : Frame }.headerOk
    = true ∧ { fsn := (7 : BitVec 12), ack := (99 : BitVec 12), cred0 := (4 : BitVec 16), cred1 := (5 : BitVec 16) : Frame }.ok
    = true ∧ { fsn := (7 : BitVec 12), ack := (99 : BitVec 12), cred0 := (4 : BitVec 16), cred1 := (5 : BitVec 16) : Frame }.fsn
    = (wUp.gxOf ↑(2 : Fin 5)).got) ∧ (wUp.gx.length = 5 ∧ wUp.gxLive ↑(2 : Fin 5) = true ∧ { fsn := (8 : BitVec 12), ack := (99 : BitVec 12), cred0 := (4 : BitVec 16), ok := false : Frame }.headerOk
    = true ∧ { fsn := (8 : BitVec 12), ack := (99 : BitVec 12), cred0 := (4 : BitVec 16), ok := false : Frame }.ok
    = false) ∧ (wUp.gx.length = 5 ∧ wUp.gxLive ↑(2 : Fin 5) = true ∧ (∀ (k : Frame), k ∈ (wUp.gxOf
    ↑(2 : Fin 5)).kept → k.fsn ≠ (99 : BitVec 12)) ∧ (wUp.gxOf ↑(2 : Fin 5)).naks < 7) ∧
    (st110.gx.length = 5 ∧ st110.gxLive ↑(2 : Fin 5) = true ∧ (∀ (k : Frame), k ∈ (st110.gxOf ↑(2
    : Fin 5)).kept → k.fsn ≠ (99 : BitVec 12)) ∧ 7 ≤ (st110.gxOf ↑(2 : Fin 5)).naks) ∧
    (st111.gx.length = 5 ∧ st111.gxState ↑(2 : Fin 5) = gxUP ∧ st111.bit (GX_INJ_EN ↑(2 : Fin 5))
    = false ∧ (st111.gxOf ↑(2 : Fin 5)).heldFrames = [] ∧ (st111.gxOf ↑(2 : Fin 5)).replay = [{ fsn := (4 : BitVec 12), ack := (1 : BitVec 12) : Frame },
    { fsn := (5 : BitVec 12), ack := (1 : BitVec 12) : Frame }]) ∧ (wUp.gx.length = 5 ∧
    wUp.gxState ↑(2 : Fin 5) = gxUP ∧ wUp.bit (GX_INJ_EN ↑(2 : Fin 5)) = false ∧ (wUp.gxOf ↑(2 :
    Fin 5)).heldFrames = [] ∧ (wUp.gxOf ↑(2 : Fin 5)).replay = [] ∧ (wUp.gxOf ↑(2 : Fin
    5)).kept.length < 64) ∧ (st112.gx.length = 5 ∧ st112.gxState ↑(2 : Fin 5) = gxUP ∧ st112.bit
    (GX_INJ_EN ↑(2 : Fin 5)) = false ∧ (st112.gxOf ↑(2 : Fin 5)).heldFrames = [] ∧ (st112.gxOf ↑(2
    : Fin 5)).replay = [] ∧ 64 ≤ (st112.gxOf ↑(2 : Fin 5)).kept.length) ∧ (st113.gx.length = 5 ∧
    st113.gxState ↑(2 : Fin 5) = gxUP ∧ st113.bit (GX_PCFG_IDLE_EN ↑(2 : Fin 5)) = true ∧
    st113.gxBusy ↑(2 : Fin 5) = false ∧ (st113.gxOf ↑(2 : Fin 5)).lastData + 16 * max 1 (st113.get
    (GX_PCFG_IDLE_T ↑(2 : Fin 5))) ≤ st113.tb.up) ∧ (st114.gx.length = 5 ∧ st114.gxState ↑(2 : Fin
    5) = gxIDLE) ∧ (wUp.gx.length = 5 ∧ (wUp.gxLive ↑(2 : Fin 5) = false ∨ false = false ∨ false =
    true)) ∧ (st115.gx.length = 5 ∧ st115.gxLive ↑(2 : Fin 5) = true ∧ ma.kind = (1 : BitVec 4) ∧
    st115.standby = false ∧ st115.isMember ma.members = true ∧ st115.armState = armIDLE ∧
    st115.modeOn mLISTEN = true ∧ st115.readyOrActive = true ∧ tickLt st115.now ma.tick = true) := by
  repeat' apply And.intro
  all_goals decide +kernel

theorem witness_ClaimWriteUnderProbe :
    (st138.domOn dAON = true ∧ st138.modeOn mPROBE = true ∧ 32 ∈ [CLAIM_FA.addr, CLAIM_HIT.addr,
    CLAIM_SHARE.addr, CLAIM_BLANK.addr]) := by
  repeat' apply And.intro
  all_goals decide +kernel

theorem witness_ReservedSourcesAreInert :
    (sourceReserved ↑(31 : Fin 704) = true) ∧ (sourceReserved ↑(31 : Fin 704) = true ∧ wt.domOn dCORE
    = true) := by
  repeat' apply And.intro
  all_goals decide +kernel

theorem witness_RegisterWrites :
    ((66065 % 4 ≠ 0 ∨ blockOf (66065) = none ∨ wt.powered (66065) = false) ∧ isAoData (66065) = false)
    ∧ (isPatchRam (8388592) = false ∧ 8388592 < 8388608 ∧ regRow? (8388592) = none ∧ isAoData
    (8388592) = false) ∧ (wt.powered (BitVec.ofNat 24 PACE_LOW.addr).toNat = true ∧ (BitVec.ofNat
    24 PACE_LOW.addr).toNat ∈ [PACE_CTRL.addr, PACE_LOW.addr, MODE_CFG.addr, FAULT_CAUSE.addr,
    CMD_CFG.addr, TEMP_WARN.addr, TR_CFG.addr, TRG_CFG.addr, SEW_CFG.addr, SEW_LIM.addr,
    LP_CFG.addr]) ∧ ((BitVec.ofNat 24 (EV_SRC 3).addr).toNat = (EV_SRC ↑(3 : Fin 704)).addr ∧
    sourceReserved ↑(3 : Fin 704) = false ∧ wt.domOn dCORE = true) := by
  repeat' apply And.intro
  all_goals decide +kernel

theorem witness_MaintenanceAndFlash :
    (st118.maintOn = false) ∧ (wMt.maintOn = true ∧ (okOf (wMt.writeReg (BitVec.ofNat 24
    PACE_CTRL.addr).toNat (6 : W32))).isSome = true) ∧ (wMt.maintOn = true ∧ (okOf (wMt.readReg
    (BitVec.ofNat 24 IDENT.addr).toNat true)).isSome = true) ∧ (wMt.maintOn = true ∧ wMt.readReg
    (33) true = Except.error (2, 7)) ∧ (wMt_c6b.maintOn = true ∧ (errOf (wMt_c6b.readReg (66065)
    true)).isSome = true) ∧ (st119.domOn dAON = true ∧ st119.bit MFL_CMD_BUSY = true) ∧ (wMt.domOn
    dAON = true ∧ wMt.bit MFL_CMD_BUSY = false ∧ wMt.bit STRAP_BOOTSRC = false ∧ bitOf (4294967295
    : W32) 31 = true) ∧ (st118.domOn dAON = true ∧ st118.bit MFL_CMD_BUSY = false ∧ st118.bit
    STRAP_BOOTSRC = true ∧ bitOf (4294967295 : W32) 31 = true) ∧ (wt.bit MFL_CMD_BUSY = false) ∧
    (st120.bit MFL_CMD_BUSY = true) ∧ (st121.bit MFL_CMD_BUSY = true) ∧ (wMt_c6b.maintOn = true ∧
    wMt_c6b.writeReg (32) (6 : W32) = Except.error (stStateConflict, 34, WriteMark.nothing)) := by
  repeat' apply And.intro
  all_goals first
    | exact eq_error (by decide +kernel)
    | decide +kernel

theorem witness_MeasuringBlockWrites :
    (Sized wFa ∧ wFa.domOn (faDomain (3)) = true ∧ bitOf (134217728 : BitVec 32) 27 = true ∧
    wFa.resets (3) = true ∧ wFa.inReset (3) = false) ∧ (Sized st122 ∧ st122.domOn (faDomain (3)) =
    true ∧ (BitVec.ofNat 24 (FA_CFG 3).addr).toNat = (FA_CFG (3)).addr ∧ st122.faHeldBy (3) =
    none) ∧ (Sized wFa ∧ wFa.domOn dAON = true ∧ wFa.modeOn mPROBE = false ∧ (BitVec.ofNat 24
    CLAIM_HIT.addr).toNat = CLAIM_HIT.addr) ∧ (Sized wPat_c6 ∧ wPat_c6.domOn dPAT = true ∧
    wPat_c6.pat.start = none ∧ wPat_c6.calLacks = none ∧ (wPat_c6.patState = paIDLE ∨
    wPat_c6.patState = paOFF) ∧ bitOf (5 : BitVec 32) 31 = false) ∧ (Sized wPat_c6 ∧ wPat_c6.domOn
    dPAT = true ∧ wPat_c6.pat.start = none ∧ wPat_c6.calLacks = none ∧ (wPat_c6.patState = paIDLE
    ∨ wPat_c6.patState = paOFF) ∧ bitOf (2147483654 : BitVec 32) 31 = true ∧ wPat_c6.standby =
    false) ∧ (Sized st123 ∧ st123.domOn dPAT = true ∧ st123.pat.start = none ∧ st123.calLacks =
    none ∧ (st123.patState = paIDLE ∨ st123.patState = paOFF) ∧ bitOf (2147483654 : BitVec 32) 31
    = true ∧ st123.standby = true) ∧ (Sized wPc ∧ wPc.domOn (dSP (4 / 8)) = true ∧ (BitVec.ofNat
    24 (PS_CFG 4).addr).toNat = (PS_CFG (4)).addr ∧ wPc.changes (PS_CFG (4)) (2166572391 : W32) =
    true) ∧ (Sized wPc ∧ wPc.domOn (dSP (4 / 8)) = true ∧ (BitVec.ofNat 24 (PS_CFG 4).addr).toNat
    = (PS_CFG (4)).addr ∧ wPc.changes (PS_CFG (4)) (2166572391 : W32) = true ∧ wPc.isSlave (4) =
    false) ∧ (Sized st124 ∧ st124.domOn (dSP (5 / 8)) = true ∧ (BitVec.ofNat 24 (PS_CFG
    5).addr).toNat = (PS_CFG (5)).addr ∧ st124.changes (PS_CFG (5)) (2166572391 : W32) = true ∧
    st124.isSlave (5) = true ∧ st124.portState (5) = psSLAVE) ∧ (Sized wPc ∧ wPc.domOn (dSP (4 /
    8)) = true ∧ (bitOf (2166572391 : BitVec 32) 31 = false ∨ wPc.bit (PS_STAT_FAULT (4)) =
    false)) ∧ (Sized st125 ∧ st125.domOn (dSP (4 / 8)) = true ∧ bitOf (2166572391 : BitVec 32) 31
    = true ∧ st125.bit (PS_STAT_FAULT (4)) = true ∧ st125.portState (4) = psFAULT ∧ st125.bit
    (PS_FLT_AUTOCLR (4)) = false) ∧ (Sized wPc ∧ wPc.domOn dPCV = true ∧ setBits
    (BitVec.extractLsb' 0 16 (16 : W32)) = [4] ∧ wPc.servable (4) = true ∧ wPc.coreState (4 / 2) =
    cIDLE ∧ wPc.helperAhead (4 / 2) = false ∧ (∀ (x : Urgent), x ∈ (wPc.pcOf (4 / 2)).urgents →
    x.port ≠ (4 : BitVec 4))) ∧ (Sized wPc ∧ wPc.domOn dPCV = true) ∧ (Sized st126 ∧ st126.domOn
    dPCV = true ∧ bitOf (0 : BitVec 32) 31 = false ∧ st126.bit (PC_ILV_ACTIVE (2)) = true) ∧
    (Sized st127 ∧ st127.domOn dPCV = true ∧ bitOf (2147483648 : BitVec 32) 31 = true ∧ st127.bit
    (PC_ILV_EN (2)) = false ∧ st127.bit (PC_ILV_ACTIVE (2)) = false ∧ (∀ (r m : Nat), r = 2 * (2
    ^^^ 1) ∨ r = 2 * (2 ^^^ 1) + 1 → m < 16 → st127.has CE_STAT_RUNNING m = true → st127.loopTakes
    m 1 r = false) ∧ st127.tempPort (2 * (2 ^^^ 1)) = false ∧ st127.tempPort (2 * (2 ^^^ 1) + 1) =
    false) ∧ (Sized st128 ∧ st128.domOn dPCV = true ∧ bitOf (2147483648 : BitVec 32) 31 = true ∧
    st128.bit (PC_ILV_EN (2)) = false ∧ st128.bit (PC_ILV_ACTIVE (2)) = false ∧ (∀ (r m : Nat), r
    = 2 * (2 ^^^ 1) ∨ r = 2 * (2 ^^^ 1) + 1 → m < 16 → st128.has CE_STAT_RUNNING m = true →
    st128.loopTakes m 1 r = false) ∧ st128.tempPort (2 * (2 ^^^ 1)) = false ∧ st128.tempPort (2 *
    (2 ^^^ 1) + 1) = false) ∧ (Sized st127 ∧ st127.domOn dPCV = true ∧ bitOf (2147483648 : BitVec
    32) 31 = true ∧ st127.bit (PC_ILV_EN (2)) = false ∧ st127.bit (PC_ILV_ACTIVE (2)) = false ∧ (∀
    (r m : Nat), r = 2 * (2 ^^^ 1) ∨ r = 2 * (2 ^^^ 1) + 1 → m < 16 → st127.has CE_STAT_RUNNING m
    = true → st127.loopTakes m 1 r = false) ∧ st127.tempPort (2 * (2 ^^^ 1)) = false ∧
    st127.tempPort (2 * (2 ^^^ 1) + 1) = false ∧ (st127.plainWrite (PC_ILV (2)).addr (2147483648 :
    BitVec 32)).ilvRefused (2) = false) ∧ (Sized st128 ∧ st128.domOn dPCV = true ∧ bitOf
    (2147483648 : BitVec 32) 31 = true ∧ st128.bit (PC_ILV_EN (2)) = false ∧ st128.bit
    (PC_ILV_ACTIVE (2)) = false ∧ (∀ (r m : Nat), r = 2 * (2 ^^^ 1) ∨ r = 2 * (2 ^^^ 1) + 1 → m <
    16 → st128.has CE_STAT_RUNNING m = true → st128.loopTakes m 1 r = false) ∧ st128.tempPort (2 *
    (2 ^^^ 1)) = false ∧ st128.tempPort (2 * (2 ^^^ 1) + 1) = false ∧ (st128.plainWrite (PC_ILV
    (2)).addr (2147483648 : BitVec 32)).ilvRefused (2) = true) ∧ (Sized wFa ∧ wFa.domOn (faDomain
    (3)) = true ∧ (BitVec.ofNat 24 (FA_CFG 3).addr).toNat = (FA_CFG (3)).addr ∧ wFa.faHeldBy (3) =
    some 1 ∧ FA_CFG_BW 3 ∈ [FA_CFG_FE (3), FA_CFG_CF (3), FA_CFG_VRANGE (3), FA_CFG_ZIN (3),
    FA_CFG_BW (3)] ∧ (FA_CFG_BW 3).read (4294967295 : W32) ≠ wFa.get (FA_CFG_BW 3)) := by
  repeat' apply And.intro
  all_goals first
    | decide +kernel
    | (constructor <;> decide +kernel)
    | (intro r m hr hm; rcases hr with rfl | rfl <;> (revert m; decide +kernel))

theorem witness_OutputAndLinkWrites :
    (Sized st129 ∧ st129.domOn (aoDomain (4)) = true ∧ BitVec.getLsbD st129.pins.aoBusy (4) = false ∧
    (AO_CFG_RANGE (4)).read (2415919104 : W32) < 5 ∧ ((AO_CFG_RANGE (4)).read (2415919104 : W32) =
    st129.get (AO_CFG_RANGE (4)) ∨ st129.modeOn mREGULATE = false ∨ st129.aoBound (4) = false) ∧
    (highRange ((AO_CFG_RANGE (4)).read (2415919104 : W32)) = true → st129.bit AO_GSTAT_HIRNG =
    true)) ∧ (Sized st139 ∧ st139.domOn (aoDomain (4)) = true ∧ BitVec.getLsbD st139.pins.aoBusy
    (4) = false ∧ (AO_CFG_RANGE (4)).read (2147483648 : W32) < 5 ∧ ((AO_CFG_RANGE (4)).read
    (2147483648 : W32) = st139.get (AO_CFG_RANGE (4)) ∨ st139.modeOn mREGULATE = false ∨
    st139.aoBound (4) = false) ∧ (highRange ((AO_CFG_RANGE (4)).read (2147483648 : W32)) = true →
    st139.bit AO_GSTAT_HIRNG = true)) ∧ (Sized st130 ∧ (st130.standby = true ∨ st130.readyOrActive
    = false ∨ st130.domOn (aoDomain (4)) = false ∨ st130.aoBound (4) = true ∨ BitVec.getLsbD
    st130.pins.aoBusy (4) = true)) ∧ (Sized wt ∧ wt.standby = false ∧ wt.readyOrActive = true ∧
    wt.domOn (aoDomain (4)) = true ∧ wt.aoBound (4) = false ∧ BitVec.getLsbD wt.pins.aoBusy (4) =
    false) ∧ (Sized st131 ∧ st131.domOn dLIGHT = true) ∧ (Sized st132 ∧ st132.domOn dLIGHT = true)
    ∧ (Sized st133 ∧ st133.domOn dLIGHT = true) ∧ (Sized st134 ∧ st134.domOn dLIGHT = true) ∧
    (Sized wt ∧ wt.domOn dLOAM = true ∧ bitOf (4294967295 : BitVec 32) 31 = true) ∧ (Sized wt ∧
    wt.domOn dLOAM = true ∧ bitOf (4 : BitVec 32) 31 = false) ∧ (Sized wt ∧ wt.domOn dPLL = true)
    ∧ (Sized st135 ∧ st135.domOn dPLL = true) ∧ (Sized st136 ∧ st136.domOn (gxDomain ↑(2 : Fin 5))
    = true ∧ bitOf (4294967295 : BitVec 32) 31 = true ∧ bitOf (4294967295 : BitVec 32) 30 = true ∧
    st136.gxState ↑(2 : Fin 5) ≠ gxDISABLED ∧ st136.gxState ↑(2 : Fin 5) ≠ gxREFUSED) ∧ (Sized
    st136 ∧ st136.domOn (gxDomain ↑(2 : Fin 5)) = true ∧ bitOf (1073741824 : BitVec 32) 31 =
    false) ∧ (Sized wt ∧ wt.domOn dAON = true ∧ wt.bit PATCH_CTL_EN = false ∧ bitOf (2147483651 :
    BitVec 32) 31 = true) ∧ (Sized st137 ∧ st137.domOn dAON = true ∧ st137.bit PATCH_CTL_EN =
    false ∧ bitOf (PATCH_CTL_LEN.write 1 (2147483648 : W32)) 31 = true) ∧ (Sized st139 ∧
    st139.domOn (aoDomain (4)) = true ∧ (BitVec.getLsbD st139.pins.aoBusy (4) = true ∨ 5 ≤
    (AO_CFG_RANGE (4)).read (2147811328 : W32))) := by
  repeat' apply And.intro
  all_goals first
    | decide +kernel
    | (constructor <;> decide +kernel)

theorem witness_CommandChecks :
    (ofOpcode 113 (cr [(5 : W64)]) = some (Instr.seqStart (cr [(5 : W64)])) ∧ (cr [(5 : W64)]).cver =
    (4 : BitVec 4) ∧ (cr [(5 : W64)]).group = false ∧ st140.listens = true ∧ (cr [(5 :
    W64)]).unit.toNat = st140.unitId ∧ st140.atq.waiting = [] ∧ ((cr [(5 : W64)]).order = true →
    st140.anyOpen = false) ∧ st140.unitState = usBoot ∧ (¬113 ∈ [1, 2, 3, 4, 47])) ∧ (ofOpcode 113
    (cr [(5 : W64)]) = some (Instr.seqStart (cr [(5 : W64)])) ∧ (cr [(5 : W64)]).cver = (4 :
    BitVec 4) ∧ (cr [(5 : W64)]).group = false ∧ st141.listens = true ∧ (cr [(5 :
    W64)]).unit.toNat = st141.unitId ∧ st141.atq.waiting = [] ∧ ((cr [(5 : W64)]).order = true →
    st141.anyOpen = false) ∧ st141.unitState = usFault ∧ (¬113 ∈ [1, 2, 3, 4, 47, 16, 17, 18, 19,
    20, 33, 50, 51, 128, 255])) ∧ (ofOpcode 113 (cr [(5 : W64)]) = some (Instr.seqStart (cr [(5 :
    W64)])) ∧ (cr [(5 : W64)]).cver = (4 : BitVec 4) ∧ (cr [(5 : W64)]).group = false ∧
    st142.listens = true ∧ (cr [(5 : W64)]).unit.toNat = st142.unitId ∧ st142.atq.waiting = [] ∧
    ((cr [(5 : W64)]).order = true → st142.anyOpen = false) ∧ st142.readyOrActive = true ∧
    st142.standby = true ∧ 113 ∈ [64, 65, 66, 96, 97, 98, 113, 114, 115]) ∧ (ofOpcode 113 (cr [(5
    : W64)]) = some (Instr.seqStart (cr [(5 : W64)])) ∧ (cr [(5 : W64)]).cver = (4 : BitVec 4) ∧
    (cr [(5 : W64)]).group = false ∧ st143.listens = true ∧ (cr [(5 : W64)]).unit.toNat =
    st143.unitId ∧ st143.atq.waiting = [] ∧ ((cr [(5 : W64)]).order = true → st143.anyOpen =
    false) ∧ (st143.readyOrActive = true ∧ (st143.standby = false ∨ ¬113 ∈ [64, 65, 66, 96, 97,
    98, 113, 114, 115])) ∧ st143.tagOpen (cr [(5 : W64)]).tag = true) ∧ (ofOpcode 113 (cr [(5 :
    W64)]) = some (Instr.seqStart (cr [(5 : W64)])) ∧ (cr [(5 : W64)]).cver = (4 : BitVec 4) ∧ (cr
    [(5 : W64)]).group = false ∧ st144.listens = true ∧ (cr [(5 : W64)]).unit.toNat = st144.unitId
    ∧ st144.atq.waiting = [] ∧ ((cr [(5 : W64)]).order = true → st144.anyOpen = false) ∧
    (st144.readyOrActive = true ∧ (st144.standby = false ∨ ¬113 ∈ [64, 65, 66, 96, 97, 98, 113,
    114, 115])) ∧ st144.tagOpen (cr [(5 : W64)]).tag = false ∧ 16 ≤ st144.pendCount) ∧ (ofOpcode
    113 (cr []) = some (Instr.seqStart (cr [])) ∧ (cr []).cver = (4 : BitVec 4) ∧ (cr []).group =
    false ∧ w.listens = true ∧ (cr []).unit.toNat = w.unitId ∧ w.atq.waiting = [] ∧ ((cr []).order
    = true → w.anyOpen = false) ∧ (w.readyOrActive = true ∧ (w.standby = false ∨ ¬113 ∈ [64, 65,
    66, 96, 97, 98, 113, 114, 115])) ∧ w.tagOpen (cr []).tag = false ∧ w.pendCount < 16 ∧
    w.enumerating = false ∧ lenOk 113 (cr []).p.length = false) ∧ (ofOpcode 113 ({ cr [(5 : W64)] with order := true : Cmd })
    = some (Instr.seqStart ({ cr [(5 : W64)] with order := true : Cmd })) ∧ ({ cr [(5 : W64)] with order := true : Cmd }).cver
    = (4 : BitVec 4) ∧ ({ cr [(5 : W64)] with order := true : Cmd }).group = false ∧ st143.listens
    = true ∧ ({ cr [(5 : W64)] with order := true : Cmd }).unit.toNat = st143.unitId ∧
    (st143.atq.waiting ≠ [] ∨ ({ cr [(5 : W64)] with order := true : Cmd }).order = true ∧
    st143.anyOpen = true)) ∧ (ofOpcode 113 (cr [(5 : W64)]) = some (Instr.seqStart (cr [(5 :
    W64)])) ∧ (cr [(5 : W64)]).cver = (4 : BitVec 4) ∧ (cr [(5 : W64)]).group = false ∧
    st145.listens = false) ∧ (ofOpcode 113 (cr [(5 : W64)]) = some (Instr.seqStart (cr [(5 :
    W64)])) ∧ (cr [(5 : W64)]).cver = (4 : BitVec 4) ∧ (cr [(5 : W64)]).group = false ∧
    st146.listens = true ∧ (cr [(5 : W64)]).unit.toNat = st146.unitId ∧ st146.atq.waiting = [] ∧
    ((cr [(5 : W64)]).order = true → st146.anyOpen = false) ∧ (st146.readyOrActive = true ∧
    (st146.standby = false ∨ ¬113 ∈ [64, 65, 66, 96, 97, 98, 113, 114, 115])) ∧ st146.tagOpen (cr
    [(5 : W64)]).tag = false ∧ st146.pendCount < 16 ∧ st146.enumerating = true) ∧ (ofOpcode 113 ({ cr [(5 : W64)] with unit := (9 : BitVec 6) : Cmd })
    = some (Instr.seqStart ({ cr [(5 : W64)] with unit := (9 : BitVec 6) : Cmd })) ∧ ({ cr [(5 : W64)] with unit := (9 : BitVec 6) : Cmd }).cver
    = (4 : BitVec 4) ∧ ({ cr [(5 : W64)] with unit := (9 : BitVec 6) : Cmd }).group = false ∧
    w.listens = true ∧ ({ cr [(5 : W64)] with unit := (9 : BitVec 6) : Cmd }).unit.toNat ≠
    w.unitId ∧ w.portOf ({ cr [(5 : W64)] with unit := (9 : BitVec 6) : Cmd }).unit.toNat = none)
    ∧ (ofOpcode 113 ({ cr [(5 : W64)] with unit := (9 : BitVec 6) : Cmd }) = some (Instr.seqStart
    ({ cr [(5 : W64)] with unit := (9 : BitVec 6) : Cmd })) ∧ ({ cr [(5 : W64)] with unit := (9 : BitVec 6) : Cmd }).cver
    = (4 : BitVec 4) ∧ ({ cr [(5 : W64)] with unit := (9 : BitVec 6) : Cmd }).group = false ∧
    st147.listens = true ∧ ({ cr [(5 : W64)] with unit := (9 : BitVec 6) : Cmd }).unit.toNat ≠
    st147.unitId ∧ st147.portOf ({ cr [(5 : W64)] with unit := (9 : BitVec 6) : Cmd }).unit.toNat
    = some 1 ∧ st147.gxLive (1 + 1) = false) ∧ (ofOpcode 113 ({ cr [(5 : W64)] with unit := (9 : BitVec 6) : Cmd })
    = some (Instr.seqStart ({ cr [(5 : W64)] with unit := (9 : BitVec 6) : Cmd })) ∧ ({ cr [(5 : W64)] with unit := (9 : BitVec 6) : Cmd }).cver
    = (4 : BitVec 4) ∧ ({ cr [(5 : W64)] with unit := (9 : BitVec 6) : Cmd }).group = false ∧
    st148.listens = true ∧ ({ cr [(5 : W64)] with unit := (9 : BitVec 6) : Cmd }).unit.toNat ≠
    st148.unitId ∧ st148.portOf ({ cr [(5 : W64)] with unit := (9 : BitVec 6) : Cmd }).unit.toNat
    = some 1 ∧ st148.gxLive (1 + 1) = true ∧ st148.gx.length = 5) := by
  repeat' apply And.intro
  all_goals decide +kernel

theorem witness_IdentityCommands :
    (Heard w 1 (cr [])) ∧ (Heard w 1 (cc [])) ∧ (Heard w 2 (cr [(4827858800541171712 : W64)]) ∧ (cr
    [(4827858800541171712 : W64)]).p = [(4827858800541171712 : W64)] ∧ 3 ≤ bits
    (4827858800541171712 : W64) 63 60 ∧ bits (4827858800541171712 : W64) 59 56 ≤ 4) ∧ (Heard w 2
    (cr [(2377900603251621888 : W64)]) ∧ (cr [(2377900603251621888 : W64)]).p =
    [(2377900603251621888 : W64)] ∧ (bits (2377900603251621888 : W64) 63 60 < 3 ∨ 4 < bits
    (2377900603251621888 : W64) 59 56)) ∧ (Heard w 4 (cr [(4660 : W64)])) ∧ (Heard w 33 (cr [])) := by
  repeat' apply And.intro
  all_goals first
    | decide +kernel
    | (constructor <;> decide +kernel)

theorem witness_RegisterCommands :
    (Heard w 16 (cr [(32 : W64)]) ∧ (cr [(32 : W64)]).p = [(32 : W64)] ∧ (counted w).readReg (bits (32
    : W64) 23 0) true = Except.ok (wr_ w (cr []) 32, vr w (cr []) 32)) ∧ (Heard w 17 (cr
    [(137438953477 : W64)]) ∧ (cr [(137438953477 : W64)]).p = [(137438953477 : W64)] ∧ (counted
    w).writeReg (bits (137438953477 : W64) 55 32) (BitVec.setWidth 32 (137438953477 : W64)) =
    Except.ok (vw (counted w) 32 (5 : W32))) ∧ (Heard w 17 (cr [(137438953477 : W64),
    (141733920773 : W64), (137438953478 : W64)]) ∧ (cr [(137438953477 : W64), (141733920773 :
    W64), (137438953478 : W64)]).p = [(137438953477 : W64)] ++ [(141733920773 : W64),
    (137438953478 : W64)] ∧ (cr [(137438953477 : W64), (141733920773 : W64), (137438953478 :
    W64)]).p.length ≤ 64 ∧ ((counted w).accesses 0 (List.map (fun w => Access.write (bits w 55 32)
    (BitVec.setWidth 32 w)) [(137438953477 : W64)]) = Except.ok ([[]], vw (counted w) 32 (5 :
    W32))) ∧ (vw (counted w) 32 (5 : W32)).writeReg (bits (141733920773 : W64) 55 32)
    (BitVec.setWidth 32 (141733920773 : W64)) = Except.error (stBadParam, 7, WriteMark.nothing)) ∧
    (Heard w 18 (cr [(32 : W64), (64424509445 : W64)]) ∧ (cr [(32 : W64), (64424509445 : W64)]).p
    = [(32 : W64), (64424509445 : W64)] ∧ (counted w).readReg (bits (32 : W64) 23 0) false =
    Except.ok (wr_ w (cr []) 32, vr w (cr []) 32) ∧ (∀ (r : RegRow), regRow? (bits (32 : W64) 23
    0) = some r → r.w1cMask = (0 : W32)) ∧ (5 : W32) = wr_ w (cr []) 32 &&& ~~~BitVec.extractLsb'
    32 32 (64424509445 : W64) ||| BitVec.setWidth 32 (64424509445 : W64) &&& BitVec.extractLsb' 32
    32 (64424509445 : W64) ∧ (vr w (cr []) 32).writeReg (bits (32 : W64) 23 0) (5 : W32) =
    Except.ok (vw (counted w) 32 (5 : W32))) ∧ (Heard w 19 (cr [(8589934624 : W64)]) ∧ (cr
    [(8589934624 : W64)]).p = [(8589934624 : W64)] ∧ bits (8589934624 : W64) 47 32 = 2 ∧ blockOf
    (bits (8589934624 : W64) 23 0 + 4) = blockOf (bits (8589934624 : W64) 23 0) ∧ (counted
    w).readReg (bits (8589934624 : W64) 23 0) true = Except.ok (wr_ w (cr []) 32, vr w (cr []) 32)
    ∧ (vr w (cr []) 32).readReg (bits (8589934624 : W64) 23 0 + 4) true = Except.ok (wr_ w (cr [])
    36, vr w (cr []) 32)) ∧ (Heard w 20 (cr [(4294967328 : W64), (77 : W64)]) ∧ (cr [(4294967328 :
    W64), (77 : W64)]).p = [(4294967328 : W64), (77 : W64)] ∧ bits (4294967328 : W64) 47 32 = 1 ∧
    (counted w).writeReg (bits (4294967328 : W64) 23 0) (BitVec.setWidth 32 (77 : W64)) =
    Except.ok (vw (counted w) 32 (77 : W32))) := by
  repeat' apply And.intro
  all_goals first
    | exact eq_error (by decide +kernel)
    | exact eq_ok (by decide +kernel)
    | exact heard_of (by decide +kernel)
    | decide +kernel

theorem witness_QueueCommands :
    (wQ_c7.loam.quar ≤ wQ_c7.get LP_CFG_QLIM ∧ Heard wQ_c7 48 (cr [(1297036696977670144 : W64)]) ∧
    (bits ((cr [(1297036696977670144 : W64)]).p.headD (0 : W64)) 63 56 ≠ 255 ∧ (wQ_c7.queue (bits
    ((cr [(1297036696977670144 : W64)]).p.headD (0 : W64)) 63 56)).stall = none ∧ ∀ (it : Item),
    it ∈ (wQ_c7.queue (bits ((cr [(1297036696977670144 : W64)]).p.headD (0 : W64)) 63 56)).items →
    it.bad = []) ∧ wQ_c7.bit (Q_CFG_EN (bits ((cr [(1297036696977670144 : W64)]).p.headD (0 :
    W64)) 63 56)) = true ∧ wQ_c7.get (Q_CFG_CONS (bits ((cr [(1297036696977670144 : W64)]).p.headD
    (0 : W64)) 63 56)) = 1 ∧ (wQ_c7.queue (bits ((cr [(1297036696977670144 : W64)]).p.headD (0 :
    W64)) 63 56)).items = [] ∧ bitOf ((cr [(1297036696977670144 : W64)]).p.headD (0 : W64)) 48 =
    false) ∧ (wQ2.loam.quar ≤ wQ2.get LP_CFG_QLIM ∧ Heard wQ2 48 (cc [(1297036714157539328 :
    W64)]) ∧ (bits ((cc [(1297036714157539328 : W64)]).p.headD (0 : W64)) 63 56 ≠ 255 ∧ (wQ2.queue
    (bits ((cc [(1297036714157539328 : W64)]).p.headD (0 : W64)) 63 56)).stall = none ∧ ∀ (it :
    Item), it ∈ (wQ2.queue (bits ((cc [(1297036714157539328 : W64)]).p.headD (0 : W64)) 63
    56)).items → it.bad = []) ∧ wQ2.bit (Q_CFG_EN (bits ((cc [(1297036714157539328 :
    W64)]).p.headD (0 : W64)) 63 56)) = true ∧ wQ2.get (Q_CFG_CONS (bits ((cc
    [(1297036714157539328 : W64)]).p.headD (0 : W64)) 63 56)) = 1 ∧ ((wQ2.queue (bits ((cc
    [(1297036714157539328 : W64)]).p.headD (0 : W64)) 63 56)).items ≠ [] ∨ bitOf ((cc
    [(1297036714157539328 : W64)]).p.headD (0 : W64)) 48 = true)) ∧ (wQ_c7.loam.quar ≤ wQ_c7.get
    LP_CFG_QLIM ∧ Heard wQ_c7 48 (cc [(1297318189134249984 : W64)]) ∧ (bits ((cc
    [(1297318189134249984 : W64)]).p.headD (0 : W64)) 63 56 ≠ 255 ∧ (wQ_c7.queue (bits ((cc
    [(1297318189134249984 : W64)]).p.headD (0 : W64)) 63 56)).stall = none ∧ ∀ (it : Item), it ∈
    (wQ_c7.queue (bits ((cc [(1297318189134249984 : W64)]).p.headD (0 : W64)) 63 56)).items →
    it.bad = []) ∧ wQ_c7.bit (Q_CFG_EN (bits ((cc [(1297318189134249984 : W64)]).p.headD (0 :
    W64)) 63 56)) = true ∧ wQ_c7.get (Q_CFG_CONS (bits ((cc [(1297318189134249984 : W64)]).p.headD
    (0 : W64)) 63 56)) = 1 ∧ ((wQ_c7.queue (bits ((cc [(1297318189134249984 : W64)]).p.headD (0 :
    W64)) 63 56)).items ≠ [] ∨ bitOf ((cc [(1297318189134249984 : W64)]).p.headD (0 : W64)) 48 =
    true)) ∧ (wQ_c7.loam.quar ≤ wQ_c7.get LP_CFG_QLIM ∧ Heard wQ_c7 49 (cc [(1297036692682702848 :
    W64), (7 : W64), (8 : W64), (9 : W64)]) ∧ 2 ≤ (cc [(1297036692682702848 : W64), (7 : W64), (8
    : W64), (9 : W64)]).p.length ∧ (cc [(1297036692682702848 : W64), (7 : W64), (8 : W64), (9 :
    W64)]).p.length ≤ 1026 ∧ (bits ((cc [(1297036692682702848 : W64), (7 : W64), (8 : W64), (9 :
    W64)]).p.headD (0 : W64)) 63 56 ≠ 255 ∧ (wQ_c7.queue (bits ((cc [(1297036692682702848 : W64),
    (7 : W64), (8 : W64), (9 : W64)]).p.headD (0 : W64)) 63 56)).stall = none ∧ ∀ (it : Item), it
    ∈ (wQ_c7.queue (bits ((cc [(1297036692682702848 : W64), (7 : W64), (8 : W64), (9 :
    W64)]).p.headD (0 : W64)) 63 56)).items → it.bad = []) ∧ wQ_c7.bit (Q_CFG_EN (bits ((cc
    [(1297036692682702848 : W64), (7 : W64), (8 : W64), (9 : W64)]).p.headD (0 : W64)) 63 56)) =
    true ∧ wQ_c7.bit (Q_CFG_HOSTW (bits ((cc [(1297036692682702848 : W64), (7 : W64), (8 : W64),
    (9 : W64)]).p.headD (0 : W64)) 63 56)) = true ∧ (wQ_c7.get (Q_CFG_CONS (bits ((cc
    [(1297036692682702848 : W64), (7 : W64), (8 : W64), (9 : W64)]).p.headD (0 : W64)) 63 56)) = 0
    → bits ((cc [(1297036692682702848 : W64), (7 : W64), (8 : W64), (9 : W64)]).p.getD 1 (0 :
    W64)) 41 32 + 2 = (cc [(1297036692682702848 : W64), (7 : W64), (8 : W64), (9 : W64)]).p.length
    - 1) ∧ (wQ_c7.get (Q_CFG_CONS (bits ((cc [(1297036692682702848 : W64), (7 : W64), (8 : W64),
    (9 : W64)]).p.headD (0 : W64)) 63 56)) = 2 → ((cc [(1297036692682702848 : W64), (7 : W64), (8
    : W64), (9 : W64)]).p.length - 1) % 8 = 0) ∧ wQ_c7.domOn dLOAM = true ∧ wQ_c7.admission (bits
    ((cc [(1297036692682702848 : W64), (7 : W64), (8 : W64), (9 : W64)]).p.headD (0 : W64)) 63 56)
    (grainsOf ((cc [(1297036692682702848 : W64), (7 : W64), (8 : W64), (9 : W64)]).p.length - 1))
    = none ∧ wQ_c7.loam.trialEcc = none ∧ wQ_c7.get (Q_LIM_WM (bits ((cc [(1297036692682702848 :
    W64), (7 : W64), (8 : W64), (9 : W64)]).p.headD (0 : W64)) 63 56)) = 0) ∧ (st149.loam.quar ≤
    st149.get LP_CFG_QLIM ∧ Heard st149 49 (cc [(1297036692682702848 : W64), (7 : W64), (8 : W64),
    (9 : W64)]) ∧ 2 ≤ (cc [(1297036692682702848 : W64), (7 : W64), (8 : W64), (9 : W64)]).p.length
    ∧ (cc [(1297036692682702848 : W64), (7 : W64), (8 : W64), (9 : W64)]).p.length ≤ 1026 ∧ (bits
    ((cc [(1297036692682702848 : W64), (7 : W64), (8 : W64), (9 : W64)]).p.headD (0 : W64)) 63 56
    ≠ 255 ∧ (st149.queue (bits ((cc [(1297036692682702848 : W64), (7 : W64), (8 : W64), (9 :
    W64)]).p.headD (0 : W64)) 63 56)).stall = none ∧ ∀ (it : Item), it ∈ (st149.queue (bits ((cc
    [(1297036692682702848 : W64), (7 : W64), (8 : W64), (9 : W64)]).p.headD (0 : W64)) 63
    56)).items → it.bad = []) ∧ st149.bit (Q_CFG_EN (bits ((cc [(1297036692682702848 : W64), (7 :
    W64), (8 : W64), (9 : W64)]).p.headD (0 : W64)) 63 56)) = true ∧ st149.bit (Q_CFG_HOSTW (bits
    ((cc [(1297036692682702848 : W64), (7 : W64), (8 : W64), (9 : W64)]).p.headD (0 : W64)) 63
    56)) = true ∧ (st149.get (Q_CFG_CONS (bits ((cc [(1297036692682702848 : W64), (7 : W64), (8 :
    W64), (9 : W64)]).p.headD (0 : W64)) 63 56)) = 0 → bits ((cc [(1297036692682702848 : W64), (7
    : W64), (8 : W64), (9 : W64)]).p.getD 1 (0 : W64)) 41 32 + 2 = (cc [(1297036692682702848 :
    W64), (7 : W64), (8 : W64), (9 : W64)]).p.length - 1) ∧ (st149.get (Q_CFG_CONS (bits ((cc
    [(1297036692682702848 : W64), (7 : W64), (8 : W64), (9 : W64)]).p.headD (0 : W64)) 63 56)) = 2
    → ((cc [(1297036692682702848 : W64), (7 : W64), (8 : W64), (9 : W64)]).p.length - 1) % 8 = 0)
    ∧ st149.domOn dLOAM = true ∧ st149.admission (bits ((cc [(1297036692682702848 : W64), (7 :
    W64), (8 : W64), (9 : W64)]).p.headD (0 : W64)) 63 56) (grainsOf ((cc [(1297036692682702848 :
    W64), (7 : W64), (8 : W64), (9 : W64)]).p.length - 1)) = some 609) ∧ (wQ_c7.loam.quar ≤
    wQ_c7.get LP_CFG_QLIM ∧ Heard wQ_c7 50 (cc [(1297036696172363776 : W64), (71776140536250368 :
    W64), (99 : W64)]) ∧ (cc [(1297036696172363776 : W64), (71776140536250368 : W64), (99 :
    W64)]).p = [(1297036696172363776 : W64), (71776140536250368 : W64), (99 : W64)] ∧
    wQ_c7.queueCheck (bits ((cc [(1297036696172363776 : W64), (71776140536250368 : W64), (99 :
    W64)]).p.headD (0 : W64)) 63 56) (bitOf (1297036696172363776 : W64) 31) (bits
    (1297036696172363776 : W64) 29 28) (bits (71776140536250368 : W64) 63 48) (bits
    (71776140536250368 : W64) 31 16) = none) ∧ (wQ2.loam.quar ≤ wQ2.get LP_CFG_QLIM ∧ Heard wQ2 51
    (cc [(1297036692682702848 : W64)]) ∧ (bits ((cc [(1297036692682702848 : W64)]).p.headD (0 :
    W64)) 63 56 ≠ 255 ∧ (wQ2.queue (bits ((cc [(1297036692682702848 : W64)]).p.headD (0 : W64)) 63
    56)).stall = none ∧ ∀ (it : Item), it ∈ (wQ2.queue (bits ((cc [(1297036692682702848 :
    W64)]).p.headD (0 : W64)) 63 56)).items → it.bad = []) ∧ wQ2.streaming (bits ((cc
    [(1297036692682702848 : W64)]).p.headD (0 : W64)) 63 56) = false) := by
  repeat' apply And.intro
  all_goals first
    | decide +kernel
    | (constructor <;> decide +kernel)

theorem witness_TriggerCommands :
    (Sized wTc_c8 ∧ Heard wTc_c8 64 (cr [(1441151880758560720 : W64), (96 : W64), (2621488 : W64)]) ∧
    (cr [(1441151880758560720 : W64), (96 : W64), (2621488 : W64)]).p = [(1441151880758560720 :
    W64), (96 : W64), (2621488 : W64)] ∧ wTc_c8.modeOn mLISTEN = true ∧ wTc_c8.armState = armIDLE
    ∧ wTc_c8.isMember (96 : W64) = true ∧ (2000 : BitVec 48) = BitVec.ofNat 48 (bits
    (1441151880758560720 : W64) 47 0) ∧ tickLt wTc_c8.now (2000 : BitVec 48) = true ∧ ((2000 :
    BitVec 48) - wTc_c8.now).toNat ≤ 2 ^ 31 ∧ (wTc_c8.isHead = true → wTc_c8.rootBad (bits
    (1441151880758560720 : W64) 63 58) = false)) ∧ (Sized st150 ∧ Heard st150 65 (cr
    [(9225342361691751408 : W64)]) ∧ (cr [(9225342361691751408 : W64)]).p = [(9225342361691751408
    : W64)] ∧ st150.modeOn mLISTEN = true ∧ st150.armState = armARMED ∧ st150.bit (TC_CFG_EN (bits
    (9225342361691751408 : W64) 52 48)) = true ∧ st150.get (TC_CFG_TYPE (bits (9225342361691751408
    : W64) 52 48)) = 7 ∧ ((1008 : BitVec 48) = if bitOf (9225342361691751408 : W64) 63 = true then
    BitVec.ofNat 48 (bits (9225342361691751408 : W64) 47 0) else st150.now) ∧ (tickLt (1008 :
    BitVec 48) st150.now = true → BitVec.toNat (st150.now - (1008 : BitVec 48)) ≤ 65536) ∧ (tickLt
    st150.now (1008 : BitVec 48) = true → ((1008 : BitVec 48) - st150.now).toNat ≤ 2 ^ 31) ∧
    st150.trg.armWide ≤ st150.wide (1008 : BitVec 48)) ∧ (Sized st150 ∧ Heard st150 65 (cr
    [(1970324836975600 : W64)]) ∧ (cr [(1970324836975600 : W64)]).p = [(1970324836975600 : W64)] ∧
    st150.modeOn mLISTEN = true ∧ st150.armState = armARMED ∧ st150.bit (TC_CFG_EN (bits
    (1970324836975600 : W64) 52 48)) = true ∧ st150.get (TC_CFG_TYPE (bits (1970324836975600 :
    W64) 52 48)) = 7 ∧ ((1000 : BitVec 48) = if bitOf (1970324836975600 : W64) 63 = true then
    BitVec.ofNat 48 (bits (1970324836975600 : W64) 47 0) else st150.now) ∧ (tickLt (1000 : BitVec
    48) st150.now = true → BitVec.toNat (st150.now - (1000 : BitVec 48)) ≤ 65536) ∧ (tickLt
    st150.now (1000 : BitVec 48) = true → ((1000 : BitVec 48) - st150.now).toNat ≤ 2 ^ 31) ∧
    st150.trg.armWide ≤ st150.wide (1000 : BitVec 48)) ∧ (Sized st150 ∧ Heard st150 66 (cr
    [(9223372036854776816 : W64)]) ∧ (cr [(9223372036854776816 : W64)]).p = [(9223372036854776816
    : W64)] ∧ st150.armState ≠ armIDLE ∧ bitOf (9223372036854776816 : W64) 63 = true ∧ (1008 :
    BitVec 48) = BitVec.ofNat 48 (bits (9223372036854776816 : W64) 47 0) ∧ tickLt st150.now (1008
    : BitVec 48) = true) := by
  repeat' apply And.intro
  all_goals first
    | decide +kernel
    | (constructor <;> decide +kernel)

theorem witness_MeasureAndLoopCommands :
    (Sized wG ∧ Heard wG 80 (cr [(8589934600 : W64), (3 : W64)]) ∧ (cr [(8589934600 : W64), (3 :
    W64)]).p.headD (0 : W64) ≠ (0 : W64) ∧ (∀ (k : Nat), k < 64 → bitOf ((cr [(8589934600 : W64),
    (3 : W64)]).p.headD (0 : W64)) k = true → wG.bit (CH_CFG_EN k) = true ∧ wG.domOn (tkDomain k)
    = true)) ∧ (Sized wG ∧ Heard wG 80 (cr [(8589934600 : W64)]) ∧ (cr [(8589934600 :
    W64)]).p.headD (0 : W64) ≠ (0 : W64) ∧ (∀ (k : Nat), k < 64 → bitOf ((cr [(8589934600 :
    W64)]).p.headD (0 : W64)) k = true → wG.bit (CH_CFG_EN k) = true ∧ wG.domOn (tkDomain k) =
    true)) ∧ (Sized wPc ∧ 4 = bits ((cr [(262160 : W64)]).p.headD (0 : W64)) 19 16 ∧ psWAIT =
    wPc.portState 4 ∧ (psWAIT = psWAIT ∨ psWAIT = psSETTLE ∨ psWAIT = psCONVERT) ∧ bits ((cr
    [(262160 : W64)]).p.headD (0 : W64)) 15 0 ≠ 0 ∧ (wPc.spOf 4).cal = none ∧ Heard wPc 81 (cr
    [(262160 : W64)]) ∧ (cr [(262160 : W64)]).p.length = 1) ∧ (Sized wPc ∧ 4 = bits ((cr [(262160
    : W64), (74565 : W64)]).p.headD (0 : W64)) 19 16 ∧ psWAIT = wPc.portState 4 ∧ (psWAIT = psWAIT
    ∨ psWAIT = psSETTLE ∨ psWAIT = psCONVERT) ∧ bits ((cr [(262160 : W64), (74565 : W64)]).p.headD
    (0 : W64)) 15 0 ≠ 0 ∧ (wPc.spOf 4).cal = none ∧ Heard wPc 82 (cr [(262160 : W64), (74565 :
    W64)]) ∧ (cr [(262160 : W64), (74565 : W64)]).p = [(cr [(262160 : W64), (74565 :
    W64)]).p.headD (0 : W64), (74565 : W64)] ∧ bits (74565 : W64) 23 0 ≠ 0 ∧ bits (74565 : W64) 23
    0 ≠ 8388608) ∧ (Sized st151 ∧ Heard st151 83 (cr []) ∧ st151.isHead = false ∧ st151.alignState
    ≠ alUNALIGNED ∧ st151.alignState ≠ alHOLDOVER ∧ st151.tb.align = none ∧ (st151.gxOf 0).ver =
    3) ∧ (Sized st152 ∧ Heard st152 96 (cr [(6918654949022765620 : W64), (8071576453629612596 :
    W64)]) ∧ st152.domOn dCTRL = true ∧ (cr [(6918654949022765620 : W64), (8071576453629612596 :
    W64)]).p ≠ [] ∧ (cr [(6918654949022765620 : W64), (8071576453629612596 : W64)]).p.length ≤ 64
    ∧ (∀ (w : W64), w ∈ (cr [(6918654949022765620 : W64), (8071576453629612596 : W64)]).p → bits w
    55 48 ≤ 75)) ∧ (Sized st152 ∧ Heard st152 97 (cr [(64 : W64)]) ∧ st152.domOn dCTRL = true ∧ (∀
    (k : Nat), k < 16 → bitOf ((cr [(64 : W64)]).p.headD (0 : W64)) k = true → st152.loopState k =
    loRUN ∨ st152.loopState k = loFROZEN) ∧ 6 < 16 ∧ bitOf ((cr [(64 : W64)]).p.headD (0 : W64)) 6
    = true ∧ st152.loopState 6 = loRUN) ∧ (Sized st153 ∧ Heard st153 98 (cr [(131136 : W64)]) ∧
    st153.domOn dCTRL = true ∧ bits ((cr [(131136 : W64)]).p.headD (0 : W64)) 17 16 ≠ 3 ∧ (∀ (k :
    Nat), k < 16 → bitOf ((cr [(131136 : W64)]).p.headD (0 : W64)) k = true → st153.loopState k =
    loFROZEN) ∧ 6 < 16 ∧ bitOf ((cr [(131136 : W64)]).p.headD (0 : W64)) 6 = true) := by
  repeat' apply And.intro
  all_goals first
    | exact of_all (by decide +kernel)
    | decide +kernel
    | (constructor <;> decide +kernel)

theorem witness_SequencerAndMarkerCommands :
    (Sized wPat_c8 ∧ 2 = bits ((cc [(131077 : W64), (1 : W64), (2 : W64), (3 : W64),
    (18446744073709551615 : W64)]).p.headD (0 : W64)) 31 16 ∧ 5 = bits ((cc [(131077 : W64), (1 :
    W64), (2 : W64), (3 : W64), (18446744073709551615 : W64)]).p.headD (0 : W64)) 15 0 ∧ Heard
    wPat_c8 112 (cc [(131077 : W64), (1 : W64), (2 : W64), (3 : W64), (18446744073709551615 :
    W64)]) ∧ wPat_c8.domOn dPAT = true ∧ 2 ≠ 0 ∧ (cc [(131077 : W64), (1 : W64), (2 : W64), (3 :
    W64), (18446744073709551615 : W64)]).p.length = 1 + 2 * 2 ∧ 5 + 2 ≤ 65536 ∧ wPat_c8.vecsInUse
    5 (5 + 2) = false) ∧ (Sized wPat_c8 ∧ Heard wPat_c8 113 (cr [(9223372036854777808 : W64)]) ∧
    wPat_c8.modeOn mPROBE = true ∧ wPat_c8.domOn dPAT = true ∧ wPat_c8.patState = paIDLE ∧
    wPat_c8.pat.start = none ∧ wPat_c8.segValid (bits ((cr [(9223372036854777808 : W64)]).p.headD
    (0 : W64)) 57 48) = true ∧ ((2000 : BitVec 48) = if bitOf ((cr [(9223372036854777808 :
    W64)]).p.headD (0 : W64)) 63 = true then BitVec.ofNat 48 (bits ((cr [(9223372036854777808 :
    W64)]).p.headD (0 : W64)) 47 0) else wPat_c8.now + (64 : BitVec 48)) ∧ (64 : Int) ≤ tickDiff
    (2000 : BitVec 48) wPat_c8.now ∧ tickDiff (2000 : BitVec 48) wPat_c8.now ≤ (2 : Int) ^ 31) ∧
    (Sized wPat_c8 ∧ Heard wPat_c8 113 (cr [(0 : W64)]) ∧ wPat_c8.modeOn mPROBE = true ∧
    wPat_c8.domOn dPAT = true ∧ wPat_c8.patState = paIDLE ∧ wPat_c8.pat.start = none ∧
    wPat_c8.segValid (bits ((cr [(0 : W64)]).p.headD (0 : W64)) 57 48) = true ∧ ((1064 : BitVec
    48) = if bitOf ((cr [(0 : W64)]).p.headD (0 : W64)) 63 = true then BitVec.ofNat 48 (bits ((cr
    [(0 : W64)]).p.headD (0 : W64)) 47 0) else wPat_c8.now + (64 : BitVec 48)) ∧ (64 : Int) ≤
    tickDiff (1064 : BitVec 48) wPat_c8.now ∧ tickDiff (1064 : BitVec 48) wPat_c8.now ≤ (2 : Int)
    ^ 31) ∧ (Sized st154 ∧ Heard st154 114 (cr [(1 : W64)]) ∧ st154.domOn dPAT = true ∧
    st154.patState = paRUN ∧ bits ((cr [(1 : W64)]).p.headD (0 : W64)) 1 0 ≠ 3) ∧ (Sized st155 ∧
    Heard st155 115 (cr [(9 : W64)]) ∧ st155.domOn dPAT = true ∧ st155.patRunning = true ∧
    st155.bit PAT_BR_PEND = false ∧ st155.segValid (bits ((cr [(9 : W64)]).p.headD (0 : W64)) 9 0)
    = true ∧ st155.pat.pastPoint = false) ∧ (Sized st156 ∧ 1 = bits ((cc [(9223372036854775832 :
    W64), (4660 : W64)]).p.headD (0 : W64)) 63 63 ∧ 24 = bits ((cc [(9223372036854775832 : W64),
    (4660 : W64)]).p.headD (0 : W64)) 11 0 ∧ { nbits := 24, words := [(4660 : W64)], tag := some (7 : BitVec 16) : MFrame }
    = { nbits := 24, words := (cc [(9223372036854775832 : W64), (4660 : W64)]).p.tail, tag := some (cc [(9223372036854775832 : W64), (4660 : W64)]).tag : MFrame }
    ∧ Heard st156 144 (cc [(9223372036854775832 : W64), (4660 : W64)]) ∧ st156.standby = true) ∧
    (Sized wLt_c8 ∧ 1 = bits ((cr [(9223372036854775832 : W64), (4660 : W64)]).p.headD (0 : W64))
    63 63 ∧ 24 = bits ((cr [(9223372036854775832 : W64), (4660 : W64)]).p.headD (0 : W64)) 11 0 ∧
    { nbits := 24, words := [(4660 : W64)], tag := some (7 : BitVec 16) : MFrame } = { nbits := 24, words := (cr [(9223372036854775832 : W64), (4660 : W64)]).p.tail, tag := some (cr [(9223372036854775832 : W64), (4660 : W64)]).tag : MFrame }
    ∧ Heard wLt_c8 144 (cr [(9223372036854775832 : W64), (4660 : W64)]) ∧ wLt_c8.standby = false ∧
    wLt_c8.modeOn mLIGHT = true ∧ wLt_c8.bit (MK_CFG_EN 1) = true ∧ 24 ≠ 0 ∧ 24 ≤ 2048 ∧ (cr
    [(9223372036854775832 : W64), (4660 : W64)]).p.length = 1 + (24 + 63) / 64 ∧ (wLt_c8.mkOf
    1).frame = none) ∧ (Sized st157 ∧ 1 = bits ((cr [(9223372036854775832 : W64), (4660 :
    W64)]).p.headD (0 : W64)) 63 63 ∧ 24 = bits ((cr [(9223372036854775832 : W64), (4660 :
    W64)]).p.headD (0 : W64)) 11 0 ∧ { nbits := 24, words := [(4660 : W64)], tag := some (7 : BitVec 16) : MFrame }
    = { nbits := 24, words := (cr [(9223372036854775832 : W64), (4660 : W64)]).p.tail, tag := some (cr [(9223372036854775832 : W64), (4660 : W64)]).tag : MFrame }
    ∧ Heard st157 144 (cr [(9223372036854775832 : W64), (4660 : W64)]) ∧ st157.standby = false ∧
    st157.modeOn mLIGHT = true ∧ st157.bit (MK_CFG_EN 1) = true ∧ 24 ≠ 0 ∧ 24 ≤ 2048 ∧ (cr
    [(9223372036854775832 : W64), (4660 : W64)]).p.length = 1 + (24 + 63) / 64 ∧ (st157.mkOf
    1).frame.isSome = true ∧ (st157.mkOf 1).next = none) := by
  repeat' apply And.intro
  all_goals first
    | decide +kernel
    | (constructor <;> decide +kernel)

theorem witness_PowerAndCustodyCommands :
    (Heard wt 32 (cr [(9223372036854776579 : W64), (2000 : W64)]) ∧ (cr [(9223372036854776579 : W64),
    (2000 : W64)]).p = [(cr [(9223372036854776579 : W64), (2000 : W64)]).p.headD (0 : W64), (2000
    : W64)] ∧ bitOf ((cr [(9223372036854776579 : W64), (2000 : W64)]).p.headD (0 : W64)) 63 = true
    ∧ wt.standby = false ∧ (2000 : BitVec 48) = BitVec.ofNat 48 (bits (2000 : W64) 47 0) ∧ tickLt
    (2000 : BitVec 48) wt.now = false ∧ (tickLt wt.now (2000 : BitVec 48) = true → ((2000 : BitVec
    48) - wt.now).toNat ≤ 2 ^ 31) ∧ wt.changePending = false ∧ (∀ (n : Nat), n < 6 → (bits ((cr
    [(9223372036854776579 : W64), (2000 : W64)]).p.headD (0 : W64)) 13 8).testBit n = true →
    wt.draining n = false) ∧ wt.mirrorCheck (bits ((cr [(9223372036854776579 : W64), (2000 :
    W64)]).p.headD (0 : W64)) 13 8) (bits ((cr [(9223372036854776579 : W64), (2000 :
    W64)]).p.headD (0 : W64)) 5 0) = none) ∧ (Heard wt 34 (cr [(30064771079 : W64)]) ∧
    wt.changePending = false ∧ (∀ (k : Nat), k < 26 → bitOf ((cr [(30064771079 : W64)]).p.headD (0
    : W64)) (32 + k) = true → bitOf ((cr [(30064771079 : W64)]).p.headD (0 : W64)) k = true)) ∧
    (Heard st158 34 (cr [(72057606939607043 : W64)]) ∧ st158.changePending = false ∧ (∀ (k : Nat),
    k < 26 → bitOf ((cr [(72057606939607043 : W64)]).p.headD (0 : W64)) (32 + k) = true → bitOf
    ((cr [(72057606939607043 : W64)]).p.headD (0 : W64)) k = true)) ∧ (Heard wt 47 (cr []) ∧
    (wt.cstate ≠ csACTIVE ∨ wt.modeOn mMIRROR = false)) ∧ (Heard wCu 128 (cr [(0 : W64)]) ∧ (cr
    [(0 : W64)]).p = [(cr [(0 : W64)]).p.headD (0 : W64)] ∧ wCu.isPair = true ∧ bitOf ((cr [(0 :
    W64)]).p.headD (0 : W64)) 0 = false) ∧ (Heard wCu 128 (cr [(1 : W64)]) ∧ (cr [(1 : W64)]).p =
    [(cr [(1 : W64)]).p.headD (0 : W64)] ∧ wCu.isPair = true ∧ bitOf ((cr [(1 : W64)]).p.headD (0
    : W64)) 0 = true ∧ wCu.handoverDue = false ∧ wCu.unitState ≠ usFault ∧ (wCu.cstate = csSEEK ∨
    wCu.cstate = csLOST) ∧ wCu.diagOk = true ∧ wCu.cus.silent = true) ∧ (Heard st159 129 (cr []) ∧
    st159.handoverDue = false ∧ st159.cstate = csACTIVE ∧ CUS_STAT_CSTATE.read
    st159.cus.partnerStat = csSTANDBY ∧ CUS_STAT_DIAG_OK.read st159.cus.partnerStat ≠ 0 ∧
    st159.mateUp = true) ∧ (Heard st160 130 (cr []) ∧ st160.handoverDue = false ∧ st160.cstate =
    csSTANDBY ∧ st160.diagOk = true ∧ st160.mateUp = true) := by
  repeat' apply And.intro
  all_goals first
    | decide +kernel
    | (constructor <;> decide +kernel)

theorem witness_TrialCommands :
    (241 ∈ [240, 241, 242, 243] ∧ ofOpcode 241 (cr [(5 : W64)]) = some (Instr.trialEvent (cr [(5 :
    W64)])) ∧ Heard wt 241 (cr [(5 : W64)]) ∧ (¬wt.bit TR_CFG_EN = true)) ∧ (Heard wTr 240 (cc
    [(4611686023314106249 : W64), (5764607523034234879 : W64)]) ∧ wTr.bit TR_CFG_EN = true ∧ (cc
    [(4611686023314106249 : W64), (5764607523034234879 : W64)]).p = [(cc [(4611686023314106249 :
    W64), (5764607523034234879 : W64)]).p.headD (0 : W64), (5764607523034234879 : W64)] ∧ 2 = bits
    ((cc [(4611686023314106249 : W64), (5764607523034234879 : W64)]).p.headD (0 : W64)) 63 61 ∧ 2
    ≤ 4 ∧ wTr.domOn (gxDomain 2) = true) ∧ (Heard wTr 241 (cc [(18 : W64)]) ∧ wTr.bit TR_CFG_EN =
    true ∧ (cc [(18 : W64)]).p = [(cc [(18 : W64)]).p.headD (0 : W64)] ∧ bits ((cc [(18 :
    W64)]).p.headD (0 : W64)) 9 0 ≤ 703 ∧ sourceReserved (bits ((cc [(18 : W64)]).p.headD (0 :
    W64)) 9 0) = false) ∧ (Heard st161 242 (cr [(1297036692682702850 : W64)]) ∧ st161.bit
    TR_CFG_EN = true ∧ (cr [(1297036692682702850 : W64)]).p = [(cr [(1297036692682702850 :
    W64)]).p.headD (0 : W64)] ∧ 18 = bits ((cr [(1297036692682702850 : W64)]).p.headD (0 : W64))
    63 56 ∧ 2 = bits ((cr [(1297036692682702850 : W64)]).p.headD (0 : W64)) 1 0 ∧ 18 ≠ 255 ∧
    st161.bit (Q_CFG_EN 18) = true ∧ (2 = 1 ∨ 2 = 2) ∧ st161.bit TR_STAT_ECC_PEND = false) ∧
    (Heard wTr 243 (cc [(4294967296 : W64)]) ∧ wTr.bit TR_CFG_EN = true ∧ (cc [(4294967296 :
    W64)]).p = [(cc [(4294967296 : W64)]).p.headD (0 : W64)] ∧ 1 = bits ((cc [(4294967296 :
    W64)]).p.headD (0 : W64)) 35 32 ∧ wTr.bit TR_STAT_CAUSE_ACT = false ∧ (1 = 1 ∨ 1 = 2)) ∧
    (Heard wTr 243 (cc [(8589934592 : W64)]) ∧ wTr.bit TR_CFG_EN = true ∧ (cc [(8589934592 :
    W64)]).p = [(cc [(8589934592 : W64)]).p.headD (0 : W64)] ∧ 2 = bits ((cc [(8589934592 :
    W64)]).p.headD (0 : W64)) 35 32 ∧ wTr.bit TR_STAT_CAUSE_ACT = false ∧ (2 = 1 ∨ 2 = 2)) ∧
    (Heard st162 243 (cc [(12884901888 : W64)]) ∧ st162.bit TR_CFG_EN = true ∧ (cc [(12884901888 :
    W64)]).p = [(cc [(12884901888 : W64)]).p.headD (0 : W64)] ∧ 3 = bits ((cc [(12884901888 :
    W64)]).p.headD (0 : W64)) 35 32 ∧ st162.bit TR_STAT_CAUSE_ACT = false ∧ 3 = 3 ∧ st162.cstate =
    csACTIVE) ∧ (Heard wTr 243 (cr [(21474836480 : W64)]) ∧ wTr.bit TR_CFG_EN = true ∧ (cr
    [(21474836480 : W64)]).p = [(cr [(21474836480 : W64)]).p.headD (0 : W64)] ∧ 5 = bits ((cr
    [(21474836480 : W64)]).p.headD (0 : W64)) 35 32 ∧ wTr.bit TR_STAT_CAUSE_ACT = false ∧ 4 < 5) ∧
    (Heard st163 255 (cc [])) ∧ (st163.atq.trialCause = some Cause.pace ∧ st163.atq.trialEnd ≤
    st163.tb.up) := by
  repeat' apply And.intro
  all_goals first
    | decide +kernel
    | (constructor <;> decide +kernel)

theorem witness_PacketsAndReplies :
    (Heard wt 4 ({ cr [(99 : W64)] with unit := (5 : BitVec 6) : Cmd }) ∧ wt.atq.frag = none ∧
    wt.atq.skip = none) ∧ (wt.listens = true ∧ wt.atq.skip = none ∧ c0Cver (c0Of 4 ({ cr [(99 : W64)] with unit := (5 : BitVec 6) : Cmd })
    ||| (2251799813685248 : W64)) = 4 ∧ (c0Unit (c0Of 4 ({ cr [(99 : W64)] with unit := (5 : BitVec 6) : Cmd })
    ||| (2251799813685248 : W64)) = wt.unitId ∨ c0Group (c0Of 4 ({ cr [(99 : W64)] with unit := (5 : BitVec 6) : Cmd })
    ||| (2251799813685248 : W64)) = true ∧ c0Unit (c0Of 4 ({ cr [(99 : W64)] with unit := (5 : BitVec 6) : Cmd })
    ||| (2251799813685248 : W64)) < wt.unitId) ∧ wt.atq.frag = none ∧ c0More (c0Of 4 ({ cr [(99 : W64)] with unit := (5 : BitVec 6) : Cmd })
    ||| (2251799813685248 : W64)) = true ∧ c0Reserved (c0Of 4 ({ cr [(99 : W64)] with unit := (5 : BitVec 6) : Cmd })
    ||| (2251799813685248 : W64)) = false ∧ c0Len (c0Of 4 ({ cr [(99 : W64)] with unit := (5 : BitVec 6) : Cmd })
    ||| (2251799813685248 : W64)) ≤ 511) ∧ (wEn.listens = true ∧ wEn.atq.skip = none ∧ c0Cver
    (c0Of 4 ({ cr [(99 : W64)] with unit := (8 : BitVec 6) : Cmd })) = 4 ∧ (¬(c0Unit (c0Of 4 ({ cr [(99 : W64)] with unit := (8 : BitVec 6) : Cmd }))
    = wEn.unitId ∨ c0Group (c0Of 4 ({ cr [(99 : W64)] with unit := (8 : BitVec 6) : Cmd })) = true
    ∧ c0Unit (c0Of 4 ({ cr [(99 : W64)] with unit := (8 : BitVec 6) : Cmd })) < wEn.unitId)) ∧
    wEn.portOf (c0Unit (c0Of 4 ({ cr [(99 : W64)] with unit := (8 : BitVec 6) : Cmd }))) = some 1
    ∧ wEn.gxLive (1 + 1) = true ∧ wEn.gx.length = 5) ∧ (wEn.listens = true ∧ wEn.atq.skip = none ∧
    c0Cver (c0Of 4 ({ cr [(99 : W64)] with unit := (18 : BitVec 6) : Cmd })) = 4 ∧ (¬(c0Unit (c0Of
    4 ({ cr [(99 : W64)] with unit := (18 : BitVec 6) : Cmd })) = wEn.unitId ∨ c0Group (c0Of 4 ({ cr [(99 : W64)] with unit := (18 : BitVec 6) : Cmd }))
    = true ∧ c0Unit (c0Of 4 ({ cr [(99 : W64)] with unit := (18 : BitVec 6) : Cmd })) <
    wEn.unitId)) ∧ wEn.portOf (c0Unit (c0Of 4 ({ cr [(99 : W64)] with unit := (18 : BitVec 6) : Cmd })))
    = none ∧ c0More (c0Of 4 ({ cr [(99 : W64)] with unit := (18 : BitVec 6) : Cmd })) = false) ∧
    (st164.atq.frag = some { c0 := c0Of 4 ({ cr [(99 : W64)] with unit := (5 : BitVec 6) : Cmd }), p := [(99 : W64)] : WaitCmd }
    ∧ c0Cver { c0 := c0Of 4 ({ cr [(99 : W64)] with unit := (5 : BitVec 6) : Cmd }), p := [(99 : W64)] : WaitCmd }.c0
    = 4 ∧ st164.atq.fragAt + msTicks ≤ st164.tb.up) ∧ (st165.atq.frag = none ∧
    st165.atq.skip.isSome = true ∧ st165.atq.skipAt + msTicks ≤ st165.tb.up) ∧ (wEn.atq.frag =
    none ∧ wEn.atq.skip = none) ∧ (st166.atq.pend = [{ tag := (7 : BitVec 16), noReply := false, opcode := (48 : BitVec 8), waits := Waits.ready 0 0 3 4 [(9 : W64)] : Pend }]
    ∧ Waits.ready 0 0 3 4 [(9 : W64)] = Waits.ready 0 0 3 4 [(9 : W64)]) ∧ (st167.atq.pend = [{ tag := (7 : BitVec 16), noReply := false, opcode := (3 : BitVec 8), waits := Waits.enumerating 0 4 [(9 : W64)] : Pend }]
    ∧ Waits.enumerating 0 4 [(9 : W64)] = Waits.enumerating 0 4 [(9 : W64)]) ∧ (st168.atq.pend =
    [{ tag := (7 : BitVec 16), noReply := false, order := true, opcode := (80 : BitVec 8), waits := Waits.grade (0 : W64) (6 : W64) true 4 : Pend }]
    ∧ Waits.grade (0 : W64) (6 : W64) true 4 = Waits.grade (0 : W64) (6 : W64) true 4) ∧
    (st169.atq.pend = [{ tag := (7 : BitVec 16), noReply := false, order := true, opcode := (80 : BitVec 8), waits := Waits.grade (5 : W64) (6 : W64) true 4 : Pend }]
    ∧ Waits.grade (5 : W64) (6 : W64) true 4 = Waits.grade (5 : W64) (6 : W64) true 4 ∧ (5 : W64)
    ≠ (0 : W64) ∧ 4 + gradeLimit ≤ st169.tb.up) := by
  repeat' apply And.intro
  all_goals first
    | decide +kernel
    | (constructor <;> decide +kernel)

theorem witness_GroupCommands :
    (wEn.listens = true ∧ wEn.atq.waiting = [] ∧ ({ cr [(99 : W64)] with group := true, unit := (5 : BitVec 6) : Cmd }).order
    = false ∧ ({ cr [(99 : W64)] with group := true, unit := (5 : BitVec 6) : Cmd }).cver = (4 :
    BitVec 4) ∧ ({ cr [(99 : W64)] with group := true, unit := (5 : BitVec 6) : Cmd }).group =
    true ∧ ({ cr [(99 : W64)] with group := true, unit := (5 : BitVec 6) : Cmd }).unit.toNat =
    wEn.unitId ∧ wEn.tagOpen ({ cr [(99 : W64)] with group := true, unit := (5 : BitVec 6) : Cmd }).tag
    = false ∧ wEn.pendCount < 16 ∧ wEn.enumerating = false ∧ ({ cr [(99 : W64)] with group := true, unit := (5 : BitVec 6) : Cmd }).p.length
    ≤ 1 ∧ wEn.gx.length = 5 ∧ wEn.readyOrActive = true) ∧ (st170.atq.groups = [g0] ∧
    st170.atq.merged = [] ∧ r8.type = (8 : BitVec 4) ∧ r8.cont = false ∧ r8.payload = [(458752 :
    W64), (2 : W64), (3 : W64)] ∧ bits (458752 : W64) 63 56 ≠ 9 ∧ bits (458752 : W64) 31 16 =
    g0.tag.toNat ∧ g0.lo ≤ r8.unit ∧ r8.unit ≤ g0.hi ∧ (∀ (q : Part), q ∈ g0.parts → q.unit ≠
    r8.unit) ∧ g0.openParts = [] ∧ (∃ k, g0.lo ≤ k ∧ k ≤ g0.hi ∧ k ≠ r8.unit ∧ ∀ (q : Part), q ∈
    g0.parts → q.unit ≠ k)) ∧ (st171.atq.groups = [] ∧ st171.atq.merged = [] ∧ ((7 : BitVec 16),
    (5 : BitVec 6), (9 : BitVec 6), 3) ∈ st171.atq.discards ∧ r8.type = (8 : BitVec 4) ∧ r8.cont =
    false ∧ r8.payload = [(458752 : W64), (2 : W64), (3 : W64)] ∧ bits (458752 : W64) 31 16 = 7 ∧
    (5 : BitVec 6) ≤ r8.unit ∧ r8.unit ≤ (9 : BitVec 6)) ∧ ((st172.atq.groups = [let __src := g0;
    { tag := __src.tag, noReply := __src.noReply, lo := __src.lo, hi := __src.hi, parts := __src.parts, openParts := __src.openParts, ownAt := some 5 : Group }])
    ∧ ({ g0 with ownAt := some 5 : Group }).ownAt = some 5 ∧ 5 + st172.groupWait ≤ st172.tb.up) ∧
    (st170.atq.groups = [g0] ∧ g0.ownAt = none) ∧ ((List.find? (fun e => e.fst == (7 : BitVec 16))
    st173.atq.discards = some ((7 : BitVec 16), (5 : BitVec 6), (9 : BitVec 6), 3)) ∧ ((7 : BitVec
    16), (5 : BitVec 6), (9 : BitVec 6), 3).snd.snd.snd + st173.groupWait ≤ st173.tb.up) ∧ ((∀ (e
    : BitVec 16 × BitVec 6 × BitVec 6 × Nat), e ∈ st174.atq.discards → e.fst ≠ (9 : BitVec 16))) := by
  repeat' apply And.intro
  all_goals decide +kernel

theorem witness_Enumeration :
    (Heard st175 3 (cr []) ∧ (∀ (u : TreeUnit), u ∈ [tu (1 : BitVec 6) false, tu (2 : BitVec 6) false]
    → u.own = false) ∧ st175.isHead = true) ∧ (Heard st176 3 (cr []) ∧ (∀ (u : TreeUnit), u ∈
    [tuB, tu (1 : BitVec 6) false] → u.own = false) ∧ st176.isHead = true) ∧ (Heard wt 3 (cr []) ∧
    (∀ (u : TreeUnit), u ∈ [tu (1 : BitVec 6) false, tu (2 : BitVec 6) false] → u.own = false) ∧
    wt.isHead = false) ∧ (wt.isHead = false ∧ wt.unitState ≠ usOff ∧ ownPlace 0 (numberingOrder 64
    1 [tu (1 : BitVec 6) false, tu (2 : BitVec 6) true, tu (3 : BitVec 6) false]) = some (1, tu (2
    : BitVec 6) true, [tu (3 : BitVec 6) false])) := by
  repeat' apply And.intro
  all_goals first
    | decide +kernel
    | (constructor <;> decide +kernel)

theorem witness_ModesChangeAndDrain :
    (wMo.atq.pend = [{ tag := (7 : BitVec 16), noReply := false, opcode := (32 : BitVec 8), waits := Waits.modeSet (some (1200 : Tick)) (6 : BitVec 6) (4 : BitVec 6) false : Pend }])
    ∧ (st178.atq.pend = [{ tag := (7 : BitVec 16), noReply := false, opcode := (32 : BitVec 8), waits := Waits.modeSet (some (1200 : Tick)) (6 : BitVec 6) (0 : BitVec 6) false : Pend }])
    ∧ (wMo.atq.pend = [{ tag := (7 : BitVec 16), noReply := false, opcode := (32 : BitVec 8), waits := Waits.modeSet (some (1200 : Tick)) (6 : BitVec 6) (4 : BitVec 6) false : Pend }]
    ∧ wMo.standby = false ∧ wMo.maskWaits (maskAfter (wMo.get MODE_STATUS_MASK) (6) (4)) = []) ∧
    (st177.atq.pend = [{ tag := (7 : BitVec 16), noReply := false, opcode := (32 : BitVec 8), waits := Waits.modeSet (some (1200 : Tick)) (6 : BitVec 6) (4 : BitVec 6) false : Pend }]
    ∧ st177.standby = true) ∧ (1 < 6 ∧ st179.draining 1 = true ∧ st179.workDone 1 = true) ∧ (1 < 6
    ∧ st180.draining 1 = true ∧ st180.workDone 1 = true) := by
  repeat' apply And.intro
  all_goals decide +kernel

theorem witness_RaisesLatchAndRecord :
    ((sourceReserved ↑(44 : Fin 704) = true ∨ wEv.bit (EV_SRC_EN ↑(44 : Fin 704)) = false ∨ wEv.domOn
    dCORE = false)) ∧ (sourceReserved ↑(32 : Fin 704) = false ∧ wEv.bit (EV_SRC_EN ↑(32 : Fin
    704)) = true ∧ wEv.domOn dCORE = true ∧ wEv.bit (EV_SRC_CUS ↑(32 : Fin 704)) = true) ∧
    (sourceReserved ↑(32 : Fin 704) = false ∧ wEv.domOn dCORE = true ∧ wEv.domOn dLOAM = true ∧
    wEv.bit (EV_SRC_EN ↑(32 : Fin 704)) = true ∧ wEv.bit (EV_SRC_REC ↑(32 : Fin 704)) = true ∧
    wEv.standby = false ∧ wEv.loam.trialEcc = none ∧ (wEv.queue 241).stall = none ∧ wEv.get
    (Q_LIM_WM 241) = 0 ∧ wEv.admission 241 1 = none) := by
  repeat' apply And.intro
  all_goals decide +kernel

theorem witness_PaceWindows :
    (st181.domOn dCORE = true ∧ st181.bit PACE_CTRL_RUN = true) ∧ (st182.domOn dCORE = true ∧
    st182.bit PACE_CTRL_RUN = true) := by
  repeat' apply And.intro
  all_goals decide +kernel

theorem witness_MirrorCopies :
    (wt.cstate = csSOLO ∧ wt.draining mMIRROR = false) ∧ (wCu_c10.cstate ≠ csSOLO ∧ wCu_c10.cus.giveUp
    = false ∧ wCu_c10.cus.silentTake = false) ∧ (st183.cstate ≠ csSOLO ∧ st183.cus.giveUp = false
    ∧ st183.cus.silentTake = false) ∧ (st184.cstate = csACTIVE ∧ st184.cus.sending = some mc ∧
    mc.boundary = mc.boundary ∧ st184.cus.holding = false ∧ mc.ok = true) ∧ ((wCu_c10.cstate =
    csSTANDBY ∨ wCu_c10.cstate = csSYNC) ∧ ({ mc with ok := false : MirrorCopy }).ok = false) ∧
    (wCu_c10.cstate = csSYNC ∧ mc.ok = true) := by
  repeat' apply And.intro
  all_goals decide +kernel

theorem witness_HandoversMoveControl :
    (st185.cstate = csACTIVE ∧ st185.isPair = true ∧ st185.cus.outgoing = none) ∧ ((wCu_c10.cstate =
    csSYNC ∨ wCu_c10.cstate = csSTANDBY)) ∧ (st185.cstate = csACTIVE ∧ st185.cus.hb = none) ∧
    (wHo.cus.hb = some wHo.now ∧ wHo.cstate = csACTIVE ∧ wHo.cus.outgoing = some (3 : BitVec 4) ∧
    wHo.cus.faultAfter = false) ∧ (st186.cus.hb = some st186.now ∧ st186.cstate = csACTIVE ∧
    st186.cus.outgoing = some (3 : BitVec 4) ∧ st186.cus.faultAfter = false) ∧ (st187.cus.hb =
    some st187.now ∧ st187.cstate = csSTANDBY ∧ st187.cus.outgoing = none ∧ st187.cus.taking =
    false ∧ st187.diagOk = true ∧ st187.cus.ineligible = false) ∧ (st188.cus.hb = some st188.now ∧
    st188.cstate = csSTANDBY ∧ st188.cus.outgoing = none ∧ st188.cus.taking = false ∧ st188.diagOk
    = false) := by
  repeat' apply And.intro
  all_goals decide +kernel

theorem witness_GuardAndCustodyTimes :
    (wt.cstate = csSOLO) ∧ ((wCu_c10.cstate = csSYNC ∨ wCu_c10.cstate = csSTANDBY) ∧ wCu_c10.cus.hb =
    none) ∧ (st189.cstate = csACTIVE) ∧ (st190.cstate = csSEEK ∧ st190.mateUp = true ∧
    st190.cus.joined = false ∧ CUS_STAT_HOLDS.read (CUS_STAT_HOLDS.write 1 (0 : W32)) = 1) ∧
    (st191.cstate = csSEEK ∧ st191.cus.silent = true ∧ st191.diagOk = true ∧ st191.cus.seekFrom +
    st191.seekTicks ≤ st191.tb.up) ∧ ((st192.cstate = csYIELDED ∨ st192.cstate = csSYNC) ∧
    st192.cus.orphan = some 4 ∧ st192.cus.silent = true ∧ 4 + 2375 + st192.mirrorPer ≤
    st192.tb.up) := by
  repeat' apply And.intro
  all_goals decide +kernel

theorem witness_SupplyMonitorsAndRails :
    (wRa.railChecked ↑(1 : Fin 7) = true ∧ wRa.pwr.railOut.contains ↑(1 : Fin 7) = false) ∧
    (wRa.railChecked ↑(6 : Fin 7) = true ∧ wRa.pwr.railOut.contains ↑(6 : Fin 7) = false) ∧
    (wRa.railChecked ↑(1 : Fin 7) = true ∧ wRa.pwr.railOut.contains ↑(1 : Fin 7) = false ∧
    lightRail ↑(1 : Fin 7) = false) ∧ (wRa.railChecked ↑(3 : Fin 7) = true ∧
    wRa.pwr.railOut.contains ↑(3 : Fin 7) = false) ∧ (st193.pwr.railOut.contains ↑(1 : Fin 7) =
    true ∧ lightRail ↑(1 : Fin 7) = false ∧ ↑(1 : Fin 7) < 3) ∧ (st193.pwr.railOut.contains ↑(5 :
    Fin 7) = true) ∧ (wRa.pwr.supply = true) := by
  repeat' apply And.intro
  all_goals decide +kernel

theorem witness_FaultsAndDomains :
    (((∃ k, Instr.railFault (1 : Fin 7) = Instr.railFault k ∧ FAULT_CAUSE_RAIL = FAULT_CAUSE_RAIL ∧
    Cause.rail = Cause.rail ∧ st193.railChecked ↑k = true ∧ st193.pwr.railOut.contains ↑k = true)
    ∨ Instr.railFault (1 : Fin 7) = Instr.watchdogTimeout ∧ FAULT_CAUSE_RAIL =
    FAULT_CAUSE_WATCHDOG ∧ Cause.rail = Cause.watchdog ∧ st193.domOn dATSQ = true) ∧ st193.cstate
    ≠ csACTIVE ∧ st193.readyOrActive = true) ∧ (((∃ k, Instr.watchdogTimeout = Instr.railFault k ∧
    FAULT_CAUSE_WATCHDOG = FAULT_CAUSE_RAIL ∧ Cause.watchdog = Cause.rail ∧ wRa.railChecked ↑k =
    true ∧ wRa.pwr.railOut.contains ↑k = true) ∨ Instr.watchdogTimeout = Instr.watchdogTimeout ∧
    FAULT_CAUSE_WATCHDOG = FAULT_CAUSE_WATCHDOG ∧ Cause.watchdog = Cause.watchdog ∧ wRa.domOn
    dATSQ = true) ∧ wRa.cstate ≠ csACTIVE ∧ wRa.readyOrActive = true) ∧ (((∃ k, Instr.railFault (1
    : Fin 7) = Instr.railFault k ∧ FAULT_CAUSE_RAIL = FAULT_CAUSE_RAIL ∧ Cause.rail = Cause.rail ∧
    st194.railChecked ↑k = true ∧ st194.pwr.railOut.contains ↑k = true) ∨ Instr.railFault (1 : Fin
    7) = Instr.watchdogTimeout ∧ FAULT_CAUSE_RAIL = FAULT_CAUSE_WATCHDOG ∧ Cause.rail =
    Cause.watchdog ∧ st194.domOn dATSQ = true) ∧ st194.cstate = csACTIVE) ∧ (↑(20 : Fin 27) ≠ 0 ∧
    wDo.rising ↑(20 : Fin 27) = true ∧ wDo.railsGood ↑(20 : Fin 27) = true) ∧ (↑(21 : Fin 27) ≠ 0
    ∧ (wDo.rising ↑(21 : Fin 27) = false ∨ wDo.railsGood ↑(21 : Fin 27) = false)) ∧ (↑(12 : Fin
    27) ≠ 0 ∧ wDo.pwr.falling.head? = some ↑(12 : Fin 27)) ∧ (↑(13 : Fin 27) ≠ 0 ∧
    wDo.pwr.falling.head? ≠ some ↑(13 : Fin 27)) ∧ (↑(20 : Fin 27) ≠ 0 ∧ wDo.rising ↑(20 : Fin 27)
    = true) := by
  repeat' apply And.intro
  all_goals decide +kernel

theorem witness_Resets :
    (100 ≤ 100) ∧ (1000 ≤ 1000 ∧ wRa.pwr.supply = true) ∧ (wRa.pwr.supply = true) ∧ (st195.pwr.resetn
    = false ∧ st195.pwr.supply = true) ∧ (st196.pwr.resetn = true ∧ st196.pwr.supply = false) ∧
    (st197.atq.resetDue = true) := by
  repeat' apply And.intro
  all_goals decide +kernel

theorem witness_BootSteps :
    (wBo.booting = true ∧ wBo.pwr.romOk = false) ∧ (st198.booting = true ∧ st198.pwr.romOk = true ∧
    st198.pwr.memOk = false ∧ 5 ≤ st198.get LP_CFG_QLIM ∧ 5 ≤ poolGrains) ∧ (st199.booting = true
    ∧ st199.pwr.romOk = true ∧ st199.pwr.memOk = false ∧ 5 ≤ st199.get LP_CFG_QLIM ∧ 5 ≤
    poolGrains) ∧ (st198.booting = true ∧ st198.pwr.romOk = true ∧ st198.pwr.memOk = false ∧
    st198.get LP_CFG_QLIM < 5000 ∧ st198.get LP_CFG_QLIM < poolGrains) ∧ (st200.booting = true ∧
    st200.pwr.memOk = true ∧ st200.bit STRAP_BOOTSRC = true ∧ ([(4294967295 : W32), (5 :
    W32)].head? = some (4294967295 : W32) ∨ [(4294967295 : W32), (5 : W32)] = [])) ∧
    (st200.booting = true ∧ st200.pwr.memOk = true ∧ st200.bit STRAP_BOOTSRC = true ∧ [(1919156225
    : W32), (0 : W32), (0 : W32), crc32 [(1919156225 : W32), (0 : W32), (0 : W32)]] = [(1919156225
    : W32), (0 : W32), (0 : W32), crc32 [(1919156225 : W32), (0 : W32), (0 : W32)]]) := by
  repeat' apply And.intro
  all_goals decide +kernel

end Sys2Proof.Tests
end

section
/-! The end of a pace window (R19, R20). A window moves COUNT and MIN of its own region, its own bit
of BELOW and its own source. Each region's result is therefore that of its own window: the other
three leave alone all that it reads and writes. -/
namespace Sys2Proof

open Sys2Proof.Machine

/-! ### Fields that share no bit, and sets of bits -/

/-- Two fields share no bit of a register. -/
abbrev Apart (f g : RF) : Prop := f.addr ≠ g.addr ∨ f.hi < g.lo ∨ g.hi < f.lo

theorem get_put_of_lt (s : State) (f : RF) (v : Nat) (hf : f.hi < 32) (hv : v < 2 ^ f.width) :
    (s.put f v).get f = v := by
  rw [State.get_put_same _ _ _ hf, Nat.mod_eq_of_lt hv]

theorem has_mark (s : State) (f : RF) (k j : Nat) (hf : f.hi < 32) (hj : j < f.width) :
    (s.mark f k).has f j = (s.has f j || decide (k = j)) := by
  unfold State.has State.mark
  rw [State.get_put_same _ _ _ hf, Nat.testBit_mod_two_pow, Nat.testBit_or, Nat.one_shiftLeft,
    Nat.testBit_two_pow]
  simp [hj]

/-! ### The fields of a region -/

/-- What the window of region `n` reads and does not count in: the floor, the margin, whether CORE is
on and whether source 8 + n is. -/
def paceInputs (n : Fin 4) : List RF :=
  [PACE_FLOOR n, PACE_CTRL_MARGIN, DOM_STAT_ON, EV_SRC_EN (8 + n)]

/-- The inputs of region `n`, its count and its minimum. -/
def paceFields (n : Fin 4) : List RF := PACE_COUNT n :: PACE_MIN_MIN n :: paceInputs n

/-- The latch word of source 8 + n. -/
def paceLatch (n : Fin 4) : RF := EV_LATCH_SRC ((8 + n) / 32)

theorem paceFields_hi : ∀ n : Fin 4, ∀ g ∈ PACE_LOW_BELOW :: paceLatch n :: paceFields n,
    g.hi < 32 := by
  decide

theorem paceFields_not_event : ∀ n : Fin 4, ∀ g ∈ PACE_LOW_BELOW :: paceFields n,
    eventAddr g.addr = false := by
  decide

theorem below_apart : ∀ n : Fin 4, ∀ g ∈ paceLatch n :: paceFields n, Apart PACE_LOW_BELOW g := by
  decide

theorem min_apart_count : ∀ n : Fin 4, Apart (PACE_MIN_MIN n) (PACE_COUNT n) := by decide

/-- A region's counts share no bit with what its window reads, nor with BELOW. -/
theorem counts_apart_inputs : ∀ n : Fin 4, ∀ g ∈ PACE_LOW_BELOW :: paceInputs n,
    Apart (PACE_COUNT n) g ∧ Apart (PACE_MIN_MIN n) g := by
  decide

/-- A region's counts share no bit with the fields of another region. -/
theorem counts_apart_fields : ∀ j n : Fin 4, j ≠ n →
    ∀ g ∈ PACE_LOW_BELOW :: paceLatch n :: paceFields n,
      Apart (PACE_COUNT j) g ∧ Apart (PACE_MIN_MIN j) g := by
  decide

/-- The effective floor is that of any state with the same inputs. -/
theorem paceLimit_congr {n : Fin 4} {s u : State} (h : ∀ g ∈ paceInputs n, u.get g = s.get g) :
    u.paceLimit n = s.paceLimit n := by
  unfold State.paceLimit
  rw [h _ (by simp [paceInputs]), h _ (by simp [paceInputs])]

/-! ### The window of one region -/

/-- COUNT and MIN of a region written at the end of its window (R19). -/
def paceCounted (s : State) (n : Fin 4) (c : BitVec 16) : State :=
  let u := s.put (PACE_COUNT n) c.toNat
  u.put (PACE_MIN_MIN n) (min (u.get (PACE_MIN_MIN n)) c.toNat)

theorem paceCounted_get_apart (s : State) (n : Fin 4) (c : BitVec 16) {g : RF} (hg : g.hi < 32)
    (h : Apart (PACE_COUNT n) g ∧ Apart (PACE_MIN_MIN n) g) :
    (paceCounted s n c).get g = s.get g :=
  (State.get_put_other _ _ _ _ hg h.2).trans (State.get_put_other _ _ _ _ hg h.1)

theorem paceCounted_get_input (s : State) (n : Fin 4) (c : BitVec 16) {g : RF}
    (h : g ∈ PACE_LOW_BELOW :: paceInputs n) : (paceCounted s n c).get g = s.get g := by
  refine paceCounted_get_apart s n c (paceFields_hi n g ?_) (counts_apart_inputs n g h)
  simp only [paceFields, List.mem_cons] at h ⊢
  exact h.imp_right fun hi => .inr (.inr (.inr hi))

theorem paceCounted_get_count (s : State) (n : Fin 4) (c : BitVec 16) :
    (paceCounted s n c).get (PACE_COUNT n) = c.toNat :=
  (State.get_put_other _ _ _ _ (show 15 < 32 by omega) (min_apart_count n)).trans
    (get_put_of_lt _ _ _ (show 15 < 32 by omega) c.isLt)

theorem paceCounted_get_min (s : State) (n : Fin 4) (c : BitVec 16) :
    (paceCounted s n c).get (PACE_MIN_MIN n) = min (s.get (PACE_MIN_MIN n)) c.toNat := by
  have hmin : (s.put (PACE_COUNT n) c.toNat).get (PACE_MIN_MIN n) = s.get (PACE_MIN_MIN n) :=
    State.get_put_other _ _ _ _ (show 15 < 32 by omega) ((min_apart_count n).imp Ne.symm Or.symm)
  have hlt : min (s.get (PACE_MIN_MIN n)) c.toNat < 2 ^ (PACE_MIN_MIN n).width :=
    Nat.lt_of_le_of_lt (Nat.min_le_right _ _) c.isLt
  simp only [paceCounted, hmin]
  exact get_put_of_lt _ _ _ (show 15 < 32 by omega) hlt

/-- The effective floor of a region does not move with its counts (R20). -/
theorem paceCounted_paceLimit (s : State) (n : Fin 4) (c : BitVec 16) :
    (paceCounted s n c).paceLimit n = s.paceLimit n :=
  paceLimit_congr fun _ hg => paceCounted_get_input s n c (List.mem_cons_of_mem _ hg)

theorem paceWindow_eq (s : State) (n : Fin 4) (c : BitVec 16) :
    s.paceWindow n c = if c.toNat < s.paceLimit n
      then ((paceCounted s n c).mark PACE_LOW_BELOW n).raise (8 + n) else paceCounted s n c := by
  rw [← paceCounted_paceLimit s n c]
  rfl

/-! ### What leaves a region alone -/

/-- Nothing moved that the window of region `n` reads or writes; its latch bit may have been set. -/
structure PaceKept (n : Fin 4) (s t : State) : Prop where
  mem : t.mem = s.mem
  get : ∀ g ∈ paceFields n, t.get g = s.get g
  below : t.has PACE_LOW_BELOW n = s.has PACE_LOW_BELOW n
  latch : Latched s (8 + n) → Latched t (8 + n)

namespace PaceKept

variable {n : Fin 4}

theorem refl (s : State) : PaceKept n s s := ⟨rfl, fun _ _ => rfl, rfl, id⟩

theorem trans {s t u : State} (h : PaceKept n s t) (k : PaceKept n t u) : PaceKept n s u where
  mem := k.mem.trans h.mem
  get g hg := (k.get g hg).trans (h.get g hg)
  below := k.below.trans h.below
  latch hs := k.latch (h.latch hs)

/-- The window of `n` finds the same inputs. -/
theorem get_input {s t : State} (h : PaceKept n s t) {g : RF} (hg : g ∈ paceInputs n) :
    t.get g = s.get g :=
  h.get g (List.mem_cons_of_mem _ (List.mem_cons_of_mem _ hg))

theorem ofQuiet {s t : State} (h : Quiet s t) : PaceKept n s t where
  mem := h.mem
  get g hg := State.get_congr (h.rd _ (paceFields_not_event n g (List.mem_cons_of_mem _ hg)))
  below := Quiet.has_congr (h.rd _ (paceFields_not_event n _ List.mem_cons_self)) n
  latch := h.latch (8 + n) (by omega)

/-- A step that moves none of the fields of region `n`, its latch word and its bit of BELOW. -/
theorem ofGet {s t : State} (hm : t.mem = s.mem)
    (h : ∀ g ∈ paceLatch n :: paceFields n, t.get g = s.get g)
    (hb : t.has PACE_LOW_BELOW n = s.has PACE_LOW_BELOW n) : PaceKept n s t where
  mem := hm
  get g hg := h g (List.mem_cons_of_mem _ hg)
  below := hb
  latch hs := by
    have hl : t.get (paceLatch n) = s.get (paceLatch n) := h _ List.mem_cons_self
    unfold Latched State.has at *
    exact hl ▸ hs

/-- Writing another region's COUNT and MIN. -/
theorem counted (s : State) {j : Fin 4} (c : BitVec 16) (hj : j ≠ n) :
    PaceKept n s (paceCounted s j c) := by
  have h : ∀ g ∈ PACE_LOW_BELOW :: paceLatch n :: paceFields n, (paceCounted s j c).get g = s.get g :=
    fun g hg => paceCounted_get_apart s j c (paceFields_hi n g hg) (counts_apart_fields j n hj g hg)
  refine ofGet rfl (fun g hg => h g (List.mem_cons_of_mem _ hg)) ?_
  unfold State.has
  rw [h _ List.mem_cons_self]

theorem get_markBelow (s : State) (k : Nat) {g : RF} (hg : g ∈ paceLatch n :: paceFields n) :
    (s.mark PACE_LOW_BELOW k).get g = s.get g :=
  State.get_put_other _ _ _ _ (paceFields_hi n g (List.mem_cons_of_mem _ hg)) (below_apart n g hg)

/-- Setting another region's bit of BELOW. -/
theorem markBelow (s : State) {j : Fin 4} (hj : j ≠ n) :
    PaceKept n s (s.mark PACE_LOW_BELOW j) := by
  refine ofGet rfl (fun g hg => get_markBelow s j hg) ?_
  rw [has_mark _ _ _ _ (show 3 < 32 by omega) n.isLt]
  simp [Fin.val_inj, hj]

/-- The end of another region's window. -/
theorem window (s : State) {j : Fin 4} (c : BitVec 16) (hj : j ≠ n) :
    PaceKept n s (s.paceWindow j c) := by
  rw [paceWindow_eq]
  split
  · exact ((counted s c hj).trans (markBelow _ hj)).trans (ofQuiet (Quiet.raise _ _ (by omega)))
  · exact counted s c hj

end PaceKept

/-! ### What a region's own window brings -/

/-- A window of region `n` ended with the count `c` (R19, R20). -/
structure PaceEnded (n : Fin 4) (c : BitVec 16) (s t : State) : Prop where
  mem : t.mem = s.mem
  count : t.get (PACE_COUNT n) = c.toNat
  min : t.get (PACE_MIN_MIN n) = min (s.get (PACE_MIN_MIN n)) c.toNat
  low : c.toNat < s.paceLimit n → t.has PACE_LOW_BELOW n = true ∧ Raised s t (8 + n)
  kept : s.paceLimit n ≤ c.toNat → t.has PACE_LOW_BELOW n = s.has PACE_LOW_BELOW n

/-- Whether source 8 + n is on is said by any state with the same inputs. -/
theorem raised_congr {n : Fin 4} {s u t : State} (h : ∀ g ∈ paceInputs n, u.get g = s.get g)
    (hr : Raised u t (8 + n)) : Raised s t (8 + n) := by
  intro hres hcore hen
  have hon : u.domOn dCORE = s.domOn dCORE := by
    unfold State.domOn State.has
    rw [h _ (by simp [paceInputs])]
  have hbit : u.bit (EV_SRC_EN (8 + n)) = s.bit (EV_SRC_EN (8 + n)) := by
    unfold State.bit
    rw [h _ (by simp [paceInputs])]
  exact hr hres (hon.trans hcore) (hbit.trans hen)

theorem paceEnded_low {s : State} {n : Fin 4} {c : BitVec 16} (hlow : c.toNat < s.paceLimit n) :
    PaceEnded n c s (((paceCounted s n c).mark PACE_LOW_BELOW n).raise (8 + n)) := by
  have hk := PaceKept.ofQuiet (n := n)
    (Quiet.raise ((paceCounted s n c).mark PACE_LOW_BELOW n) (8 + n) (by omega))
  have hget : ∀ g ∈ paceFields n,
      ((paceCounted s n c).mark PACE_LOW_BELOW n).get g = (paceCounted s n c).get g :=
    fun g hg => PaceKept.get_markBelow _ _ (List.mem_cons_of_mem _ hg)
  have raised : Raised ((paceCounted s n c).mark PACE_LOW_BELOW n) _ (8 + n) :=
    Quiet.raise_latched _ _ (by omega)
  refine ⟨hk.mem, ?_, ?_, fun _ => ⟨?_, raised_congr (fun g hg => ?_) raised⟩,
    fun h => absurd hlow (by omega)⟩
  · have hf : PACE_COUNT n ∈ paceFields n := by simp [paceFields]
    rw [hk.get _ hf, hget _ hf, paceCounted_get_count]
  · have hf : PACE_MIN_MIN n ∈ paceFields n := by simp [paceFields]
    rw [hk.get _ hf, hget _ hf, paceCounted_get_min]
  · rw [hk.below, has_mark _ _ _ _ (show 3 < 32 by omega) n.isLt]
    simp
  · rw [hget g (List.mem_cons_of_mem _ (List.mem_cons_of_mem _ hg)),
      paceCounted_get_input s n c (List.mem_cons_of_mem _ hg)]

theorem paceEnded_counted {s : State} {n : Fin 4} {c : BitVec 16} (hc : ¬ c.toNat < s.paceLimit n) :
    PaceEnded n c s (paceCounted s n c) where
  mem := rfl
  count := paceCounted_get_count s n c
  min := paceCounted_get_min s n c
  low h := absurd h hc
  kept _ := by
    unfold State.has
    rw [paceCounted_get_input s n c List.mem_cons_self]

theorem paceWindow_ended (s : State) (n : Fin 4) (c : BitVec 16) :
    PaceEnded n c s (s.paceWindow n c) := by
  rw [paceWindow_eq]
  split
  · next h => exact paceEnded_low h
  · next h => exact paceEnded_counted h

/-- What leaves region `n` alone, before its window and after it, changes nothing of the result. -/
theorem PaceEnded.within {n : Fin 4} {c : BitVec 16} {s u v t : State} (h : PaceEnded n c u v)
    (before : PaceKept n s u) (after : PaceKept n v t) : PaceEnded n c s t := by
  have inputs : ∀ g ∈ paceInputs n, u.get g = s.get g := fun g hg => before.get_input hg
  have limit := paceLimit_congr inputs
  have hcount : PACE_COUNT n ∈ paceFields n := List.mem_cons_self
  have hmin : PACE_MIN_MIN n ∈ paceFields n := List.mem_cons_of_mem _ List.mem_cons_self
  refine ⟨?_, ?_, ?_, fun hlow => ?_, fun hle => ?_⟩
  · rw [after.mem, h.mem, before.mem]
  · rw [after.get _ hcount, h.count]
  · rw [after.get _ hmin, h.min, before.get _ hmin]
  · obtain ⟨hbelow, hraised⟩ := h.low (limit ▸ hlow)
    refine ⟨after.below.trans hbelow, raised_congr inputs fun hres hcore hen => ?_⟩
    exact after.latch (hraised hres hcore hen)
  · rw [after.below, h.kept (limit ▸ hle), before.below]

/-! ### The four windows -/

theorem exec_paceWindowEnd (s : State) (c0 c1 c2 c3 : BitVec 16) :
    Machine.exec (.paceWindowEnd c0 c1 c2 c3) s = .next (s.paceEnd c0 c1 c2 c3) := rfl

theorem paceEnd_of_run {s : State} (hcore : s.domOn dCORE = true) (hrun : s.bit PACE_CTRL_RUN = true)
    (c0 c1 c2 c3 : BitVec 16) : s.paceEnd c0 c1 c2 c3 =
      (((s.paceWindow 0 c0).paceWindow 1 c1).paceWindow 2 c2).paceWindow 3 c3 := by
  simp [State.paceEnd, hcore, hrun]

/-- Every region's result stands after the four windows (R19, R20). -/
theorem paceEnd_ended {s : State} (hcore : s.domOn dCORE = true) (hrun : s.bit PACE_CTRL_RUN = true)
    (c : Fin 4 → BitVec 16) (n : Fin 4) :
    PaceEnded n (c n) s (s.paceEnd (c 0) (c 1) (c 2) (c 3)) := by
  rw [paceEnd_of_run hcore hrun]
  have keep {n : Fin 4} (j : Fin 4) (u : State) (hj : j ≠ n) : PaceKept n u (u.paceWindow j (c j)) :=
    PaceKept.window u (c j) hj
  match n with
  | 0 =>
    exact (paceWindow_ended _ 0 (c 0)).within (.refl _)
      (((keep 1 _ (by decide)).trans (keep 2 _ (by decide))).trans (keep 3 _ (by decide)))
  | 1 =>
    exact (paceWindow_ended _ 1 (c 1)).within (keep 0 _ (by decide))
      ((keep 2 _ (by decide)).trans (keep 3 _ (by decide)))
  | 2 =>
    exact (paceWindow_ended _ 2 (c 2)).within ((keep 0 _ (by decide)).trans (keep 1 _ (by decide)))
      (keep 3 _ (by decide))
  | 3 =>
    exact (paceWindow_ended _ 3 (c 3)).within
      (((keep 0 _ (by decide)).trans (keep 1 _ (by decide))).trans (keep 2 _ (by decide))) (.refl _)

/-- Settles O53: each region's window ends with its result, and the other three leave it alone. -/
theorem paceWindows : Obligations.PaceWindows := by
  unfold Obligations.PaceWindows
  intro s c hcore hrun
  have ended := paceEnd_ended hcore hrun c
  refine ⟨_, exec_paceWindowEnd s _ _ _ _, (ended 0).mem, fun n => ?_⟩
  exact ⟨(ended n).count, (ended n).min, (ended n).low, (ended n).kept⟩

end Sys2Proof
end

section
/-! A write to a claim register (R45). The four registers stand in the identity block, whose domain is
AON: a write to one passes every check of the register path and comes to `State.writeClaim`, which
refuses it while PROBE is on and leaves no mark. -/
namespace Sys2Proof

open Sys2Proof.Machine

/-! ### The register path -/

/-- An address in a block of the map is accessible while one of its domains is on (R439, R462). -/
theorem accessCheck_eq_none {s : State} {a : Nat} (align : a % 4 = 0)
    (block : (blockOf a).isSome = true) (power : s.powered a = true) : s.accessCheck a = none := by
  simp [State.accessCheck, align, power, Option.isSome_iff_ne_none.mp block]

/-- A register below the descriptors of the pattern engine, outside the patch RAM, is written by the
rule of its block. -/
theorem writeReg_eq_writeBlock {s : State} {a : Nat} (access : s.accessCheck a = none)
    (patch : isPatchRam a = false) (low : a < 0xD4000) (row : (regRow? a).isSome = true) (v : W32) :
    s.writeReg a v = s.writeBlock a v := by
  have hvec : ¬ 0x800000 ≤ a := by omega
  have hdesc : ¬ 0xD4000 ≤ a := by omega
  simp [State.writeReg, access, patch, hvec, hdesc, Option.isSome_iff_ne_none.mp row]

/-- A write refused without a mark leaves the state as it was. -/
theorem doWrite_of_refused {s : State} {a : Nat} {v : W32} {st d : Nat}
    (h : s.writeReg a v = .error (st, d, .nothing)) : s.doWrite a v = s := by
  simp [State.doWrite, h, State.leaveMark]

/-! ### The claim registers -/

/-- CLAIM_FA, CLAIM_HIT, CLAIM_SHARE and CLAIM_BLANK. -/
abbrev claimAddrs : List Nat := [CLAIM_FA.addr, CLAIM_HIT.addr, CLAIM_SHARE.addr, CLAIM_BLANK.addr]

theorem claimAddrs_range : ∀ a ∈ claimAddrs, 0x20 ≤ a ∧ a < 0x30 ∧ a % 4 = 0 := by decide

theorem claimAddrs_domains : ∀ a ∈ claimAddrs, domainsOf a = [dAON] := by decide

theorem claimAddrs_block : ∀ a ∈ claimAddrs, (blockOf a).isSome = true := by decide

theorem claimAddrs_row : ∀ a ∈ claimAddrs, (regRow? a).isSome = true := by decide

theorem accessCheck_claim {s : State} {a : Nat} (hon : s.domOn dAON = true) (ha : a ∈ claimAddrs) :
    s.accessCheck a = none := by
  obtain ⟨-, -, align⟩ := claimAddrs_range a ha
  have power : s.powered a = true := by simp [State.powered, claimAddrs_domains a ha, hon]
  exact accessCheck_eq_none align (claimAddrs_block a ha) power

theorem writeBlock_claim {a : Nat} (ha : a ∈ claimAddrs) (s : State) (v : W32) :
    s.writeBlock a v = s.writeClaim a v := by
  obtain ⟨lo, hi, -⟩ := claimAddrs_range a ha
  have block : a < 0x10000 := by omega
  simp [State.writeBlock, State.writeIdentity, block, lo, hi]

/-- While AON is on, a write to a claim register is a write under the claims' own rule (R42, R45). -/
theorem writeReg_claim {s : State} {a : Nat} (hon : s.domOn dAON = true) (ha : a ∈ claimAddrs)
    (v : W32) : s.writeReg a v = s.writeClaim a v := by
  obtain ⟨-, hi, -⟩ := claimAddrs_range a ha
  have below : ¬ 0x8000 ≤ a := by omega
  have patch : isPatchRam a = false := by simp [isPatchRam, below]
  rw [writeReg_eq_writeBlock (accessCheck_claim hon ha) patch (by omega) (claimAddrs_row a ha),
    writeBlock_claim ha]

theorem writeClaim_of_probe {s : State} (hprobe : s.modeOn mPROBE = true) (a : Nat) (v : W32) :
    s.writeClaim a v = .error (stStateConflict, 0x22, .nothing) := by
  simp [State.writeClaim, hprobe, refuseWrite]

/-! ### The two steps that write a claim register -/

theorem exec_claimWrite (a : Addr) (v : W32) (s : State) :
    Machine.exec (.claimWrite a v) s = .next (s.doWrite a.toNat v) := rfl

theorem exec_registerWrite (a : Addr) (v : W32) (s : State) :
    Machine.exec (.registerWrite a v) s = .next (s.doWrite a.toNat v) := rfl

/-- Settles O33: the write comes to the claims' own rule, and its refusal leaves no mark. -/
theorem claimWriteUnderProbe : Obligations.ClaimWriteUnderProbe := by
  unfold Obligations.ClaimWriteUnderProbe
  intro s a v hon hprobe ha
  have refused : s.writeReg a.toNat v = .error (stStateConflict, 0x22, .nothing) :=
    (writeReg_claim hon ha v).trans (writeClaim_of_probe hprobe _ v)
  have kept : s.doWrite a.toNat v = s := doWrite_of_refused refused
  refine ⟨refused, ?_, ?_⟩
  · rw [exec_claimWrite, kept]
  · rw [exec_registerWrite, kept]

end Sys2Proof
end

section
/-! A reserved event source (R455). `State.raise` passes over it. Its EV_SRC register stands in the
event matrix block, whose domain is CORE: a write to it passes every check of the register path and
comes to `State.writeEvents`, which drops it, and a read comes to `State.showWord`, which shows 0. -/
namespace Sys2Proof

open Sys2Proof.Machine

/-! ### The register path -/

/-- A register below the memories, outside the patch RAM and none of those whose read latches
another (R80), shows its word and moves nothing but its RC fields. -/
theorem readReg_eq_showWord {s : State} {a : Nat} (access : s.accessCheck a = none)
    (patch : isPatchRam a = false) (low : a < 0x400000) (row : (regRow? a).isSome = true)
    (time : ¬ (0x10000 ≤ a ∧ a < 0x20000)) (clears : Bool) :
    s.readReg a clears = .ok (s.showWord a, s.when clears (fun t => t.restartRc a)) := by
  have hvec : ¬ 0x800000 ≤ a := by omega
  have hcap : ¬ 0x400000 ≤ a := by omega
  have hnow : a ≠ TB_NOW_LO.addr := by simp only [TB_NOW_LO]; omega
  have hedge : a ≠ TSYNC_LAST_LO.addr := by simp only [TSYNC_LAST_LO]; omega
  have hoffset : ¬ (0x10100 ≤ a ∧ a < 0x101A0) := by omega
  simp [State.readReg, State.readWord, access, patch, hvec, hcap, Option.isSome_iff_ne_none.mp row,
    hnow, hedge, hoffset]

/-! ### The EV_SRC registers -/

theorem evSrc_addr (n : Nat) : (EV_SRC n).addr = 0x44000 + 4 * n := rfl

theorem evSrc_range (n : Fin 704) :
    0x44000 ≤ (EV_SRC n).addr ∧ (EV_SRC n).addr < 0x44B00 ∧ (EV_SRC n).addr % 4 = 0 := by
  have := n.isLt
  rw [evSrc_addr]
  omega

theorem evSrc_source (n : Nat) : ((EV_SRC n).addr - 0x44000) / 4 = n := by
  rw [evSrc_addr]
  omega

theorem evSrc_patch (n : Fin 704) : isPatchRam (EV_SRC n).addr = false := by
  obtain ⟨lo, -, -⟩ := evSrc_range n
  have above : ¬ (EV_SRC n).addr < 0xC000 := by omega
  simp [isPatchRam, above]

theorem evSrc_block (n : Fin 704) : (blockOf (EV_SRC n).addr).isSome = true := by
  obtain ⟨-, hi, -⟩ := evSrc_range n
  have low : (EV_SRC n).addr < 0x60000 := by omega
  simp [blockOf, low]

theorem evSrc_row (n : Fin 704) : (regRow? (EV_SRC n).addr).isSome = true := by
  obtain ⟨lo, hi, align⟩ := evSrc_range n
  have block : (EV_SRC n).addr / 0x10000 = 4 := by omega
  have index : ((EV_SRC n).addr - 0x44000) / 4 < 704 := (evSrc_source n).symm ▸ n.isLt
  have step : ((EV_SRC n).addr - 0x44000) % 4 = 0 := by omega
  simp [regRow?, blockRows, block, rowsEvents, RegRow.covers, lo, index, step]

/-- EV_SRC is accessible while CORE is on (R461). -/
theorem accessCheck_evSrc {s : State} (hon : s.domOn dCORE = true) (n : Fin 704) :
    s.accessCheck (EV_SRC n).addr = none := by
  obtain ⟨lo, hi, align⟩ := evSrc_range n
  have domains : domainsOf (EV_SRC n).addr = [dCORE] := by
    unfold domainsOf
    iterate 4 rw [if_neg (by omega)]
    rw [if_pos (by omega)]
  have power : s.powered (EV_SRC n).addr = true := by simp [State.powered, domains, hon]
  exact accessCheck_eq_none align (evSrc_block n) power

theorem writeBlock_evSrc (s : State) (n : Fin 704) (v : W32) :
    s.writeBlock (EV_SRC n).addr v = .ok (s.writeEvents (EV_SRC n).addr v) := by
  obtain ⟨lo, hi, -⟩ := evSrc_range n
  unfold State.writeBlock
  iterate 4 rw [if_neg (by omega)]
  rw [if_pos (by omega)]

/-- While CORE is on, a write to EV_SRC is a write under the event matrix's own rule (R455, R461). -/
theorem writeReg_evSrc {s : State} (hon : s.domOn dCORE = true) (n : Fin 704) (v : W32) :
    s.writeReg (EV_SRC n).addr v = .ok (s.writeEvents (EV_SRC n).addr v) := by
  obtain ⟨-, hi, -⟩ := evSrc_range n
  rw [writeReg_eq_writeBlock (accessCheck_evSrc hon n) (evSrc_patch n) (by omega) (evSrc_row n),
    writeBlock_evSrc]

theorem readReg_evSrc {s : State} (hon : s.domOn dCORE = true) (n : Fin 704) (clears : Bool) :
    s.readReg (EV_SRC n).addr clears =
      .ok (s.showWord (EV_SRC n).addr, s.when clears (fun t => t.restartRc (EV_SRC n).addr)) := by
  obtain ⟨lo, hi, -⟩ := evSrc_range n
  exact readReg_eq_showWord (accessCheck_evSrc hon n) (evSrc_patch n) (by omega) (evSrc_row n)
    (by omega) clears

/-! ### A reserved source -/

theorem raise_of_reserved {n : Nat} (hres : sourceReserved n = true) (s : State) :
    s.raise n = s := by
  simp [State.raise, hres]

theorem writeEvents_of_reserved {n : Fin 704} (hres : sourceReserved n = true) (s : State) (v : W32) :
    s.writeEvents (EV_SRC n).addr v = s := by
  obtain ⟨lo, hi, -⟩ := evSrc_range n
  simp [State.writeEvents, lo, hi, evSrc_source, hres]

theorem showWord_of_reserved {n : Fin 704} (hres : sourceReserved n = true) (s : State) :
    s.showWord (EV_SRC n).addr = 0 := by
  obtain ⟨lo, hi, -⟩ := evSrc_range n
  have hcmd : (EV_SRC n).addr ≠ CMD_STAT.addr := by simp only [CMD_STAT]; omega
  have hgx : (EV_SRC n).addr ≠ GX_STAT.addr := by simp only [GX_STAT]; omega
  have hport : ¬ (EV_SRC n).addr < 0x21500 := by omega
  have hcus : (EV_SRC n).addr ≠ CUS_STAT.addr := by simp only [CUS_STAT]; omega
  have hsum : (EV_SRC n).addr ≠ EV_SUM.addr := by simp only [EV_SUM]; omega
  simp [State.showWord, hcmd, hgx, hport, hcus, hsum, lo, hi, evSrc_source, hres]

theorem exec_sourceRaise (n : Fin 704) (s : State) :
    Machine.exec (.sourceRaise n) s = .next (s.raise n) := rfl

/-- Settles O34: a raise passes over the source, and both accesses come to the rule of its register. -/
theorem reservedSourcesAreInert : Obligations.ReservedSourcesAreInert := by
  unfold Obligations.ReservedSourcesAreInert
  intro s n v hres
  refine ⟨raise_of_reserved hres s, ?_, fun hon => ⟨?_, fun clears => ?_⟩⟩
  · rw [exec_sourceRaise, raise_of_reserved hres]
  · rw [writeReg_evSrc hon, writeEvents_of_reserved hres]
  · exact ⟨_, by rw [readReg_evSrc hon, showWord_of_reserved hres]⟩

end Sys2Proof
end
